-- ==== Sys2Proof/Word.lean ====
section
/-! DEFINITION. Bytes and the plain number conventions of 00_scope.md section 5 (clamping and saturation). -/

namespace Sys2Proof

/-- One byte of a frame, a panel record or the configuration record. -/
abbrev Byte := BitVec 8

/-- A value outside a range is clamped to the nearer end (00_scope section 5, "Numbers and ranges"). -/
def clampTo (lo hi x : Nat) : Nat := max lo (min hi x)

/-- One count up, staying at `top` when already there (00_scope section 5: "saturates"). -/
def bump (top x : Nat) : Nat := min top (x + 1)

end Sys2Proof
end

