-- ==== Sys2Proof/Config.lean ====
section
/-! DEFINITION. What the manual leaves open as a value: constants without a body, so that nothing can be proved of which
value they are. -/

namespace Sys2Proof.Config

/-- The target byte the curtain station writes into its own CURTAIN STATE frames. R30 gives the frame a "target curtain
station"; no rule says which one a STATE frame names. R78 and R179 bound it to 0..31. DESIGN CHOICE (log 17): a free
value, for each own station number. Receivers do not consult it (R48). -/
opaque stateFrameTarget : Nat → Fin 32

/-- The byte that stands for the origin LOCAL in a panel record (R127, R147, R180). No table gives it. DESIGN CHOICE
(log 18): a free value. -/
opaque localOriginCode : Byte

/-- The byte that names the limit switch in a POSITION_MISMATCH record (R97, R98); true is TOP. No rule lists the
switches. DESIGN CHOICE (log 18): a free value for each. -/
opaque limitSwitchCode : Bool → Byte

/-- The two bytes of an upward (negative) travel in a DESCENT_STALLED record (R120). R180 gives no signed form but that
of the phase error. DESIGN CHOICE (log 18): a free value for each travel. -/
opaque upwardTravelCode : Int → BitVec 16

/-- What the panel processor receives in a transfer cut by a device reset: "bytes that carry no record" (R168). No rule
gives the bytes. DESIGN CHOICE (log 39): a free value for each place in the transfer. -/
opaque voidTransferByte : Nat → Byte

end Sys2Proof.Config
end

