-- ==== Sys2Proof/Syntax.lean ====
section
/-! DEFINITION. The names of the manual (states, kinds, roles, frames) and `Instr`, the commands of
spec/opcode_table.json, one constructor a row. -/

namespace Sys2Proof

/-! ## Named values (12 section 12.1 and the lists of the rules) -/

/-- The four comparator classes and readings (R4). `openCircuit` is OPEN. -/
inductive Reading | clear | active | openCircuit | short
deriving DecidableEq, Repr

inductive ZoneState | quiet | preAlarm | investigating | alarm | fault | isolated
deriving DecidableEq, Repr

inductive ZoneKind | detector | callPoint
deriving DecidableEq, Repr

/-- The causes of a zone change, in the order of R16. -/
inductive ZoneCause | reading | faultScore | t1Expiry | t2Expiry | coincidence | ack | reset | isolate | restore
deriving DecidableEq, Repr

/-- The conditions in rank order (R58). -/
inductive Condition | quiet | fault | preAlarm | alarm
deriving DecidableEq, Repr

inductive Role | stage | curtain | foh | fire | area
deriving DecidableEq, Repr

/-- The station modes (R169). `inShow` is SHOW. -/
inductive Mode | standby | inShow | rehearsal | test
deriving DecidableEq, Repr

inductive Phase | configRead | unconfigured | listen | active
deriving DecidableEq, Repr

inductive Liveness | present | late | lost
deriving DecidableEq, Repr

inductive CurtainState
  | down | up | stopped | warnRaise | raising | warnLower | lowering | dropping | jammed
deriving DecidableEq, Repr

/-- The causes of a curtain change, in the order of R99. -/
inductive CurtainCause
  | startUp | lower | drop | stop | raiseHold | warningDone | holdLapse | driveReadyLost | startTimeout
  | stopTimeout | driveStopped | alarm | preAlarm | failSafe | bottomLimit | top | descentLate | descentStalled
deriving DecidableEq, Repr

/-- The curtain requests (R100). STATE frames are not requests and have a payload of their own. -/
inductive CurtainKind | lower | drop | stop | raiseHold
deriving DecidableEq, Repr

inductive SyncMode | track | once | monitor
deriving DecidableEq, Repr

inductive LockState | seeking | locked
deriving DecidableEq, Repr

/-- The call classes in rank order (R147). `showCall` is SHOW. -/
inductive CallClass | routine | showCall | safety
deriving DecidableEq, Repr

/-- A start kind with its start beat (R75). `nextBoundary` is NEXT, `atBeat n` is AT n. -/
inductive Start | now | nextBoundary | atBeat (n : BitVec 8)
deriving DecidableEq, Repr

/-- The station faults of R55. -/
inductive StationFault | lineDegraded | duplicate | alone | requiredLost | curtain
deriving DecidableEq, Repr

/-- A station fault set (R55). -/
structure FaultSet where
  lineDegraded : Bool
  duplicate    : Bool
  alone        : Bool
  requiredLost : Bool
  curtain      : Bool
deriving DecidableEq, Repr

/-- An area block: its size in areas and its offset (00_scope section 6). -/
structure AreaBlock where
  size   : Nat
  offset : Nat
deriving DecidableEq, Repr

/-- A cue linked to a call: level and duration in beats (R147). -/
structure LinkedCue where
  level    : Nat
  duration : Nat
deriving DecidableEq, Repr

/-- One entry of a STATUS zone list or of a peer's zone list (R30, R43). -/
structure PeerZone where
  index : Nat
  area  : Nat
  state : ZoneState
deriving DecidableEq, Repr

/-- The six commands with what their kind carries (R78). Zone 8 of an ACK is "all zones". -/
inductive Command
  | ack (zone : Nat) | reset | silence | isolate (zone : Nat) | restore (zone : Nat) | setMode (mode : Mode)
deriving DecidableEq, Repr

/-- The matter of a line frame, by class and kind (R30). A STATUS carries a curtain when its role is CURTAIN (R178). -/
inductive Payload
  | zone (index area : Nat) (state : ZoneState)
  | beat (number : BitVec 8)
  | command (cmd : Command) (target : Nat)
  | curtain (kind : CurtainKind) (target : Nat)
  | curtainState (target : Nat) (state : CurtainState) (pos : Nat)
  | cue (block : AreaBlock) (level duration : Nat) (start : Start)
  | call (block : AreaBlock) (pattern : Nat) (cls : CallClass) (repeats : Nat) (start : Start) (linked : Option LinkedCue)
  | status (role : Role) (mode : Mode) (faults : FaultSet) (curtain : Option (CurtainState × Nat)) (zones : List PeerZone)
deriving DecidableEq, Repr

/-- A line frame: the sender's station number and the payload (R25). -/
structure Frame where
  sender  : Nat
  payload : Payload
deriving DecidableEq, Repr

/-! ## Operands that come from the pins -/

/-- What the configuration read brought (R170): the memory failed to acknowledge, or the bytes of the record. -/
inductive ConfigRead | noMemory | bytes (record : List Byte)
deriving DecidableEq, Repr

/-- The levels of the curtain inputs that the Curtain Governor consults between their changes (06 section 6.1). -/
structure CurtainPins where
  driveReady  : Bool
  topLimit    : Bool
  bottomLimit : Bool
deriving DecidableEq, Repr

/-- What the inputs show at a sample event (R4, R108): the pairs ZCnA, ZCnB (true is high), DRIVE_MOVING, and which of
the drive handshake and the descent is judged first, which R114 and R120 leave open (log 10). -/
structure SampleInputs where
  zonePins       : List (Bool × Bool)
  driveMoving    : Bool
  handshakeFirst : Bool
deriving DecidableEq, Repr

/-- The arguments of a CALL request as they stand in its bytes (12 section 12.3). -/
structure CallArgs where
  size       : Nat
  offset     : Nat
  pattern    : Nat
  cls        : Nat
  repeats    : Nat
  startKind  : Nat
  startBeat  : Nat
  linkedFlag : Nat
  level      : Nat
  duration   : Nat
deriving DecidableEq, Repr

/-- The arguments of a CUE request as they stand in its bytes (12 section 12.3). -/
structure CueArgs where
  size      : Nat
  offset    : Nat
  level     : Nat
  duration  : Nat
  startKind : Nat
  startBeat : Nat
deriving DecidableEq, Repr

/-! ## The commands -/

/-- The rows of spec/opcode_table.json, in the table's order. `keysw` and `driveMoving` of a request are the levels of
those pins when the request is taken (R89, R116). -/
inductive Instr
  | deviceReset
  | resetRelease
  | configReadDone (read : ConfigRead) (pins : CurtainPins)
  | sampleEvent (inputs : SampleInputs)
  | t1Expiry (zone : Nat)
  | t2Expiry (zone : Nat)
  | beatExpiry
  | fadeStep
  | fadeComplete (channel : Nat)
  | dimmerTransferEnd
  | peerLivenessChange (station : Nat)
  | alone
  | statusInterval
  | listenEnd
  | holdLapse
  | txStart
  | arbitrationLost
  | bitError
  | frameSent
  | rxFrameError (bytes : List Byte) (endViolated : Bool)
  | zoneFrame (sender zone area : Nat) (state : ZoneState)
  | statusFrame (sender : Nat) (role : Role) (mode : Mode) (faults : FaultSet) (curtain : Option (CurtainState × Nat)) (zones : List PeerZone)
  | beatFrame (sender : Nat) (number : BitVec 8)
  | commandAck (sender target zone : Nat)
  | commandReset (sender target : Nat)
  | commandSilence (sender target : Nat)
  | commandIsolate (sender target zone : Nat)
  | commandRestore (sender target zone : Nat)
  | commandSetMode (sender target : Nat) (mode : Mode)
  | curtainLowerFrame (sender target : Nat)
  | curtainDropFrame (sender target : Nat)
  | curtainStopFrame (sender target : Nat)
  | curtainRaiseHoldFrame (sender target : Nat)
  | curtainStateFrame (sender target : Nat) (state : CurtainState) (pos : Nat)
  | cueFrame (sender : Nat) (block : AreaBlock) (level duration : Nat) (start : Start)
  | callFrame (sender : Nat) (block : AreaBlock) (pattern : Nat) (cls : CallClass) (repeats : Nat) (start : Start) (linked : Option LinkedCue)
  | cadencePhase
  | repetitionEnd
  | evacuationPhase
  | encoderCount (up : Bool)
  | bottomLimit (active : Bool)
  | topLimit (active : Bool)
  | driveReadyLost (ready : Bool)
  | startTimeout
  | stopTimeout
  | descentStalled
  | transferStart
  | transferVoid
  | none
  | unknownRequest (kind tag : Nat)
  | call (tag : Nat) (args : CallArgs)
  | cue (tag : Nat) (args : CueArgs)
  | curtainLower (tag target : Nat)
  | curtainDrop (tag target : Nat)
  | curtainStop (tag target : Nat)
  | curtainRaiseHold (tag target : Nat)
  | ack (tag : Nat) (keysw : Bool) (target zone : Nat)
  | reset (tag : Nat) (keysw : Bool) (target : Nat)
  | silence (tag : Nat) (keysw : Bool) (target : Nat)
  | isolate (tag : Nat) (keysw : Bool) (target zone : Nat)
  | restore (tag : Nat) (keysw : Bool) (target zone : Nat)
  | setMode (tag : Nat) (keysw : Bool) (target mode : Nat)
  | setMaster (tag value : Nat)
  | readZone (tag zone : Nat)
  | readPeer (tag station : Nat)
  | readChannel (tag channel : Nat)
  | readCurtain (tag : Nat) (driveMoving : Bool)
  | readCounters (tag clearFlag : Nat)
  | readQueue (tag position : Nat)
  | readBeat (tag clearFlag : Nat)
deriving DecidableEq, Repr

end Sys2Proof
end

