-- ==== Sys2Proof/Decode.lean ====
section
/-! DEFINITION. Which command a word spells. The table gives no row any bits, so no word spells one (log 31). -/

namespace Sys2Proof

/-- The rows of opcode_table.json have no fields: a command of this block is an event at its pins, not a word. -/
def decodeTableWord (_nbits _w : Nat) : Option Instr := none

end Sys2Proof
end

