-- ==== Sys2Proof/Machine/Operands.lean ====
section
/-! DEFINITION. Operand forms: area blocks, the codes of 12 section 12.1, start kinds, and which fields of a line frame
have a meaning (R30, R78, R179). -/

namespace Sys2Proof

/-! ## Area blocks -/

/-- The block sizes of 00_scope section 6. -/
def AreaBlock.sizeOk (b : AreaBlock) : Bool :=
  b.size == 1 || b.size == 2 || b.size == 4 || b.size == 8 || b.size == 16

/-- A block that a frame or a request can name: one of the five sizes and an offset 0..15 (R142, R160, R179). -/
def AreaBlock.named (b : AreaBlock) : Bool := b.sizeOk && decide (b.offset ≤ 15)

/-- A misaligned offset is aligned down to a multiple of the size (R30). -/
def AreaBlock.aligned (b : AreaBlock) : AreaBlock := { b with offset := b.offset - b.offset % b.size }

/-- The areas of a block: `size` consecutive areas from the offset. -/
def AreaBlock.contains (b : AreaBlock) (area : Nat) : Bool :=
  decide (b.offset ≤ area) && decide (area < b.offset + b.size)

/-- R148: two blocks intersect when the larger contains the smaller's offset, and blocks of equal size intersect when
they are equal. -/
def AreaBlock.intersects (a b : AreaBlock) : Bool :=
  if a.size = b.size then decide (a = b)
  else if a.size < b.size then b.contains a.offset
  else a.contains b.offset

/-! ## Codes (12 section 12.1; a list that section does not give is coded by position in its rule) -/

def Reading.code : Reading → Nat
  | .clear => 0 | .active => 1 | .openCircuit => 2 | .short => 3

def ZoneState.code : ZoneState → Nat
  | .quiet => 0 | .preAlarm => 1 | .investigating => 2 | .alarm => 3 | .fault => 4 | .isolated => 5

def ZoneState.ofCode : Nat → Option ZoneState
  | 0 => some .quiet | 1 => some .preAlarm | 2 => some .investigating | 3 => some .alarm | 4 => some .fault
  | 5 => some .isolated | _ => none

def ZoneKind.code : ZoneKind → Nat
  | .detector => 0 | .callPoint => 1

def ZoneCause.code : ZoneCause → Nat
  | .reading => 0 | .faultScore => 1 | .t1Expiry => 2 | .t2Expiry => 3 | .coincidence => 4 | .ack => 5 | .reset => 6
  | .isolate => 7 | .restore => 8

def Condition.code : Condition → Nat
  | .quiet => 0 | .fault => 1 | .preAlarm => 2 | .alarm => 3

def Role.code : Role → Nat
  | .stage => 0 | .curtain => 1 | .foh => 2 | .fire => 3 | .area => 4

def Role.ofCode : Nat → Option Role
  | 0 => some .stage | 1 => some .curtain | 2 => some .foh | 3 => some .fire | 4 => some .area | _ => none

def Mode.code : Mode → Nat
  | .standby => 0 | .inShow => 1 | .rehearsal => 2 | .test => 3

def Mode.ofCode : Nat → Option Mode
  | 0 => some .standby | 1 => some .inShow | 2 => some .rehearsal | 3 => some .test | _ => none

def Phase.code : Phase → Nat
  | .configRead => 0 | .unconfigured => 1 | .listen => 2 | .active => 3

/-- Liveness codes; NONE, the liveness of no entry, is 0. -/
def Liveness.code : Option Liveness → Nat
  | none => 0 | some .present => 1 | some .late => 2 | some .lost => 3

def CurtainState.code : CurtainState → Nat
  | .down => 0 | .up => 1 | .stopped => 2 | .warnRaise => 3 | .raising => 4 | .warnLower => 5 | .lowering => 6
  | .dropping => 7 | .jammed => 8

def CurtainState.ofCode : Nat → Option CurtainState
  | 0 => some .down | 1 => some .up | 2 => some .stopped | 3 => some .warnRaise | 4 => some .raising
  | 5 => some .warnLower | 6 => some .lowering | 7 => some .dropping | 8 => some .jammed | _ => none

def CurtainCause.code : CurtainCause → Nat
  | .startUp => 0 | .lower => 1 | .drop => 2 | .stop => 3 | .raiseHold => 4 | .warningDone => 5 | .holdLapse => 6
  | .driveReadyLost => 7 | .startTimeout => 8 | .stopTimeout => 9 | .driveStopped => 10 | .alarm => 11
  | .preAlarm => 12 | .failSafe => 13 | .bottomLimit => 14 | .top => 15 | .descentLate => 16 | .descentStalled => 17

def CurtainKind.code : CurtainKind → Nat
  | .lower => 0 | .drop => 1 | .stop => 2 | .raiseHold => 3

def CurtainKind.ofCode : Nat → Option CurtainKind
  | 0 => some .lower | 1 => some .drop | 2 => some .stop | 3 => some .raiseHold | _ => none

def SyncMode.code : SyncMode → Nat
  | .track => 0 | .once => 1 | .monitor => 2

def LockState.code : LockState → Nat
  | .seeking => 0 | .locked => 1

def CallClass.code : CallClass → Nat
  | .routine => 1 | .showCall => 2 | .safety => 3

/-- The classes a CALL frame or request may name (R148, R160): ROUTINE and SHOW. -/
def CallClass.ofCode : Nat → Option CallClass
  | 1 => some .routine | 2 => some .showCall | _ => none

def Start.kindCode : Start → Nat
  | .now => 0 | .nextBoundary => 1 | .atBeat _ => 2

/-- The start beat carried with AT. -/
def Start.beat : Start → Option (BitVec 8)
  | .atBeat n => some n | _ => none

/-- A start kind and start beat as they stand in their bytes. The start beat counts only with AT (12 section 12.2) and
is then 0..255 (R142, R160). -/
def Start.ofCodes (kind beat : Nat) : Option Start :=
  match kind with
  | 0 => some .now
  | 1 => some .nextBoundary
  | 2 => if beat ≤ 255 then some (.atBeat (BitVec.ofNat 8 beat)) else none
  | _ => none

def Command.code : Command → Nat
  | .ack _ => 0 | .reset => 1 | .silence => 2 | .isolate _ => 3 | .restore _ => 4 | .setMode _ => 5

/-- The flag of each station fault (12 section 12.1). -/
def StationFault.code : StationFault → Nat
  | .lineDegraded => 0x01 | .duplicate => 0x02 | .alone => 0x04 | .requiredLost => 0x08 | .curtain => 0x10

/-- The byte of flags of a fault set. -/
def FaultSet.code (f : FaultSet) : Nat :=
  (if f.lineDegraded then 0x01 else 0) + (if f.duplicate then 0x02 else 0) + (if f.alone then 0x04 else 0)
    + (if f.requiredLost then 0x08 else 0) + (if f.curtain then 0x10 else 0)

/-- A fault set byte; any of its top three bits set is a code without meaning (R179). -/
def FaultSet.ofByte (b : Byte) : Option FaultSet :=
  if b.toNat < 32 then
    some { lineDegraded := b.getLsbD 0, duplicate := b.getLsbD 1, alone := b.getLsbD 2, requiredLost := b.getLsbD 3
           curtain := b.getLsbD 4 }
  else none

/-! ## The flags of a fault set (R55) -/

/-- One flag of the set. -/
def FaultSet.get (f : FaultSet) : StationFault → Bool
  | .lineDegraded => f.lineDegraded
  | .duplicate => f.duplicate
  | .alone => f.alone
  | .requiredLost => f.requiredLost
  | .curtain => f.curtain

/-- The set with one flag given a value. -/
def FaultSet.put (f : FaultSet) (x : StationFault) (v : Bool) : FaultSet :=
  match x with
  | .lineDegraded => { f with lineDegraded := v }
  | .duplicate => { f with duplicate := v }
  | .alone => { f with alone := v }
  | .requiredLost => { f with requiredLost := v }
  | .curtain => { f with curtain := v }

/-- The fault set holds at least one fault. -/
def FaultSet.any (f : FaultSet) : Bool :=
  f.lineDegraded || f.duplicate || f.alone || f.requiredLost || f.curtain

/-! ## Frame classes and fields -/

/-- The class of each payload (R30). -/
def Payload.cls : Payload → Nat
  | .zone .. => 0
  | .beat _ => 1
  | .command .. => 2
  | .curtain .. => 3
  | .curtainState .. => 3
  | .cue .. => 4
  | .call .. => 5
  | .status .. => 6

def Payload.isZone : Payload → Bool
  | .zone .. => true
  | _ => false

def Payload.isBeat : Payload → Bool
  | .beat _ => true
  | _ => false

/-! ## Which fields have a meaning -/

/-- The zone index ranges of R78 for each command kind. -/
def Command.zoneOk : Command → Bool
  | .ack z => decide (z ≤ 8)
  | .isolate z => decide (z ≤ 7)
  | .restore z => decide (z ≤ 7)
  | _ => true

/-- A STATUS zone list names no index twice (R30). -/
def PeerZone.distinct : List PeerZone → Bool
  | [] => true
  | z :: zs => !zs.any (fun y => y.index == z.index) && PeerZone.distinct zs

/-- An entry of a STATUS zone list (R30, R179): index 0..7, area 0..15, a state other than QUIET. -/
def PeerZone.entryOk (z : PeerZone) : Bool :=
  decide (z.index ≤ 7) && decide (z.area ≤ 15) && decide (z.state ≠ .quiet)

/-- No field of the payload holds a value without meaning (R30, R78, R179). -/
def Payload.formOk : Payload → Bool
  | .zone i a _ => decide (i ≤ 7) && decide (a ≤ 15)
  | .beat _ => true
  | .command c t => c.zoneOk && decide (t ≤ 31)
  | .curtain _ t => decide (t ≤ 31)
  | .curtainState t _ _ => decide (t ≤ 31)
  | .cue b _ _ _ => b.named
  | .call b p c _ _ _ => b.named && decide (p ≤ 7) && decide (c ≠ .safety)
  | .status _ _ _ _ zs => decide (zs.length ≤ 8) && zs.all PeerZone.entryOk && PeerZone.distinct zs

/-- R32: the sender station number is not 0 (five bits, so 1..31) and the payload's fields have a meaning. -/
def Frame.formOk (f : Frame) : Bool :=
  decide (1 ≤ f.sender) && decide (f.sender ≤ 31) && f.payload.formOk

/-- Every number of the payload can stand in its bytes of 12 section 12.2, and the curtain fields are carried exactly
in a STATUS of the CURTAIN role (R178). -/
def Payload.fits : Payload → Bool
  | .curtainState _ _ p => decide (p ≤ 65535)
  | .cue _ l d _ => decide (l ≤ 65535) && decide (d ≤ 255)
  | .call _ _ _ r _ none => decide (r ≤ 255)
  | .call _ _ _ r _ (some q) => decide (r ≤ 255) && decide (q.level ≤ 65535) && decide (q.duration ≤ 255)
  | .status r _ _ (some (_, p)) _ => decide (r = .curtain) && decide (p ≤ 65535)
  | .status r _ _ none _ => decide (r ≠ .curtain)
  | _ => true

end Sys2Proof
end

