-- ==== Sys2Proof/Machine/State.lean ====
section
/-! DEFINITION. Everything the spec gives the controller to hold, as plain data, and its values after a device reset.
INVENTORY.md lists the rule of each field. -/

namespace Sys2Proof.Machine

/-! ## Configuration (R171, 12 section 12.4) -/

structure ZoneConfig where
  enabled   : Bool
  kind      : ZoneKind
  area      : Nat
  t1        : Nat
  t2        : Nat
  threshold : Nat
deriving DecidableEq, Repr

/-- Area and enabled field of a sounder or a channel. -/
structure OutputConfig where
  area    : Nat
  enabled : Bool
deriving DecidableEq, Repr

/-- A call pattern (R145): on-time A, period B, cycle count n, gap G, in ms. -/
structure Pattern where
  onTime : Nat
  period : Nat
  cycles : Nat
  gap    : Nat
deriving DecidableEq, Repr

/-- The configuration record in force, after clamping (R171). -/
structure ConfigRecord where
  station        : Nat
  role           : Role
  served         : AreaBlock
  concern        : AreaBlock
  publicAreas    : BitVec 16
  startMode      : Mode
  solo           : Bool
  required       : List Nat
  statusInterval : Nat
  period         : Nat
  window         : Nat
  syncMode       : SyncMode
  errorThreshold : Nat
  zones          : List ZoneConfig
  sounders       : List OutputConfig
  channels       : List OutputConfig
  patterns       : List Pattern
  evacOn         : Nat
  evacPeriod     : Nat
  warningPattern : Nat
  pTop           : Nat
  tolerance      : Nat
  descentLimit   : Nat
  stallLimit     : Nat
  startTimeout   : Nat
  holdLapse      : Nat
deriving DecidableEq, Repr

/-! ## The blocks -/

/-- R37: the transmit queue and the send slot; R69: the BEAT held aside; R34 to R36: counters, score, threshold. -/
structure LineState where
  tx         : List Payload
  slot       : Option Payload
  heldBeat   : Option (BitVec 8)
  checkCount : Nat
  formCount  : Nat
  bitCount   : Nat
  score      : Nat
  good       : Nat
  threshold  : Nat
deriving DecidableEq, Repr

/-- An entry of the peer table (R43). `none` is UNKNOWN or absent. -/
structure PeerEntry where
  station  : Nat
  role     : Option Role
  mode     : Option Mode
  faults   : Option FaultSet
  curtain  : Option (CurtainState × Nat)
  zones    : List PeerZone
  heard    : Nat
  liveness : Liveness
deriving DecidableEq, Repr

/-- The Peer Monitor (R43, R53, R56). -/
structure PeerState where
  table    : List PeerEntry
  anyPeer  : Nat
  schedule : Nat
deriving DecidableEq, Repr

/-- The Beat Unit (R62). `overtaken` is the model's own mark: a BEAT has been followed and no time has passed since
(R70, log 38). -/
structure BeatState where
  number     : BitVec 8
  position   : Nat
  running    : Bool
  stepIndex  : Nat
  sync       : SyncMode
  lock       : LockState
  run        : Nat
  phaseError : Int
  received   : Nat
  period     : Nat
  window     : Nat
  overtaken  : Bool
deriving DecidableEq, Repr

/-- A zone record (R1). `restarted` is the model's own mark: a RESET has restarted the running T1 and no time has passed
since (R20, log 43). -/
structure ZoneRecord where
  enabled    : Bool
  kind       : ZoneKind
  area       : Nat
  t1         : Nat
  t2         : Nat
  threshold  : Nat
  state      : ZoneState
  history    : List Reading
  reading    : Option Reading
  faultScore : Nat
  timer      : Option Nat
  restarted  : Bool
deriving DecidableEq, Repr

/-- The raise hold (R93): beats remaining and the state to return to. -/
structure Hold where
  remaining : Nat
  back      : CurtainState
deriving DecidableEq, Repr

/-- The drive handshake (R93). NONE and RUNNING keep no sample count (log 35). -/
inductive Handshake | idle | start (count : Nat) | running | stop (count : Nat)
deriving DecidableEq, Repr

inductive ReadingKind | position | movement
deriving DecidableEq, Repr

/-- The descent record (R117). -/
structure Descent where
  t            : Nat
  kind         : ReadingKind
  readings     : List Nat
  stallCount   : Nat
  lateReported : Bool
deriving DecidableEq, Repr

/-- The three curtain outputs (R94): true is asserted or on. -/
structure CurtainOutputs where
  brake : Bool
  raise : Bool
  lower : Bool
deriving DecidableEq, Repr

/-- The curtain record (R93) and the outputs. `stalledNow` is the model's own mark: a stall has jammed a lowering and no
time has passed since (R124, log 36). -/
structure CurtainRecord where
  state     : Option CurtainState
  pos       : Nat
  known     : Bool
  movement  : BitVec 16
  hold      : Option Hold
  handshake : Handshake
  descent   : Option Descent
  out       : CurtainOutputs
  stalledNow : Bool
deriving DecidableEq, Repr

/-- Who gave a cue or a call (R127, R147). `localUnit` is LOCAL. -/
inductive Origin | station (n : Nat) | localUnit
deriving DecidableEq, Repr

inductive CueSource | line | callLink
deriving DecidableEq, Repr

/-- What a staged fade or a chosen call waits for (R126, R144): the next boundary, or beat n. The moment from which a
call waits NEXT is not kept (log 37). -/
inductive Wait | next | beat (n : BitVec 8)
deriving DecidableEq, Repr

/-- A staged fade (R126). `cue` is the key of its cue table entry. -/
structure StagedFade where
  cue      : Nat
  target   : Nat
  duration : Nat
  wait     : Wait
deriving DecidableEq, Repr

/-- An active fade (R126): start level S, target T, duration D and elapsed steps e. -/
structure ActiveFade where
  cue      : Nat
  start    : Nat
  target   : Nat
  duration : Nat
  elapsed  : Nat
deriving DecidableEq, Repr

/-- A channel record (R126). -/
structure Channel where
  area    : Nat
  enabled : Bool
  level   : Nat
  staged  : Option StagedFade
  active  : Option ActiveFade
  code    : Nat
deriving DecidableEq, Repr

/-- A cue table entry (R127). Its two counts are those of the channels that name its key (log 21, log 23). -/
structure CueEntry where
  key      : Nat
  serial   : BitVec 16
  source   : CueSource
  origin   : Origin
  block    : AreaBlock
  level    : Nat
  duration : Nat
  start    : Start
deriving DecidableEq, Repr

/-- The Light Fader (R126 to R128, R137). `sending` holds the codes of the transfer in progress. -/
structure LightState where
  channels        : List Channel
  cues            : List CueEntry
  master          : Nat
  nextSerial      : BitVec 16
  nextKey         : Nat
  sending         : Option (List Nat)
  pendingTransfer : Bool
deriving DecidableEq, Repr

/-- What tells call queue entries apart (R147, R150): pattern, target block and class. -/
structure CallKey where
  pattern : Nat
  block   : AreaBlock
  cls     : CallClass
deriving DecidableEq, Repr

/-- A call queue entry (R147). -/
structure CallEntry where
  key     : CallKey
  repeats : Nat
  origin  : Origin
  start   : Start
  linked  : Option LinkedCue
  started : Bool
  playing : Bool
deriving DecidableEq, Repr

inductive Cadence | idle | waitingStart | playing | resting
deriving DecidableEq, Repr

inductive CadencePhase | on | off | gap
deriving DecidableEq, Repr

/-- The repetition position (R144): cycle index, phase, and ms since the repetition began. -/
structure RepPosition where
  cycle : Nat
  phase : CadencePhase
  time  : Nat
deriving DecidableEq, Repr

/-- The evacuation position (R144): phase ON or not, and ms since the phase began. -/
structure EvacPosition where
  on   : Bool
  time : Nat
deriving DecidableEq, Repr

/-- The Call Unit (R144). -/
structure CallState where
  queue      : List CallEntry
  cadence    : Cadence
  chosen     : Option CallKey
  wait       : Option Wait
  position   : Option RepPosition
  pause      : Bool
  evacuation : Bool
  silence    : Bool
  evacPos    : Option EvacPosition
  sounders   : List OutputConfig
deriving DecidableEq, Repr

/-! ## Reports, answers and results (10, 12 section 12.3) -/

inductive TxDropReason | bitError | evicted | full
deriving DecidableEq, Repr

inductive IgnoreReason | senderUnknown | senderRole | notAlarm
deriving DecidableEq, Repr

/-- The reasons of CURTAIN_REFUSED in the order of R104. -/
inductive RaiseReason | listen | positionUnknown | condition | stationFault | driveNotReady | state
deriving DecidableEq, Repr

inductive CallIgnoreReason | condition | mode
deriving DecidableEq, Repr

inductive CallDropReason | evicted | full
deriving DecidableEq, Repr

inductive SilenceCause | silence | resound | reset | alarmEnd
deriving DecidableEq, Repr

/-- Why UNCONFIGURED was entered (R170). -/
inductive ConfigFailure | noMemory | check | station | role
deriving DecidableEq, Repr

/-- How LISTEN ended (R174, R175). -/
inductive ListenCause | listenEnd | ownAlarm
deriving DecidableEq, Repr

inductive UnalignedKind | cue (serial : BitVec 16) (origin : Origin) | call
deriving DecidableEq, Repr

/-- The limit switches of POSITION_MISMATCH (R97, R98). -/
inductive LimitSwitch | bottom | top
deriving DecidableEq, Repr

/-- Which fade of a superseded cue went last (R131). -/
inductive LastFade | staged | active
deriving DecidableEq, Repr

/-- The report kinds of 10 section 10.5, with the contents their rules give. -/
inductive Report
  | zoneChanged (zone area : Nat) (previous new : ZoneState) (cause : ZoneCause)
  | commandRefused (cmd : Command)
  | txDropped (frame : Payload) (reason : TxDropReason)
  | duplicateStation
  | lineDegradedChanged (value : Bool) (score : Nat)
  | peerChanged (station : Nat) (previous new : Option Liveness)
  | stationFaultChanged (fault : StationFault) (value : Bool)
  | conditionChanged (previous new : Condition) (faults : FaultSet)
  | syncModeChanged (previous new : SyncMode)
  | beatSlip (error : Int) (received held : BitVec 8)
  | lockChanged (new : LockState)
  | unaligned (kind : UnalignedKind) (n current : BitVec 8)
  | commandTaken (cmd : Command) (sender target : Nat) (isLocal : Bool)
  | commandIgnored (cmd : Command) (sender target : Nat) (judged : Option Role) (reason : IgnoreReason)
  | curtainChanged (previous : Option CurtainState) (new : CurtainState) (cause : CurtainCause) (pos : Nat) (known : Bool)
  | curtainIgnored (kind : CurtainKind) (sender : Nat) (judged : Option Role) (reason : IgnoreReason)
  | curtainRefused (sender : Nat) (reason : RaiseReason)
  | positionMismatch (switch : LimitSwitch) (pos : Nat)
  | descentLate (state : CurtainState) (t pos k : Nat) (travelled : Int) (need : Nat)
  | descentStalled (state : CurtainState) (t : Nat) (kind : ReadingKind) (newest : Nat) (travelled : Int) (k stallCount : Nat)
  | cueLate (serial : BitVec 16) (origin : Origin) (n current : BitVec 8)
  | cueSuperseded (serial : BitVec 16) (origin : Origin) (block : AreaBlock) (last : LastFade) (by_ : BitVec 16)
  | cueDone (serial : BitVec 16) (source : CueSource) (origin : Origin) (block : AreaBlock) (level duration : Nat)
  | cuesCancelled (count : Nat)
  | callLate (pattern : Nat) (block : AreaBlock) (origin : Origin) (n current : BitVec 8)
  | callIgnored (key : CallKey) (origin : Origin) (reason : CallIgnoreReason)
  | callDropped (key : CallKey) (origin : Origin) (reason : CallDropReason)
  | callMerged (key : CallKey) (origin : Origin) (repeats : Nat)
  | callStarted (key : CallKey) (origin : Origin) (repeats : Nat)
  | callDone (key : CallKey) (origin : Origin)
  | callsFlushed (count : Nat)
  | silenceChanged (value : Bool) (cause : SilenceCause)
  | configClamped (count offset : Nat)
  | phaseListen (station : Nat) (role : Role) (mode : Mode)
  | phaseUnconfigured (reason : ConfigFailure)
  | phaseActive (cause : ListenCause)
  | modeChanged (previous new : Mode) (sender : Nat)
  | modeRefused (present requested : Mode) (sender : Nat)
  | reportsLost (count : Nat)
deriving DecidableEq, Repr

/-- A report record (R166): the beat number as it stood when the report was made, and the report. -/
structure ReportRecord where
  beat   : BitVec 8
  report : Report
deriving DecidableEq, Repr

/-- The request kinds of 12 section 12.3. -/
inductive RequestKind
  | none | call | cue | curtainLower | curtainDrop | curtainStop | curtainRaiseHold | ack | reset | silence | isolate
  | restore | setMode | setMaster | readZone | readPeer | readChannel | readCurtain | readCounters | readQueue | readBeat
  | unknown (code : Nat)
deriving DecidableEq, Repr

/-- The refusal reasons of 12 section 12.3. -/
inductive RefusalReason
  | unconfigured | notReady | noAuthority | badValue | wrongMode | condition | notPresent | txFull
deriving DecidableEq, Repr

/-- A channel read back (R143). -/
structure ChannelResult where
  channel   : Channel
  stagedCue : Option CueEntry
  activeCue : Option CueEntry
  master    : Nat
  floor     : Bool
  entries   : Nat
deriving DecidableEq, Repr

/-- A curtain record read back (R116). -/
structure CurtainResult where
  record      : CurtainRecord
  driveReady  : Bool
  driveMoving : Bool
  topLimit    : Bool
  bottomLimit : Bool
  fault       : Bool
deriving DecidableEq, Repr

/-- The line counters read back (R34). -/
structure CountersResult where
  checkCount   : Nat
  formCount    : Nat
  bitCount     : Nat
  score        : Nat
  good         : Nat
  threshold    : Nat
  lineDegraded : Bool
  duplicate    : Bool
  waiting      : Nat
deriving DecidableEq, Repr

/-- A queue position read back with the Call Unit's state (R161). `chosen` is the chosen entry's position. -/
structure QueueResult where
  entry      : Option CallEntry
  count      : Nat
  cadence    : Cadence
  chosen     : Option Nat
  wait       : Option Wait
  position   : Option RepPosition
  pause      : Bool
  evacuation : Bool
  silence    : Bool
  evacPos    : Option EvacPosition
  sounders   : List (OutputConfig × Bool)
deriving DecidableEq, Repr

/-- The result records of the READ requests. -/
inductive ReadResult
  | zone (record : ZoneRecord)
  | peer (station : Nat) (entry : Option PeerEntry)
  | channel (result : ChannelResult)
  | curtain (result : Option CurtainResult)
  | counters (result : CountersResult)
  | queue (result : QueueResult)
  | beat (state : BeatState)
deriving DecidableEq, Repr

/-- An answer in the result holder (R164). -/
inductive Answer
  | taken (kind : RequestKind) (tag : Nat)
  | refused (kind : RequestKind) (tag : Nat) (reason : RefusalReason)
  | result (kind : RequestKind) (tag : Nat) (record : ReadResult)
deriving DecidableEq, Repr

/-- Where the record of an open transfer came from (R163). -/
inductive RecordSource | empty | holder | report
deriving DecidableEq, Repr

/-- The panel link (R162, R168): no transfer, a transfer with the record chosen when PCS fell, or a transfer cut by a
device reset. -/
inductive Link
  | idle
  | sending (source : RecordSource) (bytes : List Byte)
  | void
deriving DecidableEq, Repr

/-- The Panel Port (R162 to R168). -/
structure PanelState where
  holder    : Option Answer
  reports   : List ReportRecord
  lost      : Nat
  attention : Bool
  link      : Link
deriving DecidableEq, Repr

/-! ## The state -/

/-- One controller. -/
structure State where
  phase            : Phase
  mode             : Mode
  config           : Option ConfigRecord
  listenCount      : Nat
  clampCount       : Nat
  resetHeld        : Bool
  line             : LineState
  peers            : PeerState
  condition        : Condition
  faults           : FaultSet
  beat             : BeatState
  zones            : List ZoneRecord
  curtain          : CurtainRecord
  pins             : CurtainPins
  lights           : LightState
  calls            : CallState
  panel            : PanelState
  boundaryUnderway : Bool
  placementHeld    : Bool
  pending          : List Instr
deriving DecidableEq, Repr

/-- No rule of the spec stops the controller, so there is no fault to raise. -/
inductive Fault
deriving DecidableEq, Repr

/-- Refusals of the model. -/
inductive Refusal
  /-- Raised by `exec` for a row that has no meaning yet. Safe. No arm raises it. -/
  | notModelled (mnemonic : String)
deriving DecidableEq, Repr

/-! ## Values after a device reset -/

def LineState.reset : LineState :=
  { tx := [], slot := none, heldBeat := none, checkCount := 0, formCount := 0, bitCount := 0, score := 0, good := 0
    threshold := 5 }

def PeerState.reset : PeerState := { table := [], anyPeer := 0, schedule := 0 }

/-- The empty station fault set. -/
def noFaults : FaultSet :=
  { lineDegraded := false, duplicate := false, alone := false, requiredLost := false, curtain := false }

def BeatState.reset : BeatState :=
  { number := 0, position := 0, running := false, stepIndex := 0, sync := .track, lock := .seeking, run := 0
    phaseError := 0, received := 0, period := 250, window := 20, overtaken := false }

def ZoneRecord.reset : ZoneRecord :=
  { enabled := false, kind := .detector, area := 0, t1 := 300, t2 := 1800, threshold := 5, state := .quiet
    history := [], reading := none, faultScore := 0, timer := none, restarted := false }

def CurtainOutputs.released : CurtainOutputs := { brake := false, raise := false, lower := false }

def CurtainRecord.reset : CurtainRecord :=
  { state := none, pos := 0, known := false, movement := 0, hold := none, handshake := .idle, descent := none
    out := .released, stalledNow := false }

def Channel.reset : Channel :=
  { area := 0, enabled := false, level := 1000, staged := none, active := none, code := 255 }

/-- R128: the reset makes a transfer of eight codes of 255 at once. -/
def LightState.reset : LightState :=
  { channels := List.replicate 8 Channel.reset, cues := [], master := 1000, nextSerial := 0, nextKey := 0
    sending := some (List.replicate 8 255), pendingTransfer := false }

def CallState.reset : CallState :=
  { queue := [], cadence := .idle, chosen := none, wait := none, position := none, pause := false, evacuation := false
    silence := false, evacPos := none, sounders := List.replicate 4 { area := 0, enabled := false } }

def PanelState.reset : PanelState :=
  { holder := none, reports := [], lost := 0, attention := false, link := .idle }

/-- The controller right after a device reset (R169, R2, R42, R52, R60, R63, R95, R125, R128, R146, R168). The levels
of `pins` and `resetHeld` are DESIGN CHOICE (log 1). -/
def State.reset : State :=
  { phase := .configRead, mode := .standby, config := none, listenCount := 0, clampCount := 0, resetHeld := false
    line := .reset, peers := .reset, condition := .quiet, faults := noFaults, beat := .reset
    zones := List.replicate 8 ZoneRecord.reset, curtain := .reset
    pins := { driveReady := false, topLimit := false, bottomLimit := false }
    lights := .reset, calls := .reset, panel := .reset
    boundaryUnderway := false, placementHeld := false, pending := [] }

end Sys2Proof.Machine
end

