-- ==== Sys2Proof/Machine/Ops.lean ====
section
/-! DEFINITION. The named updates of State's blocks, the configuration in force, and the report queue (10 section 10.4). -/

namespace Sys2Proof.Machine

/-! ## Named updates, one a block -/

def State.setPhase (s : State) (x : Phase) : State := { s with phase := x }
def State.setMode (s : State) (x : Mode) : State := { s with mode := x }
def State.setConfig (s : State) (x : Option ConfigRecord) : State := { s with config := x }
def State.setListenCount (s : State) (x : Nat) : State := { s with listenCount := x }
def State.setClampCount (s : State) (x : Nat) : State := { s with clampCount := x }
def State.setResetHeld (s : State) (x : Bool) : State := { s with resetHeld := x }
def State.setLine (s : State) (x : LineState) : State := { s with line := x }
def State.setPeers (s : State) (x : PeerState) : State := { s with peers := x }
def State.setCondition (s : State) (x : Condition) : State := { s with condition := x }
def State.setFaults (s : State) (x : FaultSet) : State := { s with faults := x }
def State.setBeat (s : State) (x : BeatState) : State := { s with beat := x }
def State.setZones (s : State) (x : List ZoneRecord) : State := { s with zones := x }
def State.setCurtain (s : State) (x : CurtainRecord) : State := { s with curtain := x }
/-- The mark of R124 (log 36): set as a stall jams a lowering, cleared as time passes. -/
def markStalled (v : Bool) (s : State) : State := s.setCurtain { s.curtain with stalledNow := v }
/-- Time has passed: the marks of a stall (log 36) and of a T1 restarted by a RESET (log 43) end. -/
def clearMarks (s : State) : State :=
  markStalled false (s.setZones (s.zones.map (fun z => { z with restarted := false })))
def State.setPins (s : State) (x : CurtainPins) : State := { s with pins := x }
def State.setLights (s : State) (x : LightState) : State := { s with lights := x }
def State.setCalls (s : State) (x : CallState) : State := { s with calls := x }
def State.setPanel (s : State) (x : PanelState) : State := { s with panel := x }
def State.setBoundaryUnderway (s : State) (x : Bool) : State := { s with boundaryUnderway := x }
def State.setPlacementHeld (s : State) (x : Bool) : State := { s with placementHeld := x }
def State.setPending (s : State) (x : List Instr) : State := { s with pending := x }

/-! ## The configuration in force -/

/-- The recommended values of R171. They stand for the fields no rule reads while the record is absent. -/
def ConfigRecord.recommended : ConfigRecord :=
  { station := 1, role := .area, served := ⟨16, 0⟩, concern := ⟨16, 0⟩, publicAreas := 0, startMode := .standby
    solo := false, required := [], statusInterval := 8, period := 250, window := 20, syncMode := .track
    errorThreshold := 5, zones := [], sounders := [], channels := [], patterns := [], evacOn := 20, evacPeriod := 30
    warningPattern := 0, pTop := 1000, tolerance := 200, descentLimit := 300, stallLimit := 10, startTimeout := 20
    holdLapse := 3 }

/-- The configuration a rule consults. Outside CONFIG_READ and UNCONFIGURED it is the record in force (R169, R172). -/
def State.cfg (s : State) : ConfigRecord := s.config.getD ConfigRecord.recommended

/-- The phases in which the blocks work: LISTEN and ACTIVE (11 section 11.3, the table of phases). -/
def State.working (s : State) : Bool := s.phase == .listen || s.phase == .active

/-- An area of the concern block (R58). -/
def State.concerns (s : State) (area : Nat) : Bool := s.cfg.concern.contains area

/-! ## The report queue -/

/-- R166, R167: a report joins the tail; while the queue holds 32 it is dropped and counted. ATTENTION is asserted while
the queue holds a report. -/
def PanelState.push (p : PanelState) (r : ReportRecord) : PanelState :=
  if p.reports.length < 32 then { p with reports := p.reports ++ [r], attention := true }
  else { p with lost := bump 255 p.lost }

/-- A report is placed in the report queue, with the beat number as it stands (R166). -/
def report (r : Report) (s : State) : State := s.setPanel (s.panel.push ⟨s.beat.number, r⟩)

/-- Reports placed one after another. -/
def reports (rs : List Report) (s : State) : State := rs.foldl (fun s r => report r s) s

end Sys2Proof.Machine
end

