-- ==== Sys2Proof/Machine/Lights.lean ====
section
/-! DEFINITION. The Light Fader (08): channels, cues, fades, the output law and the dimmer transfer. Also the judgement
of a start at a beat (R75, R76), which the Call Unit shares. -/

namespace Sys2Proof.Machine

/-! ## Starting at a beat -/

/-- The outcome of a start judgement (R75). -/
inductive StartOutcome
  | atOnce | late (n : BitVec 8) | nextBoundary | waitFor (n : BitVec 8) | unaligned (n : BitVec 8)
deriving DecidableEq, Repr

/-- The distance of R75 and R76: d = (n - beat number) mod 256. -/
def beatsAhead (n current : BitVec 8) : Nat := (n - current).toNat

/-- R75: the judgement of a start request, from the beat number and lock state as they stand. -/
def judgeStart (b : BeatState) : Start → StartOutcome
  | .now => .atOnce
  | .nextBoundary => .nextBoundary
  | .atBeat n =>
    match b.lock with
    | .seeking => .unaligned n
    | .locked => if 1 ≤ beatsAhead n b.number ∧ beatsAhead n b.number ≤ 127 then .waitFor n else .late n

/-- R76: what a boundary does to a start that waits. -/
inductive DueOutcome | onTime | late (n : BitVec 8) | waits
deriving DecidableEq, Repr

/-- R76: a start waiting for the next boundary is due; one waiting for beat n is judged against the new number. -/
def judgeDue (number : BitVec 8) : Wait → DueOutcome
  | .next => .onTime
  | .beat n =>
    if beatsAhead n number = 0 then .onTime else if 128 ≤ beatsAhead n number then .late n else .waits

/-! ## Output -/

/-- R136: the output code from the level, the master level and whether the condition is ALARM. -/
def outputCode (alarm : Bool) (master level : Nat) : Nat :=
  let m := if alarm then 1000 else level * master / 1000
  (m * m * 255 + 500000) / 1000000

/-- The channel with its output code computed afresh; a disabled channel stays at 255 (R126, R136). -/
def Channel.recode (alarm : Bool) (master : Nat) (c : Channel) : Channel :=
  { c with code := if c.enabled then outputCode alarm master c.level else 255 }

def LightState.codes (l : LightState) : List Nat := l.channels.map (fun c => c.code)

/-- The eight bits of an output code, most significant first. -/
def codeBits (code : Nat) : List Bool := (List.range 8).map (fun i => code.testBit (7 - i))

/-- R137: what the transfer in progress puts on LDATA: every code in order of channel index, most significant bit first;
the pulse on LLATCH follows. -/
def LightState.ldata (l : LightState) : Option (List Bool) := l.sending.map (fun codes => codes.flatMap codeBits)

/-- R137: a transfer begins at once when none is in progress, and is otherwise held pending. -/
def LightState.requestTransfer (l : LightState) : LightState :=
  match l.sending with
  | none => { l with sending := some l.codes }
  | some _ => { l with pendingTransfer := true }

/-- R137: the codes are recomputed, and a change of any of them (or `always`, R140) requests a transfer. -/
def LightState.refresh (alarm always : Bool) (l : LightState) : LightState :=
  let l' := { l with channels := l.channels.map (Channel.recode alarm l.master) }
  if always || l'.codes != l.codes then l'.requestTransfer else l'

def refreshLights (always : Bool) (s : State) : State :=
  s.setLights (s.lights.refresh (s.condition == .alarm) always)

def setChannels (cs : List Channel) (s : State) : State := s.setLights { s.lights with channels := cs }

def setCues (cs : List CueEntry) (s : State) : State := s.setLights { s.lights with cues := cs }

/-! ## The cue table -/

def Channel.stagedKey (c : Channel) : Option Nat := c.staged.map (fun f => f.cue)

def Channel.activeKey (c : Channel) : Option Nat := c.active.map (fun f => f.cue)

/-- The staged count of a cue (R127). -/
def stagedCount (cs : List Channel) (key : Nat) : Nat := cs.countP (fun c => c.stagedKey == some key)

/-- The active count of a cue (R127). -/
def activeCount (cs : List Channel) (key : Nat) : Nat := cs.countP (fun c => c.activeKey == some key)

/-- The cue is staged or active on at least one channel (R127). -/
def isAlive (cs : List Channel) (e : CueEntry) : Bool :=
  decide (stagedCount cs e.key ≠ 0) || decide (activeCount cs e.key ≠ 0)

/-- R131: the CUE_SUPERSEDED report of an entry whose last fade a newer cue has replaced; `before` are the channels
before the replacement. -/
def supersededReport (before : List Channel) (newer : BitVec 16) (e : CueEntry) : Report :=
  .cueSuperseded e.serial e.origin e.block
    (if activeCount before e.key = 0 then LastFade.staged else LastFade.active) newer

/-- R131: the channels take their new fades, and every entry left without a fade is removed and reported, the oldest
first. The table is kept in order of age. -/
def supersede (newer : BitVec 16) (cs : List Channel) (s : State) : State :=
  let gone := s.lights.cues.filter (fun e => !isAlive cs e)
  reports (gone.map (supersededReport s.lights.channels newer))
    (setCues (s.lights.cues.filter (isAlive cs)) (setChannels cs s))

/-- R135: a fade whose elapsed steps have reached D ends at its target. -/
def Channel.finish (c : Channel) : Channel :=
  match c.active with
  | some f => if f.duration ≤ f.elapsed then { c with level := f.target, active := none } else c
  | none => c

def doneReport (e : CueEntry) : Report := .cueDone e.serial e.source e.origin e.block e.level e.duration

/-- R135: every fade that has reached its end completes; each cue left without a fade is removed with CUE_DONE. -/
def finishFades (s : State) : State :=
  let cs := s.lights.channels.map Channel.finish
  let gone := s.lights.cues.filter (fun e => !isAlive cs e)
  reports (gone.map doneReport) (setCues (s.lights.cues.filter (isAlive cs)) (setChannels cs s))

/-! ## Taking a cue -/

/-- A cue after its values are prepared (R129): block aligned, level and duration (in beats) clamped. -/
structure PreparedCue where
  source   : CueSource
  origin   : Origin
  block    : AreaBlock
  level    : Nat
  duration : Nat
  start    : Start
deriving DecidableEq, Repr

/-- R129: the target block is aligned down, the level and the duration are clamped. -/
def prepareCue (source : CueSource) (origin : Origin) (block : AreaBlock) (level duration : Nat) (start : Start) : PreparedCue :=
  { source := source, origin := origin, block := block.aligned, level := clampTo 0 1000 level
    duration := clampTo 0 240 duration, start := start }

/-- R129: the cue applies to every enabled channel whose area lies in the target block. -/
def PreparedCue.appliesTo (q : PreparedCue) (c : Channel) : Bool := c.enabled && q.block.contains c.area

/-- D in steps: ten times the duration in beats (R129). -/
def PreparedCue.steps (q : PreparedCue) : Nat := 10 * q.duration

def PreparedCue.entry (q : PreparedCue) (key : Nat) (serial : BitVec 16) : CueEntry :=
  { key := key, serial := serial, source := q.source, origin := q.origin, block := q.block, level := q.level
    duration := q.duration, start := q.start }

/-- R130, R132: on each channel it applies to, the cue becomes the active fade from the present level, and a staged fade
is removed. -/
def PreparedCue.beginOn (q : PreparedCue) (key : Nat) (c : Channel) : Channel :=
  if q.appliesTo c then
    { c with staged := none
             active := some { cue := key, start := c.level, target := q.level, duration := q.steps, elapsed := 0 } }
  else c

/-- R130: on each channel it applies to, the cue becomes the staged fade; the active fade runs on. -/
def PreparedCue.stageOn (q : PreparedCue) (key : Nat) (w : Wait) (c : Channel) : Channel :=
  if q.appliesTo c then { c with staged := some { cue := key, target := q.level, duration := q.steps, wait := w } }
  else c

/-- The cue's entry joins the table after the fades it replaces are gone (R127), and its channels have their fades. -/
def enterCue (q : PreparedCue) (key : Nat) (serial : BitVec 16) (cs : List Channel) (s : State) : State :=
  let s1 := supersede serial cs s
  setCues (s1.lights.cues ++ [q.entry key serial]) s1

/-- R129, R130, R132, R135: a prepared cue is taken with the outcome of its start judgement. A cue that applies to no
channel is disregarded. -/
def takeCue (q : PreparedCue) (outcome : StartOutcome) (s : State) : State :=
  if !s.lights.channels.any q.appliesTo then s
  else
    let key := s.lights.nextKey
    let serial := s.lights.nextSerial
    let s1 := s.setLights { s.lights with nextKey := key + 1, nextSerial := serial + 1 }
    match outcome with
    | .atOnce =>
      refreshLights false (finishFades (enterCue q key serial (s1.lights.channels.map (q.beginOn key)) s1))
    | .late n =>
      refreshLights false (finishFades (enterCue q key serial (s1.lights.channels.map (q.beginOn key))
        (report (.cueLate serial q.origin n s.beat.number) s1)))
    | .nextBoundary =>
      enterCue q key serial (s1.lights.channels.map (q.stageOn key .next)) s1
    | .waitFor n =>
      enterCue q key serial (s1.lights.channels.map (q.stageOn key (.beat n))) s1
    | .unaligned n =>
      enterCue q key serial (s1.lights.channels.map (q.stageOn key .next))
        (report (.unaligned (.cue serial q.origin) n s.beat.number) s1)

/-- R129, R130: a CUE frame is taken by the Light Fader. -/
def takeCueFrame (sender : Nat) (block : AreaBlock) (level duration : Nat) (start : Start) (s : State) : State :=
  takeCue (prepareCue .line (.station sender) block level duration start) (judgeStart s.beat start) s

/-- R141: a linked cue is taken as a cue of source CALL_LINK started NOW, without a start judgement. -/
def takeLinkedCue (origin : Origin) (block : AreaBlock) (linked : LinkedCue) (s : State) : State :=
  takeCue (prepareCue .callLink origin block linked.level linked.duration .now) .atOnce s

/-! ## Steps and boundaries -/

/-- R134: the level after e of D steps, S + trunc((T - S) * e / D). -/
def fadeLevel (start target elapsed duration : Nat) : Nat :=
  ((start : Int) + Int.tdiv (((target : Int) - start) * elapsed) duration).toNat

/-- R134: a channel with an active fade advances by one step. -/
def Channel.step (c : Channel) : Channel :=
  match c.active with
  | some f =>
    if c.enabled then
      { c with level := fadeLevel f.start f.target (f.elapsed + 1) f.duration
               active := some { f with elapsed := f.elapsed + 1 } }
    else c
  | none => c

/-- R134, R135: every active fade advances by one step, and those that reach D complete. -/
def stepFades (s : State) : State :=
  finishFades (setChannels (s.lights.channels.map Channel.step) s)

/-- The due outcome of a cue's staged fades at a boundary; all of them wait alike (R133). `none`: nothing staged. -/
def stagedOutcome (number : BitVec 8) (cs : List Channel) (key : Nat) : Option DueOutcome :=
  (cs.filterMap (fun c => c.staged)).find? (fun f => f.cue == key) |>.map (fun f => judgeDue number f.wait)

/-- R133: the staged fade of the cue leaves its place and starts on its channel (R132). -/
def startStaged (key : Nat) (c : Channel) : Channel :=
  match c.staged with
  | some f =>
    if f.cue = key then
      { c with staged := none
               active := some { cue := key, start := c.level, target := f.target, duration := f.duration, elapsed := 0 } }
    else c
  | none => c

/-- R133: the due staged fades of one cue start, after its CUE_LATE report where there is one. -/
def startDueCue (e : CueEntry) (s : State) : State :=
  let start (s : State) : State :=
    finishFades (supersede e.serial (s.lights.channels.map (startStaged e.key)) s)
  match stagedOutcome s.beat.number s.lights.channels e.key with
  | some .onTime => start s
  | some (.late n) => start (report (.cueLate e.serial e.origin n s.beat.number) s)
  | _ => s

/-- R133: the Light Fader takes a beat boundary: the fade step, then the staged fades that are due, the oldest cue
first. -/
def lightBoundary (s : State) : State :=
  let s1 := stepFades s
  refreshLights false (s1.lights.cues.foldl (fun s e => startDueCue e s) s1)

/-- R134, R137: a fade step between boundaries. -/
def lightStep (s : State) : State := refreshLights false (stepFades s)

/-! ## The condition and the master level -/

/-- R140: an enabled channel after the end of an ALARM. -/
def Channel.afterAlarm (c : Channel) : Channel :=
  { c with staged := none, active := none, level := if c.enabled then 1000 else c.level }

/-- R140: a change out of ALARM cancels every fade, holds the enabled channels at full level, recomputes the codes and
requests a transfer. -/
def cancelFades (s : State) : State :=
  let n := s.lights.cues.length
  let s1 := refreshLights true (setCues [] (setChannels (s.lights.channels.map Channel.afterAlarm) s))
  if n = 0 then s1 else report (.cuesCancelled n) s1

/-- R139, R140: the Light Fader takes a change of the effective condition, already held as `s.condition`. -/
def lightCondition (previous : Condition) (s : State) : State :=
  if previous = .alarm ∧ s.condition ≠ .alarm then cancelFades s else refreshLights false s

/-- R138: a new master level. -/
def setMasterLevel (value : Nat) (s : State) : State :=
  refreshLights false (s.setLights { s.lights with master := clampTo 0 1000 value })

/-- R137: a dimmer transfer ends with its latch pulse, and a pending transfer begins with the codes then standing. -/
def endTransfer (l : LightState) : LightState :=
  match l.sending with
  | none => l
  | some _ =>
    if l.pendingTransfer then { l with sending := some l.codes, pendingTransfer := false } else { l with sending := none }

/-- R135 for the row FADE_COMPLETE: the elapsed steps of the fade on channel n reach D, and with it those of every fade
of the same cue still running. -/
def completeFade (n : Nat) (s : State) : State :=
  match (s.lights.channels[n]?).bind Channel.activeKey with
  | none => s
  | some key =>
    refreshLights false (finishFades (setChannels (s.lights.channels.map (fun c =>
      match c.active with
      | some f => if f.cue = key then { c with active := some { f with elapsed := f.duration } } else c
      | none => c)) s))

end Sys2Proof.Machine
end

