-- ==== Sys2Proof/Machine/Calls.lean ====
section
/-! DEFINITION. The Call Unit (09): the call queue, the choice and start of entries, the cadence, the sounders, the
evacuation tone and the silence flag. -/

namespace Sys2Proof.Machine

/-! ## Patterns -/

/-- The pattern of a call (R145). -/
def State.pattern (s : State) (k : Nat) : Pattern := s.cfg.patterns.getD k ⟨20, 30, 1, 0⟩

/-- The time at which the present phase of a repetition ends, in ms from its start (the table of R145). -/
def phaseEnd (p : Pattern) (x : RepPosition) : Nat :=
  match x.phase with
  | .on => x.cycle * p.period + p.onTime
  | .off => (x.cycle + 1) * p.period
  | .gap => p.cycles * p.period + p.gap

/-- The position after the present phase ends (R145). `none`: what ends is the repetition itself (R154). The gap keeps the
index of the last cycle (DESIGN CHOICE, log 42). -/
def nextPhase (p : Pattern) (x : RepPosition) : Option RepPosition :=
  match x.phase with
  | .on => some { x with phase := .off, time := phaseEnd p x }
  | .off =>
    if x.cycle + 1 < p.cycles then some { cycle := x.cycle + 1, phase := .on, time := phaseEnd p x }
    else if 0 < p.gap then some { x with phase := .gap, time := phaseEnd p x }
    else none
  | .gap => none

/-- How long each evacuation phase lasts: ON for A, OFF for B - A (R145). -/
def evacLength (c : ConfigRecord) (on : Bool) : Nat := if on then c.evacOn else c.evacPeriod - c.evacOn

/-! ## Queue order -/

/-- R147: a new entry joins behind every entry of its class and of higher class. -/
def joinCalls (e : CallEntry) : List CallEntry → List CallEntry
  | [] => [e]
  | x :: xs => if e.key.cls.code ≤ x.key.cls.code then x :: joinCalls e xs else e :: x :: xs

def findCall (k : CallKey) (q : List CallEntry) : Option CallEntry := q.find? (fun e => e.key == k)

def dropCall (k : CallKey) (q : List CallEntry) : List CallEntry := q.filter (fun e => e.key != k)

def setQueue (q : List CallEntry) (s : State) : State := s.setCalls { s.calls with queue := q }

/-! ## Choosing and starting -/

/-- R152: a ROUTINE or SHOW entry is paused while the pause flag is set; a SAFETY entry never is. -/
def mayPlay (pause : Bool) (e : CallEntry) : Bool := !pause || e.key.cls == .safety

/-- R154: the chosen entry starts a repetition; its first start is reported and hands over its linked cue. -/
def startEntry (e : CallEntry) (s : State) : State :=
  let q := s.calls.queue.map (fun x => if x.key = e.key then { x with started := true, playing := true } else x)
  let s1 := s.setCalls { s.calls with queue := q, cadence := .playing, chosen := some e.key, wait := none
                                      position := some { cycle := 0, phase := .on, time := 0 } }
  if e.started then s1
  else
    let s2 := report (.callStarted e.key e.origin e.repeats) s1
    match e.linked with
    | none => s2
    | some q => takeLinkedCue e.origin e.key.block q s2

/-- The chosen entry waits (R152, R153). -/
def awaitEntry (e : CallEntry) (w : Wait) (s : State) : State :=
  s.setCalls { s.calls with cadence := .waitingStart, chosen := some e.key, wait := some w }

def callLateReport (e : CallEntry) (n current : BitVec 8) : Report :=
  .callLate e.key.pattern e.key.block e.origin n current

/-- R153: the start of an entry that becomes chosen is judged, as part of a beat boundary or between boundaries. At a
boundary every entry in the queue has had a boundary pass since it joined (R149). -/
def judgeChosen (atBoundary : Bool) (e : CallEntry) (s : State) : State :=
  if e.started then startEntry e s
  else
    match e.start with
    | .now => startEntry e s
    | .nextBoundary => if atBoundary then startEntry e s else awaitEntry e .next s
    | .atBeat n =>
      match s.beat.lock with
      | .seeking => awaitEntry e .next (report (.unaligned .call n s.beat.number) s)
      | .locked =>
        let d := beatsAhead n s.beat.number
        if 1 ≤ d ∧ d ≤ 127 then awaitEntry e (.beat n) s
        else if atBoundary && d == 0 then startEntry e s
        else startEntry e (report (callLateReport e n s.beat.number) s)

/-- R152: the Call Unit makes a choice, in IDLE and in WAITING_START alone. -/
def choose (atBoundary : Bool) (s : State) : State :=
  if s.calls.cadence = .idle ∨ s.calls.cadence = .waitingStart then
    match s.calls.queue.find? (mayPlay s.calls.pause) with
    | none => s.setCalls { s.calls with cadence := .idle, chosen := none, wait := none }
    | some e =>
      if s.calls.cadence = .waitingStart ∧ s.calls.chosen = some e.key then s
      else judgeChosen atBoundary e s
  else s

/-! ## Taking a call -/

/-- The lowest class among the entries that are not playing (R151). -/
def lowestWaiting (q : List CallEntry) : Nat :=
  ((q.filter (fun e => !e.playing)).map (fun e => e.key.cls.code)).foldr min 4

/-- R151: the youngest entry of the lowest class among those not playing. -/
def evictionVictim (q : List CallEntry) : Option CallEntry :=
  (q.filter (fun e => !e.playing)).reverse.find? (fun e => e.key.cls.code == lowestWaiting q)

/-- An entry leaves the queue; when it was the chosen entry, no entry is chosen any more. -/
def removeCall (k : CallKey) (s : State) : State :=
  let s1 := setQueue (dropCall k s.calls.queue) s
  if s.calls.chosen = some k then s1.setCalls { s1.calls with cadence := .idle, chosen := none, wait := none } else s1

/-- R147, R150, R151, R152: an accepted call or a placement is merged, joins, evicts, or is dropped; then a choice is
made. -/
def enqueueCall (e : CallEntry) (s : State) : State :=
  match findCall e.key s.calls.queue with
  | some x =>
    let r := min 16 (x.repeats + e.repeats)
    let q := s.calls.queue.map (fun y => if y.key = e.key then { y with repeats := r } else y)
    choose false (report (.callMerged e.key e.origin r) (setQueue q s))
  | none =>
    if s.calls.queue.length < 16 then choose false (setQueue (joinCalls e s.calls.queue) s)
    else
      match evictionVictim s.calls.queue with
      | some v =>
        if v.key.cls.code < e.key.cls.code then
          let s1 := report (.callDropped v.key v.origin .evicted) (removeCall v.key s)
          choose false (setQueue (joinCalls e s1.calls.queue) s1)
        else report (.callDropped e.key e.origin .full) s
      | none => report (.callDropped e.key e.origin .full) s

/-- R148: what a CALL frame asks, after its values are aligned and clamped. -/
def frameCall (sender : Nat) (block : AreaBlock) (pattern : Nat) (cls : CallClass) (repeats : Nat) (start : Start)
    (linked : Option LinkedCue) : CallEntry :=
  { key := { pattern := pattern, block := block.aligned, cls := cls }, repeats := clampTo 1 16 repeats
    origin := .station sender, start := start
    linked := linked.map (fun q => { level := clampTo 0 1000 q.level, duration := clampTo 0 240 q.duration })
    started := false, playing := false }

/-- R148: a CALL frame is disregarded, ignored, or accepted. -/
def takeCallFrame (e : CallEntry) (s : State) : State :=
  if !e.key.block.intersects s.cfg.served then s
  else if s.condition = .alarm then report (.callIgnored e.key e.origin .condition) s
  else if s.mode = .standby then report (.callIgnored e.key e.origin .mode) s
  else enqueueCall e s

/-- R106, R149: the warning call of the Curtain Governor. -/
def warningCall (c : ConfigRecord) : CallEntry :=
  { key := { pattern := c.warningPattern, block := c.served, cls := .safety }, repeats := 1, origin := .localUnit
    start := .nextBoundary, linked := none, started := false, playing := false }

/-- R149: a placement made inside the delivery of a boundary is taken after the Call Unit has taken that boundary. -/
def placeWarning (s : State) : State :=
  if s.boundaryUnderway then s.setPlacementHeld true else enqueueCall (warningCall s.cfg) s

/-! ## Beat boundaries and the cadence -/

/-- R152, R153: the Call Unit takes a beat boundary: RESTING becomes IDLE, a wait is judged, and in IDLE a choice is
made. -/
def callBoundary (s : State) : State :=
  match s.calls.cadence with
  | .playing => s
  | .idle => choose true s
  | .resting => choose true (s.setCalls { s.calls with cadence := .idle })
  | .waitingStart =>
    match s.calls.chosen.bind (fun k => findCall k s.calls.queue), s.calls.wait with
    | some e, some w =>
      match judgeDue s.beat.number w with
      | .onTime => startEntry e s
      | .late n => startEntry e (report (callLateReport e n s.beat.number) s)
      | .waits => s
    | _, _ => choose true (s.setCalls { s.calls with cadence := .idle, chosen := none, wait := none })

/-- R145, R155: the repetition passes to its next phase. -/
def cadencePhase (s : State) : State :=
  match s.calls.cadence, s.calls.chosen, s.calls.position with
  | .playing, some k, some x =>
    match nextPhase (s.pattern k.pattern) x with
    | some y => s.setCalls { s.calls with position := some y }
    | none => s
  | _, _, _ => s

/-- R154 step 1: the repeats of the entry fall by 1 and it is no longer playing. -/
def endPlaying (k : CallKey) (s : State) : State :=
  setQueue (s.calls.queue.map (fun x =>
    if x.key = k then { x with repeats := x.repeats - 1, playing := false } else x)) s

/-- R154 steps 3 and 4: an entry without repeats leaves with CALL_DONE, and the cadence rests. -/
def restAfter (k : CallKey) (s : State) : State :=
  let s1 :=
    match findCall k s.calls.queue with
    | some e =>
      if e.repeats = 0 then report (.callDone e.key e.origin) (setQueue (dropCall k s.calls.queue) s) else s
    | none => s
  s1.setCalls { s1.calls with cadence := .resting, chosen := none, wait := none, position := none }

/-- R145: the evacuation pattern passes between its ON and OFF phases. -/
def evacuationPhase (s : State) : State :=
  match s.calls.evacPos with
  | some x => s.setCalls { s.calls with evacPos := some { on := !x.on, time := 0 } }
  | none => s

/-! ## Silence and the condition -/

/-- R158: the silence flag is set; every sounder goes off and the evacuation position is discarded. -/
def setSilence (s : State) : State :=
  if s.calls.silence then s
  else report (.silenceChanged true .silence) (s.setCalls { s.calls with silence := true, evacPos := none })

/-- R158: the silence flag is cleared; while the evacuation flag is set the pattern starts again from its ON phase. -/
def clearSilence (cause : SilenceCause) (s : State) : State :=
  if s.calls.silence then
    report (.silenceChanged false cause)
      (s.setCalls { s.calls with
        silence := false
        evacPos := if s.calls.evacuation then some { on := true, time := 0 } else s.calls.evacPos })
  else s

/-- R157: a change into ALARM flushes the queue and starts the evacuation tone. -/
def enterAlarmCalls (s : State) : State :=
  let n := s.calls.queue.length
  let s1 := s.setCalls { s.calls with queue := [], position := none }
  let s2 := if n = 0 then s1 else report (.callsFlushed n) s1
  s2.setCalls { s2.calls with
    cadence := .idle, chosen := none, wait := none, pause := false, evacuation := true
    evacPos := if s2.calls.silence then none else some { on := true, time := 0 } }

/-- R159: a change out of ALARM ends the tone and the silence, and sets the pause flag when it is into PRE_ALARM. -/
def leaveAlarmCalls (s : State) : State :=
  let s1 := s.setCalls { s.calls with evacuation := false, evacPos := none }
  let s2 := clearSilence .alarmEnd s1
  s2.setCalls { s2.calls with pause := s2.condition == .preAlarm }

/-- R156: a change into PRE_ALARM sets the pause flag, and a choice is made. -/
def pauseCalls (s : State) : State := choose false (s.setCalls { s.calls with pause := true })

/-- R156: a change from PRE_ALARM to QUIET or FAULT clears the pause flag; in IDLE the cadence rests until the next
boundary, otherwise the change of the flag makes a choice (R152). -/
def resumeCalls (s : State) : State :=
  if s.calls.cadence = .idle then s.setCalls { s.calls with pause := false, cadence := .resting }
  else choose false (s.setCalls { s.calls with pause := false })

/-- R156, R157, R159: the Call Unit takes a change of the effective condition, already held as `s.condition`. -/
def callCondition (previous : Condition) (s : State) : State :=
  if s.condition = previous then s
  else if s.condition = .alarm then enterAlarmCalls s
  else if previous = .alarm then leaveAlarmCalls s
  else if s.condition = .preAlarm then pauseCalls s
  else if previous = .preAlarm then resumeCalls s
  else s

/-! ## The sounders -/

/-- R155: the test for a sounder while an entry plays. -/
def entrySounds (c : ConfigRecord) (mode : Mode) (k : CallKey) (o : OutputConfig) : Bool :=
  k.block.contains o.area
    && (k.cls == .safety || mode == .inShow || (mode == .rehearsal && !c.publicAreas.getLsbD o.area))

/-- R155, R157: the output level of a sounder, from moment to moment. -/
def sounderLevel (s : State) (o : OutputConfig) : Bool :=
  o.enabled &&
    (if s.calls.evacuation then
      match s.calls.evacPos with
      | some x => x.on
      | none => false
    else
      match s.calls.cadence, s.calls.chosen, s.calls.position with
      | .playing, some k, some x => x.phase == .on && entrySounds s.cfg s.mode k o
      | _, _, _ => false)

/-! ## Milliseconds -/

/-- One millisecond of the cadence and the evacuation pattern; each stays in its phase, at the last millisecond of it, until
the row that ends the phase is taken (log 2). -/
def callTick (s : State) : CallState :=
  let c := s.calls
  { c with
    position :=
      match c.chosen, c.position with
      | some k, some x => if x.time + 1 < phaseEnd (s.pattern k.pattern) x then some { x with time := x.time + 1 } else some x
      | _, _ => c.position
    evacPos := c.evacPos.map (fun x => if x.time + 1 < evacLength s.cfg x.on then { x with time := x.time + 1 } else x) }

end Sys2Proof.Machine
end

