-- ==== Sys2Proof/Machine/Flags.lean ====
section
/-! DEFINITION. The station fault set as flags, and the effective condition computed from its inputs (03 sections 3.3
and 3.4). -/

namespace Sys2Proof.Machine

/-- The higher ranked of two conditions (R58). -/
def higher (a b : Condition) : Condition := if a.code ≤ b.code then b else a

/-- What a zone state contributes (the table of R58). -/
def contribution : ZoneState → Condition
  | .quiet => .quiet
  | .preAlarm => .preAlarm
  | .investigating => .preAlarm
  | .alarm => .alarm
  | .fault => .fault
  | .isolated => .fault

/-- The highest ranked of QUIET and the contributions given. -/
def highest (cs : List Condition) : Condition := cs.foldr higher .quiet

/-- The contributions of the own zones of the concern block (R58). -/
def State.ownContributions (s : State) : List Condition :=
  (s.zones.filter (fun z => s.concerns z.area)).map (fun z => contribution z.state)

/-- Every zone list entry of the peer table, whatever the liveness of its peer (R50, R58). -/
def State.peerZones (s : State) : List PeerZone := s.peers.table.flatMap (fun e => e.zones)

/-- The contributions of the peer zone list entries of the concern block (R58). -/
def State.peerContributions (s : State) : List Condition :=
  (s.peerZones.filter (fun z => s.concerns z.area)).map (fun z => contribution z.state)

/-- The effective condition from its inputs as they stand (R58). -/
def State.computedCondition (s : State) : Condition :=
  highest (s.ownContributions ++ s.peerContributions ++ [if s.faults.any then Condition.fault else Condition.quiet])

/-- PRE_ALARM, INVESTIGATING and ALARM: the states of activity (R13). -/
def inActivity : ZoneState → Bool
  | .preAlarm => true
  | .investigating => true
  | .alarm => true
  | _ => false

end Sys2Proof.Machine
end

