-- ==== Sys2Proof/Machine/Queue.lean ====
section
/-! DEFINITION. The transmit queue (02 section 2.6). -/

namespace Sys2Proof.Machine

/-- Frames of the same sort (the table of R38). Frames of every other sort are of no sort. -/
def sameSort : Payload → Payload → Bool
  | .zone i _ _, .zone j _ _ => i == j
  | .beat _, .beat _ => true
  | .curtain .raiseHold _, .curtain .raiseHold _ => true
  | .status .., .status .. => true
  | _, _ => false

/-- A frame of the same sort waits in the queue. -/
def waits (f : Payload) (q : List Payload) : Bool := q.any (fun g => sameSort g f)

/-- R38: the waiting frame of the same sort is replaced in its place. -/
def replaceIn (f : Payload) (q : List Payload) : List Payload := q.map (fun g => if sameSort g f then f else g)

/-- R37: a new entry is placed behind every frame of a lower or equal class, ahead of every frame of a higher class. -/
def joinQueue (f : Payload) : List Payload → List Payload
  | [] => [f]
  | g :: gs => if g.cls ≤ f.cls then g :: joinQueue f gs else f :: g :: gs

/-- R40: a returning frame is the oldest of its class, ahead of every frame of its class. -/
def rejoinQueue (f : Payload) : List Payload → List Payload
  | [] => [f]
  | g :: gs => if g.cls < f.cls then g :: rejoinQueue f gs else f :: g :: gs

/-- R39, R91, R115: a frame can be placed by replacement, or while fewer than 8 frames wait. -/
def canPlace (f : Payload) (q : List Payload) : Bool := waits f q || decide (q.length < 8)

def setTx (q : List Payload) (s : State) : State := s.setLine { s.line with tx := q }

/-- R37 to R39: a frame offered to the transmit queue. Outside ACTIVE it is discarded without a report. The queue is in
order of class and age, so its last frame is the youngest of the highest class. -/
def offer (f : Payload) (s : State) : State :=
  if s.phase ≠ .active then s
  else if waits f s.line.tx then setTx (replaceIn f s.line.tx) s
  else if s.line.tx.length < 8 then setTx (joinQueue f s.line.tx) s
  else if f.isZone then
    match s.line.tx.getLast? with
    | some g => setTx (joinQueue f s.line.tx.dropLast) (report (.txDropped g .evicted) s)
    | none => s
  else report (.txDropped f .full) s

/-- R40: a frame that lost arbitration returns, unless a newer frame of its sort has joined meanwhile. Of nine frames
the youngest of the highest class is evicted. -/
def returnFrame (f : Payload) (s : State) : State :=
  if waits f s.line.tx then s
  else if s.line.tx.length < 8 then setTx (rejoinQueue f s.line.tx) s
  else
    match (rejoinQueue f s.line.tx).getLast? with
    | some g => setTx (rejoinQueue f s.line.tx).dropLast (report (.txDropped g .evicted) s)
    | none => s

/-- R41: the Beat Unit withdraws its waiting BEAT, without a report. -/
def withdrawBeat (s : State) : State := setTx (s.line.tx.filter (fun g => !g.isBeat)) s

end Sys2Proof.Machine
end

