-- ==== Sys2Proof/Machine/Curtain.lean ====
section
/-! DEFINITION. The Curtain Governor's record and its state changes (06 sections 6.1 to 6.3 and 6.8). What makes it
change is in Condition.lean (conditions and faults), Governor.lean (requests, drive, limits) and Descent.lean. -/

namespace Sys2Proof.Machine

/-- The outputs of each curtain state (the table of R94). -/
def outputsOf : CurtainState → CurtainOutputs
  | .down => { brake := true, raise := false, lower := false }
  | .up => { brake := true, raise := false, lower := false }
  | .stopped => { brake := true, raise := false, lower := false }
  | .warnRaise => { brake := true, raise := false, lower := false }
  | .raising => { brake := true, raise := true, lower := false }
  | .warnLower => { brake := true, raise := false, lower := false }
  | .lowering => { brake := true, raise := false, lower := true }
  | .dropping => { brake := false, raise := false, lower := false }
  | .jammed => { brake := true, raise := false, lower := false }

/-- RAISING and LOWERING: the states that drive a RUN output. -/
def isDriven (x : Option CurtainState) : Bool := x == some .raising || x == some .lowering

/-- LOWERING and DROPPING: the states of a descent (R114). -/
def isDescent (x : Option CurtainState) : Bool := x == some .lowering || x == some .dropping

/-- WARN_RAISE and RAISING: the states of a hold (R93). -/
def isRaise (x : Option CurtainState) : Bool := x == some .warnRaise || x == some .raising

/-- R99 step 2: the handshake on a change from `prev` to `new`. -/
def handshakeAfter (prev : Option CurtainState) (new : CurtainState) (h : Handshake) : Handshake :=
  match new with
  | .raising => .start 0
  | .lowering => .start 0
  | .dropping => .idle
  | .jammed => .idle
  | .up => if isDriven prev then .stop 0 else h
  | .stopped => if isDriven prev then .stop 0 else h
  | .down => if isDriven prev then .stop 0 else h
  | .warnLower => if isDriven prev then .stop 0 else h
  | .warnRaise => h

/-- R117: the record as it opens. -/
def openDescent (c : CurtainRecord) : Descent :=
  if c.known then { t := 0, kind := .position, readings := [c.pos], stallCount := 0, lateReported := false }
  else { t := 0, kind := .movement, readings := [c.movement.toNat], stallCount := 0, lateReported := false }

/-- R114, R117: the descent record opens on a descent, is kept within one, and is cleared in every other state. -/
def descentAfter (prev : Option CurtainState) (new : CurtainState) (c : CurtainRecord) : Option Descent :=
  if isDescent (some new) then (if isDescent prev then c.descent else some (openDescent c)) else none

/-- The curtain record after R99 steps 1 to 3 and the descent record of step 6. A change ends the mark of a stall
(log 36). -/
def curtainRecordAfter (new : CurtainState) (c : CurtainRecord) : CurtainRecord :=
  { c with
    state := some new
    out := outputsOf new
    handshake := handshakeAfter c.state new c.handshake
    hold := if isRaise c.state && !isRaise (some new) then none else c.hold
    descent := descentAfter c.state new c
    stalledNow := false }

/-- The STATE frame of the curtain station (R99 step 5). Its target byte is left open by the manual (log 17). -/
def stateFrame (c : ConfigRecord) (new : CurtainState) (pos : Nat) : Payload :=
  .curtainState (Config.stateFrameTarget c.station).val new pos

/-- R113: CURTAIN_FAULT enters or leaves the set, with its report. The Condition Evaluator's recomputation follows in
`curtainChange`. -/
def putCurtainFault (v : Bool) (s : State) : State :=
  if s.faults.curtain = v then s
  else report (.stationFaultChanged .curtain v) (s.setFaults (s.faults.put .curtain v))

/-- R99 step 6: the warning call of WARN_RAISE and WARN_LOWER (R106), and CURTAIN_FAULT (R113). -/
def entryActions (prev : Option CurtainState) (new : CurtainState) (s : State) : State :=
  match new with
  | .warnRaise => placeWarning s
  | .warnLower => if prev = some .jammed then putCurtainFault false (placeWarning s) else placeWarning s
  | .down => putCurtainFault false s
  | .jammed => putCurtainFault true s
  | _ => s

/-- R99: a change of the curtain state, all six steps, less the recomputation of the condition. -/
def curtainMove (new : CurtainState) (cause : CurtainCause) (s : State) : State :=
  let prev := s.curtain.state
  let s1 := s.setCurtain (curtainRecordAfter new s.curtain)
  let s2 := report (.curtainChanged prev new cause s.curtain.pos s.curtain.known) s1
  entryActions prev new (offer (stateFrame s.cfg new s.curtain.pos) s2)

/-- WARN_LOWER, LOWERING and DROPPING: the states a curtain at the floor does not take (R97). -/
def goesDown (x : CurtainState) : Bool := x == .warnLower || x == .lowering || x == .dropping

/-- R97: a move into WARN_LOWER, LOWERING or DROPPING while BOTTOM_LIMIT is active takes DOWN instead, with p 0 and the
position known, and with the cause of the rule that moved it. -/
def curtainGo (target : CurtainState) (cause : CurtainCause) (s : State) : State :=
  if goesDown target && s.pins.bottomLimit then
    curtainMove .down cause (s.setCurtain { s.curtain with pos := 0, known := true })
  else curtainMove target cause s

/-- R101, R112: a powered lowering begins with its warning; with DRIVE_READY off the curtain is let fall. -/
def curtainLowerTo (cause : CurtainCause) (s : State) : State :=
  if s.pins.driveReady then curtainGo .warnLower cause s else curtainGo .dropping cause s

/-- R111: the Curtain Governor takes a change of the effective condition, already held as `s.condition`. -/
def curtainCondition (s : State) : State :=
  match s.condition with
  | .alarm =>
    match s.curtain.state with
    | none => s
    | some .down => s
    | some .dropping => s
    | some _ => curtainGo .dropping .alarm s
  | .preAlarm => if isRaise s.curtain.state then curtainMove .stopped .preAlarm s else s
  | _ => s

end Sys2Proof.Machine
end

