-- ==== Sys2Proof/Machine/Condition.lean ====
section
/-! DEFINITION. The Condition Evaluator (03 sections 3.3 and 3.4): the station fault set, the recomputation of the
effective condition and its delivery, the fail-safe lowering (R112), and the counted-alarm notice (R58). -/

namespace Sys2Proof.Machine

/-- R59: a change of the condition is delivered to the Curtain Governor, the Light Fader and the Call Unit (log 7). -/
def deliverCondition (previous : Condition) (s : State) : State :=
  callCondition previous (lightCondition previous (curtainCondition s))

/-- R59: the effective condition is recomputed from its inputs as they stand; a change is taken, reported and delivered.
A change of CURTAIN_FAULT that the delivery itself makes needs no further recomputation: the Governor moves the curtain
only when the new condition is PRE_ALARM or ALARM, and no station fault changes that (log 9). -/
def recompute (s : State) : State :=
  let c := s.computedCondition
  if c = s.condition then s
  else deliverCondition s.condition (report (.conditionChanged s.condition c s.faults) (s.setCondition c))

/-- R99, R113: a curtain change outside a condition delivery; when it changed CURTAIN_FAULT the Evaluator recomputes. -/
def afterCurtain (before after : State) : State :=
  if after.faults = before.faults then after else recompute after

/-- A curtain state change by one of the rules of 06, with R97 and R113. -/
def curtainChange (target : CurtainState) (cause : CurtainCause) (s : State) : State :=
  afterCurtain s (curtainGo target cause s)

/-- A lowering by R101 or R112, with R97 and R113. -/
def curtainLowering (cause : CurtainCause) (s : State) : State :=
  afterCurtain s (curtainLowerTo cause s)

/-- R113, R122: CURTAIN_FAULT is entered by a descent report. -/
def enterCurtainFault (s : State) : State := afterCurtain s (putCurtainFault true s)

/-- R112: ALONE or REQUIRED_PEER_LOST entering the set lowers the curtain. -/
def failSafe (s : State) : State :=
  match s.curtain.state with
  | some .up => curtainLowering .failSafe s
  | some .stopped => curtainLowering .failSafe s
  | some .jammed => curtainLowering .failSafe s
  | some .warnRaise => curtainLowering .failSafe s
  | some .raising => curtainLowering .failSafe s
  | _ => s

/-- R55: the Peer Monitor's faults ALONE and REQUIRED_PEER_LOST enter or leave the set: the report, the recomputation,
and on entry the fail-safe lowering. -/
def putPeerFault (x : StationFault) (v : Bool) (s : State) : State :=
  if s.faults.get x = v then s
  else
    let s1 := recompute (report (.stationFaultChanged x v) (s.setFaults (s.faults.put x v)))
    if v then failSafe s1 else s1

/-- R33, R36: the Line Interface's faults enter or leave the set, after the report the caller makes. -/
def putLineFault (x : StationFault) (v : Bool) (r : Report) (s : State) : State :=
  recompute (report r (s.setFaults (s.faults.put x v)))

/-- R58, R158: a zone of the concern block has newly entered ALARM; the silence flag is cleared. -/
def countedAlarm (s : State) : State := clearSilence .resound s

/-! ## The entry into ACTIVE -/

/-- The zone list of the own STATUS (R54): every own zone that is not QUIET, in order of index. -/
def ownZoneList (zs : List ZoneRecord) : List PeerZone :=
  (zs.zipIdx.filter (fun p => p.1.state != .quiet)).map (fun p => { index := p.2, area := p.1.area, state := p.1.state })

/-- The content of an own STATUS, taken when it is offered (R54). -/
def ownStatus (s : State) : Payload :=
  .status s.cfg.role s.mode s.faults
    (if s.cfg.role = .curtain then s.curtain.state.map (fun st => (st, s.curtain.pos)) else none)
    (ownZoneList s.zones)

def findPeer (n : Nat) (t : List PeerEntry) : Option PeerEntry := t.find? (fun e => e.station == n)

/-- R57: the peer table holds a PRESENT or LATE entry for the station. -/
def satisfied (t : List PeerEntry) (n : Nat) : Bool :=
  match findPeer n t with
  | some e => e.liveness != .lost
  | none => false

/-- R57: at least one required station, other than the own number, is missing. -/
def requiredMissing (s : State) : Bool :=
  s.cfg.required.any (fun n => n != s.cfg.station && !satisfied s.peers.table n)

/-- R57: REQUIRED_PEER_LOST is judged, in station phase ACTIVE. -/
def judgeRequired (s : State) : State :=
  if s.phase = .active then putPeerFault .requiredLost (requiredMissing s) s else s

/-- R57: the station is a required station that counts. -/
def isRequired (s : State) (n : Nat) : Bool := n != s.cfg.station && s.cfg.required.contains n

/-- R176: the entry into ACTIVE. -/
def enterActive (cause : ListenCause) (s : State) : State :=
  let s1 := report (.phaseActive cause) (s.setPhase .active)
  let s2 := offer (ownStatus s1) (s1.setPeers { s1.peers with anyPeer := 0 })
  judgeRequired (s2.setPeers { s2.peers with schedule := 0 })

end Sys2Proof.Machine
end

