-- ==== Sys2Proof/Machine/Descent.lean ====
section
/-! DEFINITION. Descent supervision (07). -/

namespace Sys2Proof.Machine

/-- R119: the travel from an older reading to a newer one; positive is downward. -/
def travelBetween (kind : ReadingKind) (older newer : Nat) : Int :=
  match kind with
  | .position => (older : Int) - newer
  | .movement =>
    let d := ((older : Int) - newer) % 65536
    if 32768 ≤ d then d - 65536 else d

/-- R118 step 2: the newest reading joins the list; of six values the oldest is discarded. -/
def pushReading (r : Nat) (rs : List Nat) : List Nat :=
  if rs.length < 5 then rs ++ [r] else rs.drop (rs.length - 4) ++ [r]

/-- R118: the present reading of the record's kind. -/
def presentReading (c : CurtainRecord) : ReadingKind → Nat
  | .position => c.pos
  | .movement => c.movement.toNat

/-- R118 step 3: the span k. -/
def Descent.span (d : Descent) : Nat := d.readings.length - 1

/-- R119: the travel over the span: from the oldest reading to the newest. -/
def Descent.travelled (d : Descent) : Int :=
  travelBetween d.kind (d.readings.headD 0) (d.readings.getLastD 0)

/-- R118 steps 1 and 2. -/
def Descent.sample (c : CurtainRecord) (d : Descent) : Descent :=
  { d with t := bump 65535 d.t, readings := pushReading (presentReading c d.kind) d.readings }

/-- R121: the samples still needed to reach the floor at the present rate. -/
def projectedNeed (p k travelled : Nat) : Nat := (p * k + travelled - 1) / travelled

def setDescent (d : Descent) (s : State) : State := s.setCurtain { s.curtain with descent := some d }

/-- R120, R122: a stall jams a lowering; the mark of R124 stands until time passes (log 36). -/
def stallJam (s : State) : State :=
  let t := curtainChange .jammed .descentStalled s
  markStalled (t.curtain.state == some .jammed) t

/-- R120, R122: the descent has stalled, with its stall count at the limit. -/
def descentStall (st : CurtainState) (d : Descent) (s : State) : State :=
  let s1 := report (.descentStalled st d.t d.kind (d.readings.getLastD 0) d.travelled d.span d.stallCount) (setDescent d s)
  if st = .lowering then stallJam s1 else enterCurtainFault s1

/-- R121, R122: the descent is late and no lateness was reported before. -/
def descentTooLate (st : CurtainState) (d : Descent) (p need : Nat) (s : State) : State :=
  let s1 := report (.descentLate st d.t p d.span d.travelled need) (setDescent { d with lateReported := true } s)
  let s2 := if st = .lowering then curtainGo .dropping .descentLate s1 else s1
  afterCurtain s (putCurtainFault true s2)

/-- R121: the projection, for kind POSITION and a positive travel. -/
def projectDescent (st : CurtainState) (d : Descent) (s : State) : State :=
  let p := d.readings.getLastD 0
  let need := projectedNeed p d.span d.travelled.toNat
  if s.cfg.descentLimit < d.t + need ∧ d.lateReported = false then descentTooLate st d p need s
  else setDescent d s

/-- R118 to R121: the descent record d of a curtain in state st is judged at a sample event. -/
def judgeDescent (st : CurtainState) (d : Descent) (s : State) : State :=
  let d1 := d.sample s.curtain
  if d1.travelled ≤ 0 then
    let d2 := { d1 with stallCount := min s.cfg.stallLimit (d1.stallCount + 1) }
    if d1.stallCount < s.cfg.stallLimit ∧ d2.stallCount = s.cfg.stallLimit then descentStall st d2 s
    else setDescent d2 s
  else
    let d2 := { d1 with stallCount := 0 }
    if d1.kind = .position then projectDescent st d2 s else setDescent d2 s

/-- R118: the judgement, where the record was present when the sample event began and still is. -/
def sampleDescent (wasPresent : Bool) (s : State) : State :=
  match s.curtain.state, s.curtain.descent with
  | some st, some d => if wasPresent then judgeDescent st d s else s
  | _, _ => s

/-- R120 for the row DESCENT_STALLED: a judgement at which the stall count reaches the limit. It does not reach it when
the sample shows downward travel, nor again while it stands there. -/
def stallNow (s : State) : State :=
  match s.curtain.state, s.curtain.descent with
  | some st, some d =>
    let d1 := d.sample s.curtain
    if d1.travelled ≤ 0 ∧ d.stallCount < s.cfg.stallLimit then
      descentStall st { d1 with stallCount := s.cfg.stallLimit } s
    else s
  | _, _ => s

end Sys2Proof.Machine
end

