-- ==== Sys2Proof/Machine/Governor.lean ====
section
/-! DEFINITION. What moves the curtain: start-up, position and limits, requests, the hold, the warning, the drive
(06 sections 6.1 to 6.7). -/

namespace Sys2Proof.Machine

/-! ## Start-up and position (R95 to R98, R123) -/

/-- R95: the first state of a controller in the CURTAIN role, from BOTTOM_LIMIT. -/
def curtainStartUp (s : State) : State :=
  if s.cfg.role = .curtain then curtainChange .dropping .startUp s else s

/-- R96: p after one count. -/
def countedPos (up : Bool) (p : Nat) : Nat := if up then bump 65535 p else p - 1

/-- R98: on reaching the top, RAISING and STOPPED take UP. -/
def reachTop (s : State) : State :=
  match s.curtain.state with
  | some .raising => curtainChange .up .top s
  | some .stopped => curtainChange .up .top s
  | _ => s

/-- R96, R98: an encoder count event. -/
def encoderCount (up : Bool) (s : State) : State :=
  match s.curtain.state with
  | none => s
  | some _ =>
    let c := s.curtain
    let p := countedPos up c.pos
    let s1 := s.setCurtain { c with pos := p, movement := if up then c.movement + 1 else c.movement - 1 }
    if c.known ∧ c.pos < s.cfg.pTop ∧ s.cfg.pTop ≤ p then reachTop s1 else s1

/-- R97: BOTTOM_LIMIT becomes active. -/
def bottomActive (st : CurtainState) (s : State) : State :=
  let s1 := s.setPins { s.pins with bottomLimit := true }
  let s2 := if s.curtain.known ∧ s.cfg.tolerance < s.curtain.pos then report (.positionMismatch .bottom s.curtain.pos) s1 else s1
  let s3 := s2.setCurtain { s2.curtain with pos := 0, known := true }
  if st = .down then s3 else curtainChange .down .bottomLimit s3

/-- R97: a change of BOTTOM_LIMIT; becoming inactive changes nothing else. -/
def bottomLimit (active : Bool) (s : State) : State :=
  match s.curtain.state with
  | none => s
  | some st => if active then bottomActive st s else s.setPins { s.pins with bottomLimit := false }

/-- The distance of p from Ptop, in either direction (R98). -/
def offTop (c : ConfigRecord) (p : Nat) : Nat := if p ≤ c.pTop then c.pTop - p else p - c.pTop

/-- R123: a descent record when TOP_LIMIT becomes active. -/
def Descent.atTop (pTop : Nat) (d : Descent) : Descent := { d with kind := .position, readings := [pTop] }

/-- R98, R123: TOP_LIMIT becomes active. -/
def topActive (s : State) : State :=
  let s1 := s.setPins { s.pins with topLimit := true }
  let s2 :=
    if s.curtain.known ∧ s.cfg.tolerance < offTop s.cfg s.curtain.pos then report (.positionMismatch .top s.curtain.pos) s1 else s1
  reachTop (s2.setCurtain { s2.curtain with
    pos := s.cfg.pTop, known := true, descent := s2.curtain.descent.map (Descent.atTop s.cfg.pTop) })

/-- R98: a change of TOP_LIMIT. -/
def topLimit (active : Bool) (s : State) : State :=
  match s.curtain.state with
  | none => s
  | some _ => if active then topActive s else s.setPins { s.pins with topLimit := false }

/-! ## Requests from the line (R100 to R104) -/

/-- The permitted sender roles of R100; `none` is UNKNOWN. -/
def curtainPermitted : CurtainKind → Option Role → Bool
  | .lower, _ => true
  | .drop, some r => r == .stage || r == .fire || r == .curtain
  | .stop, some r => r == .stage
  | .raiseHold, some r => r == .stage
  | _, none => false

/-- The role judged for a sender (R80, R100): the own configured role for the own number, otherwise the role of the
peer table entry, UNKNOWN until a STATUS has been taken. -/
def judgedRole (sender : Nat) (s : State) : Option Role :=
  if sender = s.cfg.station then some s.cfg.role
  else (findPeer sender s.peers.table).bind (fun e => e.role)

/-- R101: a LOWER request. -/
def lowerRequest (s : State) : State :=
  match s.curtain.state with
  | some .up => curtainLowering .lower s
  | some .stopped => curtainLowering .lower s
  | some .jammed => curtainLowering .lower s
  | some .warnRaise => curtainLowering .lower s
  | some .raising => curtainLowering .lower s
  | _ => s

/-- R102: a DROP request. -/
def dropRequest (s : State) : State :=
  match s.curtain.state with
  | none => s
  | some .down => s
  | some .dropping => s
  | some _ => curtainChange .dropping .drop s

/-- R103: a STOP request. -/
def stopRequest (s : State) : State :=
  match s.curtain.state with
  | some .warnRaise => curtainChange .stopped .stop s
  | some .raising => curtainChange .stopped .stop s
  | some .warnLower => curtainChange .stopped .stop s
  | some .lowering => curtainChange .stopped .stop s
  | _ => s

/-- R104: why a raise is not permitted, the first condition that fails in the order given; `none`: permitted. -/
def raiseBar (s : State) : Option RaiseReason :=
  if s.phase ≠ .active then some .listen
  else if !s.curtain.known then some .positionUnknown
  else if s.condition ≠ .quiet ∧ s.condition ≠ .fault then some .condition
  else if s.faults.alone || s.faults.requiredLost || s.faults.curtain then some .stationFault
  else if !s.pins.driveReady then some .driveNotReady
  else none

/-- R104: a raise asked for in DOWN or STOPPED. -/
def raiseRequest (sender : Nat) (st : CurtainState) (s : State) : State :=
  match raiseBar s with
  | some r => report (.curtainRefused sender r) s
  | none =>
    curtainChange .warnRaise .raiseHold
      (s.setCurtain { s.curtain with hold := some { remaining := s.cfg.holdLapse, back := st } })

/-- R104: the hold is refreshed. -/
def refreshHold (s : State) : State :=
  s.setCurtain { s.curtain with hold := s.curtain.hold.map (fun h => { h with remaining := s.cfg.holdLapse }) }

/-- R104: a RAISE_HOLD request. -/
def raiseHoldRequest (sender : Nat) (s : State) : State :=
  match s.curtain.state with
  | none => s
  | some .warnRaise => refreshHold s
  | some .raising => refreshHold s
  | some .down => raiseRequest sender .down s
  | some .stopped => raiseRequest sender .stopped s
  | some _ => report (.curtainRefused sender .state) s

/-- R100: a curtain request is taken at the station it names, in the CURTAIN role. -/
def takeCurtainFrame (sender : Nat) (kind : CurtainKind) (target : Nat) (s : State) : State :=
  if s.cfg.role = .curtain ∧ target = s.cfg.station then
    if curtainPermitted kind (judgedRole sender s) then
      match kind with
      | .lower => lowerRequest s
      | .drop => dropRequest s
      | .stop => stopRequest s
      | .raiseHold => raiseHoldRequest sender s
    else
      report (.curtainIgnored kind sender (judgedRole sender s)
        (if judgedRole sender s = none then .senderUnknown else .senderRole)) s
  else s

/-! ## The hold and the warning (R105, R107) -/

/-- R105: the hold lapses. -/
def lapseHold (s : State) : State :=
  match s.curtain.state, s.curtain.hold with
  | some .warnRaise, some h => curtainChange h.back .holdLapse s
  | some .raising, some _ => curtainChange .stopped .holdLapse s
  | _, _ => s

/-- R105: a beat boundary lowers the hold by 1; at 0 it lapses. -/
def curtainBoundary (s : State) : State :=
  match s.curtain.hold with
  | none => s
  | some h =>
    let s1 := s.setCurtain { s.curtain with hold := some { h with remaining := h.remaining - 1 } }
    if h.remaining ≤ 1 then lapseHold s1 else s1

/-- R107: a repetition of the warning call has completed. -/
def warningDone (s : State) : State :=
  match s.curtain.state with
  | some .warnLower => if s.pins.driveReady then curtainChange .lowering .warningDone s else s
  | some .warnRaise =>
    if s.curtain.hold.isSome ∧ s.pins.driveReady then curtainChange .raising .warningDone s else s
  | _ => s

/-! ## The drive (R108 to R110) -/

def setHandshake (h : Handshake) (s : State) : State := s.setCurtain { s.curtain with handshake := h }

/-- R108, R109: the drive handshake is judged at a sample event. -/
def judgeHandshake (moving : Bool) (s : State) : State :=
  match s.curtain.handshake with
  | .idle => s
  | .start n =>
    if moving then setHandshake .running s
    else if s.cfg.startTimeout ≤ n + 1 then curtainChange .jammed .startTimeout s
    else setHandshake (.start (n + 1)) s
  | .running =>
    if moving = false ∧ isDriven s.curtain.state then curtainChange .jammed .driveStopped s else s
  | .stop n =>
    if !moving then setHandshake .idle s
    else if s.cfg.startTimeout ≤ n + 1 then curtainChange .jammed .stopTimeout s
    else setHandshake (.stop (n + 1)) s

/-- R110: DRIVE_READY becomes inactive. A curtain that a stall has jammed at the same moment goes on to DROPPING, by the
row of R124 on a loss taken after the judgement; otherwise JAMMED stays (log 36). -/
def driveLost (s : State) : State :=
  match s.curtain.state with
  | some .raising => curtainChange .jammed .driveReadyLost s
  | some .lowering => curtainChange .dropping .driveReadyLost s
  | some .warnLower => curtainChange .dropping .driveReadyLost s
  | some .warnRaise =>
    match s.curtain.hold with
    | some h => curtainChange h.back .driveReadyLost s
    | none => s
  | some .jammed => if s.curtain.stalledNow then curtainChange .dropping .driveReadyLost s else s
  | _ => s

/-- R110: a change of DRIVE_READY; becoming active changes no state. -/
def driveReadyChange (ready : Bool) (s : State) : State :=
  match s.curtain.state with
  | none => s
  | some _ =>
    let s1 := s.setPins { s.pins with driveReady := ready }
    if ready then s1 else driveLost s1

/-- R108, R109, R118, R122: what the Curtain Governor judges at a sample event, in either order (R114, log 10). -/
def curtainSample (inputs : SampleInputs) (hadRecord : Bool) (s : State) : State :=
  if inputs.handshakeFirst then sampleDescent hadRecord (judgeHandshake inputs.driveMoving s)
  else judgeHandshake inputs.driveMoving (sampleDescent hadRecord s)

/-- R154 for the Call Unit's REPETITION_END: steps 1 to 4. -/
def endRepetition (s : State) : State :=
  match s.calls.cadence, s.calls.chosen with
  | .playing, some k =>
    let s1 := endPlaying k s
    restAfter k (if k.cls = .safety then warningDone s1 else s1)
  | _, _ => s

end Sys2Proof.Machine
end

