-- ==== Sys2Proof/Machine/Zones.lean ====
section
/-! DEFINITION. The Zone Supervisor (01): readings, zone states, coincidence, announcements and the zone commands. -/

namespace Sys2Proof.Machine

/-! ## Sampling (R4, R5) -/

/-- R4: the class of a pair ZCnA, ZCnB. -/
def classOf : Bool × Bool → Reading
  | (false, false) => .clear
  | (true, false) => .active
  | (false, true) => .openCircuit
  | (true, true) => .short

/-- R4: the newest class is appended; the history holds the three most recent. -/
def pushHistory (c : Reading) (h : List Reading) : List Reading :=
  if h.length < 3 then h ++ [c] else h.drop (h.length - 2) ++ [c]

/-- R5: the reading from the history: the class that two of three entries hold; otherwise it keeps its value. -/
def formReading (h : List Reading) (previous : Option Reading) : Option Reading :=
  match h with
  | [a, b, c] => if a = b ∨ a = c then some a else if b = c then some b else previous
  | _ => previous

/-- R4, R5: the record after the class is taken and the reading formed. A sample ends the moment of a RESET (log 43). -/
def ZoneRecord.sample (c : Reading) (z : ZoneRecord) : ZoneRecord :=
  { z with
    history := pushHistory c z.history, reading := formReading (pushHistory c z.history) z.reading, restarted := false }

/-- R7, R8: the fault score after a reading is applied. -/
def scoreAfter (r : Reading) (z : ZoneRecord) : Nat :=
  match r with
  | .clear => z.faultScore - 1
  | .active => z.faultScore
  | .openCircuit => min z.threshold (z.faultScore + 1)
  | .short => min z.threshold (z.faultScore + 1)

/-! ## Changing and announcing a zone's state -/

def setZone (n : Nat) (z : ZoneRecord) (s : State) : State := s.setZones (s.zones.set n z)

/-- The state and the timer of a zone record replaced together (R1: the timer is present exactly in PRE_ALARM and
INVESTIGATING). A timer so begun is no restarted one (log 43). -/
def ZoneRecord.to (z : ZoneRecord) (st : ZoneState) (timer : Option Nat) : ZoneRecord :=
  { z with state := st, timer := timer, restarted := false }

/-- R13: an own zone that takes part in coincidence. -/
def participates (s : State) (z : ZoneRecord) : Bool := z.enabled && s.concerns z.area

/-- R16, R175, R58: the announcement of zone n's change from `prev`, its record already changed: the report, the end of
LISTEN by an own ALARM, the ZONE frame, the recomputation, and the counted-alarm notice. What the entry into ACTIVE
recomputes already counts the zone (DESIGN CHOICE, log 41). -/
def announceZone (n : Nat) (prev : ZoneState) (z : ZoneRecord) (cause : ZoneCause) (s : State) : State :=
  let s1 := report (.zoneChanged n z.area prev z.state cause) s
  let s2 :=
    if z.state = .alarm ∧ s1.phase = .listen then enterActive .ownAlarm (s1.setListenCount 0) else s1
  let s3 := recompute (offer (.zone n z.area z.state) s2)
  if z.state = .alarm ∧ s3.concerns z.area then countedAlarm s3 else s3

/-- Zone n's record is replaced, and a change of its state is announced. -/
def changeZone (n : Nat) (z' : ZoneRecord) (cause : ZoneCause) (s : State) : State :=
  match s.zones[n]? with
  | some z => if z.state = z'.state then setZone n z' s else announceZone n z.state z' cause (setZone n z' s)
  | none => s

/-- R13: an own zone that an escalation takes to ALARM. -/
def escalates (s : State) (z : ZoneRecord) : Bool :=
  participates s z && (z.state == .preAlarm || z.state == .investigating)

/-- R13: zone n goes to ALARM by coincidence where it can be escalated. -/
def escalateZone (n : Nat) (s : State) : State :=
  match s.zones[n]? with
  | some z => if escalates s z then changeZone n (z.to .alarm none) .coincidence s else s
  | none => s

/-- R13, R14: the escalations, in order of zone index, of every own zone but `except`. -/
def escalate (except : Option Nat) (s : State) : State :=
  (List.range s.zones.length).foldl (fun s n => if except = some n then s else escalateZone n s) s

/-- A zone changes by a reading, an expiry or an ACK: it is announced, and when it enters activity as a participating
zone the escalations follow (R13, R14). -/
def moveZone (n : Nat) (z' : ZoneRecord) (cause : ZoneCause) (s : State) : State :=
  match s.zones[n]? with
  | some z =>
    let s1 := changeZone n z' cause s
    if z.state ≠ z'.state ∧ inActivity z'.state ∧ participates s z' then escalate (some n) s1 else s1
  | none => s

/-! ## Readings and timers (R6 to R11) -/

/-- R7: another participating zone, own or peer, is in activity. -/
def companionActive (s : State) (n : Nat) : Bool :=
  s.zones.zipIdx.any (fun p => p.2 != n && participates s p.1 && inActivity p.1.state)
    || s.peerZones.any (fun z => s.concerns z.area && inActivity z.state)

/-- R7: an ACTIVE reading applied to a zone in QUIET. -/
def startAlarm (n : Nat) (z : ZoneRecord) (s : State) : State :=
  match z.kind with
  | .callPoint => moveZone n (z.to .alarm none) .reading s
  | .detector =>
    if z.t1 = 0 then moveZone n (z.to .alarm none) .reading s
    else if s.concerns z.area && companionActive s n then moveZone n (z.to .alarm none) .coincidence s
    else moveZone n (z.to .preAlarm (some z.t1)) .reading s

/-- R6 stage 2, R7 to R9: the reading r is applied to zone n, whose record is z. -/
def applyReading (n : Nat) (r : Reading) (z : ZoneRecord) (s : State) : State :=
  let z' := { z with faultScore := scoreAfter r z }
  match z.state with
  | .isolated => s
  | .quiet =>
    if r = .active then startAlarm n z s
    else if z.threshold ≤ z'.faultScore then moveZone n (z'.to .fault z'.timer) .faultScore s
    else setZone n z' s
  | .fault =>
    if r ≠ .active ∧ z'.faultScore = 0 then moveZone n (z'.to .quiet z'.timer) .faultScore s else setZone n z' s
  | _ => setZone n z' s

/-- The cause of an expiry in each timed state (R10, R11). -/
def expiryCause : ZoneState → ZoneCause
  | .investigating => .t2Expiry
  | _ => .t1Expiry

/-- R10, R11: the timer of zone n expires and the zone goes to ALARM. -/
def expireZone (n : Nat) (s : State) : State :=
  match s.zones[n]? with
  | some z => moveZone n (z.to .alarm none) (expiryCause z.state) s
  | none => s

/-- R6 stage 3: the timer of an enabled zone n is counted down by 1, and expires at 0. -/
def countTimer (n : Nat) (s : State) : State :=
  match s.zones[n]? with
  | some z =>
    match z.timer with
    | some t =>
      if !z.enabled then s
      else if t ≤ 1 then expireZone n s
      else setZone n { z with timer := some (t - 1) } s
    | none => s
  | none => s

/-- R6 stages 1 and 2 for zone n. -/
def sampleZone (n : Nat) (pair : Bool × Bool) (s : State) : State :=
  match s.zones[n]? with
  | some z =>
    if z.enabled then
      let z' := z.sample (classOf pair)
      let s1 := setZone n z' s
      match z'.reading with
      | some r => applyReading n r z' s1
      | none => s1
    else s
  | none => s

/-- R6: zone n is handled at a sample event; `hadTimer` says whether its timer was present before the event began. -/
def handleZone (inputs : SampleInputs) (hadTimer : List Bool) (s : State) (n : Nat) : State :=
  let s1 := sampleZone n (inputs.zonePins.getD n (false, false)) s
  if hadTimer.getD n false then countTimer n s1 else s1

/-- R6: the zones are handled one after another in order of index. -/
def sampleZones (inputs : SampleInputs) (s : State) : State :=
  (List.range s.zones.length).foldl (handleZone inputs (s.zones.map (fun z => z.timer.isSome))) s

/-! ## Commands at a zone (R18 to R22) -/

/-- R18: an ACK reaching zone n. -/
def ackZone (n : Nat) (s : State) : State :=
  match s.zones[n]? with
  | some z =>
    if z.enabled ∧ z.state = .preAlarm then
      if z.t2 = 0 then moveZone n (z.to .alarm none) .ack s
      else moveZone n (z.to .investigating (some z.t2)) .ack s
    else s
  | none => s

/-- R18, R83: an ACK for one zone, or for all zones (8) in order of index. -/
def ackZones (zone : Nat) (s : State) : State :=
  if zone = 8 then (List.range s.zones.length).foldl (fun s n => ackZone n s) s else ackZone zone s

/-- R19: the outcome of QUIET becomes FAULT when the fault score stands at the threshold. -/
def restState (z : ZoneRecord) : ZoneState := if z.faultScore = z.threshold then .fault else .quiet

/-- R19: a detector that still reads ACTIVE has T1 afresh. Where T1 was running it is restarted, and the mark says so
(R20, log 43). -/
def ZoneRecord.restart (z : ZoneRecord) : ZoneRecord :=
  { z.to .preAlarm (some z.t1) with restarted := z.state == .preAlarm }

/-- R19, first pass: the outcome of a zone by its kind and reading. -/
def firstPass (z : ZoneRecord) : ZoneRecord :=
  if z.enabled && inActivity z.state then
    match z.kind with
    | .detector => if z.reading = some .active then z.restart else z.to (restState z) none
    | .callPoint => if z.reading = some .active then z.to .alarm none else z.to (restState z) none
  else z

/-- R19, second pass: a zone whose first-pass outcome is PRE_ALARM takes ALARM when T1 is 0, or when it and another
participating zone are in activity after the first pass. `s` holds the first-pass outcomes, `before` the zone's record
before the RESET. -/
def secondPass (s : State) (n : Nat) (before z : ZoneRecord) : ZoneRecord :=
  if before.enabled && inActivity before.state && z.state == .preAlarm
      && (z.t1 == 0 || (participates s z && companionActive s n)) then z.to .alarm none
  else z

/-- R19: the outcomes of both passes, zone by zone. -/
def resetOutcomes (s : State) : List ZoneRecord :=
  let first := s.setZones (s.zones.map firstPass)
  first.zones.zipIdx.map (fun p => secondPass first p.2 (s.zones.getD p.2 p.1) p.1)

/-- R19: RESET is applied to all enabled own zones; each zone whose outcome differs is announced, in order of index. -/
def resetZones (s : State) : State :=
  (resetOutcomes s).zipIdx.foldl (fun s p => changeZone p.2 p.1 .reset s) s

/-- R21: an ISOLATE reaching zone n. -/
def isolateZone (n : Nat) (s : State) : State :=
  match s.zones[n]? with
  | some z =>
    if !z.enabled then s
    else
      match z.state with
      | .isolated => s
      | .alarm => report (.commandRefused (.isolate n)) s
      | _ => moveZone n (z.to .isolated none) .isolate s
  | none => s

/-- R22: a RESTORE reaching zone n. -/
def restoreZone (n : Nat) (s : State) : State :=
  match s.zones[n]? with
  | some z =>
    if z.enabled ∧ z.state = .isolated then
      moveZone n { z.to .quiet none with history := [], reading := none, faultScore := 0 } .restore s
    else s
  | none => s

end Sys2Proof.Machine
end

