-- ==== Sys2Proof/Machine/Peers.lean ====
section
/-! DEFINITION. The Peer Monitor (03 sections 3.1 and 3.2). -/

namespace Sys2Proof.Machine

def setTable (t : List PeerEntry) (s : State) : State := s.setPeers { s.peers with table := t }

/-- R45: the liveness of a count, with Is the status interval. -/
def livenessOf (interval heard : Nat) : Liveness :=
  if heard < 2 * interval then .present else if heard < 4 * interval then .late else .lost

/-- R44: the entry of a station heard for the first time. -/
def newEntry (n : Nat) : PeerEntry :=
  { station := n, role := none, mode := none, faults := none, curtain := none, zones := [], heard := 0
    liveness := .present }

/-- R43: the table is kept in order of station number. -/
def insertEntry (e : PeerEntry) : List PeerEntry → List PeerEntry
  | [] => [e]
  | x :: xs => if x.station < e.station then x :: insertEntry e xs else e :: x :: xs

/-- The entry of a station is changed. -/
def updateEntry (n : Nat) (f : PeerEntry → PeerEntry) (t : List PeerEntry) : List PeerEntry :=
  t.map (fun e => if e.station = n then f e else e)

/-- R57: after an entry of station n was created, changed liveness or was removed. -/
def judgeStation (n : Nat) (s : State) : State := if isRequired s n then judgeRequired s else s

/-- R44: a good frame is heard from station n: its entry is created or refreshed. -/
def refreshEntry (n : Nat) (s : State) : State :=
  match findPeer n s.peers.table with
  | none => report (.peerChanged n none (some .present)) (setTable (insertEntry (newEntry n) s.peers.table) s)
  | some e =>
    let s1 := setTable (updateEntry n (fun e => { e with heard := 0, liveness := .present }) s.peers.table) s
    if e.liveness = .present then s1 else report (.peerChanged n (some e.liveness) (some .present)) s1

/-- The station has an entry that is PRESENT. -/
def isPresent (n : Nat) (s : State) : Bool :=
  match findPeer n s.peers.table with
  | some e => e.liveness == .present
  | none => false

/-- R56: a good frame from a peer sets the beats-since-any-peer count to 0 and clears ALONE. -/
def heardAnyPeer (s : State) : State :=
  putPeerFault .alone false (s.setPeers { s.peers with anyPeer := 0 })

/-- R44, R56, R57: a good frame is heard from the peer n (log 12). -/
def heardFrom (n : Nat) (s : State) : State :=
  let s1 := heardAnyPeer (refreshEntry n s)
  if isPresent n s then s1 else judgeStation n s1

/-! ## Zone lists (R46, R47, R49) -/

/-- R43: a zone list is kept in order of zone index, with an index at most once. -/
def putPeerZone (z : PeerZone) : List PeerZone → List PeerZone
  | [] => [z]
  | x :: xs => if x.index < z.index then x :: putPeerZone z xs else if x.index = z.index then z :: xs else z :: x :: xs

/-- R47: a zone list after one ZONE frame. -/
def updateZoneList (z : PeerZone) (zs : List PeerZone) : List PeerZone :=
  if z.state = .quiet then zs.filter (fun x => x.index != z.index) else putPeerZone z zs

/-- R46: the carried list, in order of index. -/
def orderZoneList (zs : List PeerZone) : List PeerZone := zs.foldl (fun acc z => putPeerZone z acc) []

/-- R49: the state an entry had before, at the same index and area; an entry whose area changed is inserted anew. -/
def stateBefore (old : List PeerZone) (z : PeerZone) : Option ZoneState :=
  (old.find? (fun x => x.index == z.index && x.area == z.area)).map (fun x => x.state)

/-- R49 step 2: the list entry has entered activity. -/
def entersActivity (old : List PeerZone) (z : PeerZone) : Bool := inActivity z.state && stateBefore old z != some z.state

/-- R49 step 3: the list entry has newly entered ALARM. -/
def entersAlarm (old : List PeerZone) (z : PeerZone) : Bool := z.state == .alarm && stateBefore old z != some .alarm

/-- R49: what follows from a peer's zone list changing from `old` to `new`, both already settled in the table. -/
def zoneListChanged (old new : List PeerZone) (s : State) : State :=
  if new = old then s
  else
    let s1 := recompute s
    let s2 := if new.any (fun z => s.concerns z.area && entersActivity old z) then escalate none s1 else s1
    if new.any (fun z => s.concerns z.area && entersAlarm old z) then countedAlarm s2 else s2

/-- The zone list of a station's entry. -/
def zoneListOf (n : Nat) (s : State) : List PeerZone :=
  match findPeer n s.peers.table with
  | some e => e.zones
  | none => []

/-- R47: a ZONE frame heard from the peer n. -/
def takeZoneFrame (n : Nat) (z : PeerZone) (s : State) : State :=
  let s1 := setTable (updateEntry n (fun e => { e with zones := updateZoneList z e.zones }) s.peers.table) s
  zoneListChanged (zoneListOf n s) (zoneListOf n s1) s1

/-- R46: a STATUS frame heard from the peer n. -/
def takeStatusFrame (n : Nat) (role : Role) (mode : Mode) (faults : FaultSet) (curtain : Option (CurtainState × Nat))
    (zones : List PeerZone) (s : State) : State :=
  let s1 := setTable (updateEntry n (fun e =>
    { e with role := some role, mode := some mode, faults := some faults
             curtain := if role = .curtain then curtain else none, zones := orderZoneList zones }) s.peers.table) s
  zoneListChanged (zoneListOf n s) (zoneListOf n s1) s1

/-- R48: a CURTAIN STATE frame heard from the peer n. -/
def takeStateFrame (n : Nat) (st : CurtainState) (pos : Nat) (s : State) : State :=
  setTable (updateEntry n (fun e => { e with curtain := some (st, pos) }) s.peers.table) s

/-! ## Removal (R50) -/

/-- R50, R84 stage 1: a LOST entry is removed, with its consequences. -/
def removeLost (s : State) (n : Nat) : State :=
  match findPeer n s.peers.table with
  | some e =>
    if e.liveness = .lost then
      let s1 := report (.peerChanged n (some .lost) none) (setTable (s.peers.table.filter (fun x => x.station != n)) s)
      judgeStation n (zoneListChanged e.zones [] s1)
    else s
  | none => s

/-- R50: every entry that is LOST is removed, in order of station number. -/
def removeLostPeers (s : State) : State :=
  ((s.peers.table.filter (fun e => e.liveness == .lost)).map (fun e => e.station)).foldl removeLost s

/-! ## Beat boundaries (R45, R53, R56) -/

/-- R45: an entry one beat older. -/
def PeerEntry.age (interval : Nat) (e : PeerEntry) : PeerEntry :=
  { e with heard := bump 255 e.heard, liveness := livenessOf interval (bump 255 e.heard) }

/-- R45: the reports of the entries whose liveness changes, in order of station number. -/
def agingReports (interval : Nat) (t : List PeerEntry) : List Report :=
  (t.filter (fun e => (e.age interval).liveness != e.liveness)).map (fun e =>
    .peerChanged e.station (some e.liveness) (some (e.age interval).liveness))

/-- R45, R57: every entry ages, and REQUIRED_PEER_LOST is judged when a required station's liveness changed. -/
def agePeers (s : State) : State :=
  let i := s.cfg.statusInterval
  let s1 := reports (agingReports i s.peers.table) (setTable (s.peers.table.map (PeerEntry.age i)) s)
  if s.peers.table.any (fun e => (e.age i).liveness != e.liveness && isRequired s e.station) then judgeRequired s1 else s1

/-- R53: a STATUS is offered and the status schedule returns to 0. -/
def offerStatus (s : State) : State :=
  (offer (ownStatus s) s).setPeers { (offer (ownStatus s) s).peers with schedule := 0 }

/-- R53: in ACTIVE the status schedule advances; at Is a STATUS is offered and it returns to 0. -/
def advanceSchedule (s : State) : State :=
  if s.phase ≠ .active then s
  else if s.cfg.statusInterval ≤ s.peers.schedule + 1 then offerStatus s
  else s.setPeers { s.peers with schedule := s.peers.schedule + 1 }

/-- R56: ALONE is set, in ACTIVE and with the solo flag clear, when the count has reached 4 Is. -/
def judgeAlone (s : State) : State :=
  if s.phase = .active ∧ s.cfg.solo = false ∧ 4 * s.cfg.statusInterval ≤ s.peers.anyPeer then putPeerFault .alone true s
  else s

/-- R56: the beats-since-any-peer count advances. -/
def advanceAnyPeer (s : State) : State :=
  judgeAlone (s.setPeers { s.peers with anyPeer := bump 255 s.peers.anyPeer })

/-- R45, R53, R56: the Peer Monitor takes a beat boundary. -/
def peerBoundary (s : State) : State := advanceAnyPeer (advanceSchedule (agePeers s))

/-- The count at which an entry takes its next liveness (R45), for the row PEER_LIVENESS_CHANGE. -/
def nextThreshold (interval : Nat) : Liveness → Nat
  | .present => 2 * interval
  | .late => 4 * interval
  | .lost => 4 * interval

/-- R45 for the row PEER_LIVENESS_CHANGE: the count of station n reaches its next threshold. -/
def ageToThreshold (n : Nat) (s : State) : State :=
  match findPeer n s.peers.table with
  | some e =>
    if e.liveness = .lost then s
    else
      let i := s.cfg.statusInterval
      let h := nextThreshold i e.liveness
      judgeStation n (report (.peerChanged n (some e.liveness) (some (livenessOf i h)))
        (setTable (updateEntry n (fun e => { e with heard := h, liveness := livenessOf i h }) s.peers.table) s))
  | none => s

end Sys2Proof.Machine
end

