-- ==== Sys2Proof/Machine/Beat.lean ====
section
/-! DEFINITION. The Beat Unit (04): boundaries and their delivery, BEAT frames, window and lock, fade steps. -/

namespace Sys2Proof.Machine

/-! ## Boundaries (R64, R65, R74) -/

/-- R174: the Configuration Loader counts a boundary of LISTEN; at 2 Is LISTEN ends. -/
def loaderBoundary (s : State) : State :=
  if s.phase ≠ .listen then s
  else
    let s1 := s.setListenCount (s.listenCount + 1)
    if 2 * s.cfg.statusInterval ≤ s.listenCount + 1 then enterActive .listenEnd s1 else s1

/-- R149: a placement held back during the delivery of a boundary is taken once the Call Unit has taken it. -/
def releasePlacement (s : State) : State :=
  let s1 := s.setBoundaryUnderway false
  if s1.placementHeld then placeWarning (s1.setPlacementHeld false) else s1

/-- R65: a boundary, its number already taken, is delivered to the blocks that act on beats, in the order of the
table (log 12). -/
def deliverBoundary (s : State) : State :=
  loaderBoundary (curtainBoundary (releasePlacement (callBoundary (lightBoundary
    (peerBoundary (s.setBoundaryUnderway true))))))

/-- R64, R66, R74: the beat number becomes n and the timer restarts at position 0, with the step index 0; the boundary is
delivered. -/
def takeBoundary (n : BitVec 8) (s : State) : State :=
  deliverBoundary (s.setBeat { s.beat with number := n, position := 0, stepIndex := 0 })

/-- R64: a BEAT is offered at an own expiry in ACTIVE under TRACK or ONCE. -/
def offersBeat (s : State) : Bool := s.phase == .active && s.beat.sync != .monitor

/-- R64: the timer expires. The phase that counts for the offer is the one before the boundary (R174). -/
def expireBeat (s : State) : State :=
  let n := s.beat.number + 1
  if offersBeat s then offer (.beat n) (takeBoundary n s) else takeBoundary n s

/-! ## Measuring a BEAT (R71 to R73) -/

/-- R71: the phase error at timer position phi. -/
def phaseErrorAt (period phi : Nat) : Int := if phi ≤ period / 2 then (phi : Int) else (phi : Int) - period

/-- R72: in window by error and by number, against the number held before. -/
def inWindow (b : BeatState) (error : Int) (n : BitVec 8) : Bool :=
  decide (error.natAbs ≤ b.window) && (n == b.number || n == b.number + 1)

/-- R71: the measurement is stored and counted. -/
def BeatState.measure (b : BeatState) : BeatState :=
  { b with phaseError := phaseErrorAt b.period b.position, received := bump 255 b.received }

/-- R73: the lock state is judged, after the window judgement. -/
def judgeLock (n : BitVec 8) (s : State) : State :=
  let b := s.beat
  match b.lock, inWindow b b.phaseError n with
  | .seeking, true =>
    if 3 ≤ b.run then report (.lockChanged .locked) (s.setBeat { b with lock := .locked, run := 0 })
    else s.setBeat { b with run := b.run + 1 }
  | .seeking, false => s.setBeat { b with run := 0 }
  | .locked, true => s
  | .locked, false =>
    report (.lockChanged .seeking) (report (.beatSlip b.phaseError n b.number) (s.setBeat { b with lock := .seeking, run := 0 }))

/-- R71 to R73: a BEAT frame is measured and judged. -/
def measureBeat (n : BitVec 8) (s : State) : State := judgeLock n (s.setBeat s.beat.measure)

/-! ## Following a BEAT (R66, R68) -/

/-- R70: the timer has just been restarted by a BEAT; an expiry that was due with it does not come (log 38). -/
def overtakeExpiry (s : State) : State := s.setBeat { s.beat with overtaken := true }

/-- R66: the timer restarts; a different number is adopted with a boundary; a waiting own BEAT is withdrawn. -/
def followBeat (n : BitVec 8) (s : State) : State :=
  withdrawBeat (overtakeExpiry
    (if n = s.beat.number then s.setBeat { s.beat with position := 0 } else takeBoundary n s))

/-- R68: the first alignment of a controller in ONCE. -/
def afterAlignment (s : State) : State :=
  if s.beat.sync = .once then report (.syncModeChanged .once .monitor) (s.setBeat { s.beat with sync := .monitor }) else s

/-- R66 to R68: a BEAT frame is taken. One bearing the own number is measured only. -/
def takeBeatFrame (sender : Nat) (n : BitVec 8) (s : State) : State :=
  let s1 := measureBeat n s
  if sender = s.cfg.station ∨ s.beat.sync = .monitor then s1 else afterAlignment (followBeat n s1)

/-! ## Fade steps (R74) and milliseconds -/

/-- R74 for the row FADE_STEP: the timer reaches the next step position of the beat. -/
def fadeStepDue (s : State) : State :=
  let k := s.beat.stepIndex + 1
  if s.beat.running ∧ k ≤ 9 then
    lightStep (s.setBeat { s.beat with
      stepIndex := k, position := max s.beat.position (k * (s.beat.period / 10)), overtaken := false })
  else s

/-- One millisecond of the beat timer, whose position ends at P - 1 (R62); the millisecond after that is the expiry, for
which the timer waits (log 2). -/
def BeatState.tick (b : BeatState) : BeatState :=
  if b.running ∧ b.position + 1 < b.period then { b with position := b.position + 1, overtaken := false } else b

end Sys2Proof.Machine
end

