-- ==== Sys2Proof/Machine/Frames.lean ====
section
/-! DEFINITION. The bytes of a line frame, the 16-bit check, and the reception checks (R25, R30, R32, 12 sections 12.1
and 12.2). -/

namespace Sys2Proof

/-! ## The check (R179) -/

/-- R179: one bit into the register. -/
def crcBit (reg : BitVec 16) (bit : Bool) : BitVec 16 :=
  if reg.msb != bit then (reg <<< 1) ^^^ 0x1021#16 else reg <<< 1

/-- R179: one byte, most significant bit first. -/
def crcByte (reg : BitVec 16) (b : Byte) : BitVec 16 :=
  [7, 6, 5, 4, 3, 2, 1, 0].foldl (fun r i => crcBit r (b.getLsbD i)) reg

/-- R179: the check over the bytes in the order they are sent. -/
def crc (bs : List Byte) : BitVec 16 := bs.foldl crcByte 0xFFFF#16

/-! ## Numbers in bytes (R178: most significant byte first) -/

def byte (n : Nat) : Byte := BitVec.ofNat 8 n

/-- A two-byte number. -/
def word (n : Nat) : List Byte := [byte (n / 256), byte n]

/-- The number two bytes hold. -/
def unword (hi lo : Byte) : Nat := hi.toNat * 256 + lo.toNat

/-- The two check bytes, high byte first. -/
def checkBytes (c : BitVec 16) : List Byte := word c.toNat

/-! ## Payload bytes (12 section 12.2) -/

/-- The size code of an area block in a frame (12 section 12.1). -/
def sizeCode (size : Nat) : Nat :=
  if size = 1 then 0 else if size = 2 then 1 else if size = 4 then 2 else if size = 8 then 3 else 4

/-- An area block in one byte: size code high, offset low. -/
def blockByte (b : AreaBlock) : Byte := byte (16 * sizeCode b.size + b.offset)

/-- An area block read from its byte; a size code above 4 has no meaning. -/
def blockOfByte (b : Byte) : Option AreaBlock :=
  if b.toNat / 16 ≤ 4 then some { size := 2 ^ (b.toNat / 16), offset := b.toNat % 16 } else none

/-- The start beat's byte: it is disregarded unless the start kind is AT, and then holds `pad`. -/
def startByte (pad : Byte) : Start → Byte
  | .atBeat n => n
  | _ => pad

def zoneEntryBytes (z : PeerZone) : List Byte := [byte (16 * z.index + z.state.code), byte z.area]

/-- The zone index and mode bytes of a COMMAND. A byte its kind does not use holds `pad` (R78). -/
def commandBytes (pad : Byte) : Command → List Byte
  | .ack z => [byte z, pad]
  | .reset => [pad, pad]
  | .silence => [pad, pad]
  | .isolate z => [byte z, pad]
  | .restore z => [byte z, pad]
  | .setMode m => [pad, byte m.code]

/-- The payload bytes of a frame. `pad` stands in every byte whose content the manual disregards (log 20). -/
def Payload.bytes (pad : Byte) : Payload → List Byte
  | .zone i a z => [byte i, byte a, byte z.code]
  | .beat n => [n]
  | .command c t => [byte c.code, byte t] ++ commandBytes pad c
  | .curtain k t => [byte k.code, byte t]
  | .curtainState t st p => [byte 4, byte t, byte st.code] ++ word p
  | .cue b l d st => [blockByte b] ++ word l ++ [byte d, byte st.kindCode, startByte pad st]
  | .call b p c r st none => [blockByte b, byte p, byte c.code, byte r, byte st.kindCode, startByte pad st, byte 0]
  | .call b p c r st (some q) =>
    [blockByte b, byte p, byte c.code, byte r, byte st.kindCode, startByte pad st, byte 1] ++ word q.level ++ [byte q.duration]
  | .status r m f none zs =>
    [byte r.code, byte m.code, byte f.code, byte 0, byte 0, byte 0, byte zs.length] ++ zs.flatMap zoneEntryBytes
  | .status r m f (some (st, p)) zs =>
    [byte r.code, byte m.code, byte f.code, byte st.code] ++ word p ++ [byte zs.length] ++ zs.flatMap zoneEntryBytes

/-- Arbitration byte, length and payload (12 section 12.2). -/
def Frame.body (pad : Byte) (f : Frame) : List Byte :=
  [byte (32 * f.payload.cls + f.sender), byte (f.payload.bytes pad).length] ++ f.payload.bytes pad

/-- The bytes of a frame between its start and its end. -/
def Frame.bytes (pad : Byte) (f : Frame) : List Byte := f.body pad ++ checkBytes (crc (f.body pad))

/-! ## Reading a payload -/

/-- A COMMAND's kind, zone index and mode (R78). -/
def readCommand (k z m : Byte) : Option Command :=
  match k.toNat with
  | 0 => some (.ack z.toNat)
  | 1 => some .reset
  | 2 => some .silence
  | 3 => some (.isolate z.toNat)
  | 4 => some (.restore z.toNat)
  | 5 => (Mode.ofCode m.toNat).map .setMode
  | _ => none

/-- The entries of a STATUS zone list, two bytes each. -/
def readZoneList : Nat → List Byte → Option (List PeerZone)
  | 0, _ => some []
  | n + 1, x :: a :: rest =>
    match ZoneState.ofCode (x.toNat % 16), readZoneList n rest with
    | some st, some zs => some ({ index := x.toNat / 16, area := a.toNat, state := st } :: zs)
    | _, _ => none
  | _ + 1, _ => none

/-- A STATUS payload. The curtain bytes are disregarded unless the role is CURTAIN. -/
def readStatus (r m f st ph pl n : Byte) (rest : List Byte) : Option Payload :=
  match Role.ofCode r.toNat, Mode.ofCode m.toNat, FaultSet.ofByte f, readZoneList n.toNat rest with
  | some .curtain, some m, some f, some zs =>
    (CurtainState.ofCode st.toNat).map (fun x => .status .curtain m f (some (x, unword ph pl)) zs)
  | some r, some m, some f, some zs => some (.status r m f none zs)
  | _, _, _, _ => none

/-- A CURTAIN payload. -/
def readCurtain (k t : Byte) (rest : List Byte) : Option Payload :=
  match CurtainKind.ofCode k.toNat with
  | some k => some (.curtain k t.toNat)
  | none =>
    if k.toNat = 4 then
      match rest with
      | st :: ph :: pl :: _ => (CurtainState.ofCode st.toNat).map (fun x => .curtainState t.toNat x (unword ph pl))
      | _ => none
    else none

/-- A CALL payload with its linked cue flag. -/
def readCall (blk p c r sk sb flag : Byte) (rest : List Byte) : Option Payload :=
  match blockOfByte blk, CallClass.ofCode c.toNat, Start.ofCodes sk.toNat sb.toNat with
  | some b, some c, some st =>
    match flag.toNat, rest with
    | 0, _ => some (.call b p.toNat c r.toNat st none)
    | 1, lh :: ll :: d :: _ => some (.call b p.toNat c r.toNat st (some { level := unword lh ll, duration := d.toNat }))
    | _, _ => none
  | _, _, _ => none

/-- A CUE payload. -/
def readCue (blk lh ll d sk sb : Byte) : Option Payload :=
  match blockOfByte blk, Start.ofCodes sk.toNat sb.toNat with
  | some b, some st => some (.cue b (unword lh ll) d.toNat st)
  | _, _ => none

/-- R30, R32, R178: the payload of a class, or none when it is shorter than its kind needs or holds a code without
meaning. Bytes beyond the kind's contents are ignored. -/
def readPayload (cls : Nat) (bs : List Byte) : Option Payload :=
  match cls, bs with
  | 0, i :: a :: z :: _ => (ZoneState.ofCode z.toNat).map (fun st => .zone i.toNat a.toNat st)
  | 1, n :: _ => some (.beat n)
  | 2, k :: t :: z :: m :: _ => (readCommand k z m).map (fun c => .command c t.toNat)
  | 3, k :: t :: rest => readCurtain k t rest
  | 4, blk :: lh :: ll :: d :: sk :: sb :: _ => readCue blk lh ll d sk sb
  | 5, blk :: p :: c :: r :: sk :: sb :: flag :: rest => readCall blk p c r sk sb flag rest
  | 6, r :: m :: f :: st :: ph :: pl :: n :: rest => readStatus r m f st ph pl n rest
  | _, _ => none

/-! ## The reception checks (R32) -/

inductive Verdict | checkError | formError | good (f : Frame)
deriving DecidableEq, Repr

/-- R32, R179: a frame whose check matches is judged by its fields. -/
def judgeFields (arb : Byte) (payload : List Byte) : Verdict :=
  match readPayload (arb.toNat / 32) payload with
  | some p => if Frame.formOk ⟨arb.toNat % 32, p⟩ then .good ⟨arb.toNat % 32, p⟩ else .formError
  | none => .formError

/-- R32: a frame is judged once, when it ends, from the bytes taken and whether its end was violated. Cut short before
its check it is a FORM error; a check that does not match is a CHECK error whatever else is wrong. -/
def judgeBytes (bs : List Byte) (endViolated : Bool) : Verdict :=
  match bs with
  | arb :: len :: rest =>
    if rest.length < len.toNat + 2 then .formError
    else if (rest.drop len.toNat).take 2 ≠ checkBytes (crc (arb :: len :: rest.take len.toNat)) then .checkError
    else if endViolated || decide (rest.length ≠ len.toNat + 2) || decide (24 < len.toNat) then .formError
    else judgeFields arb (rest.take len.toNat)
  | _ => .formError

end Sys2Proof
end

