-- ==== Sys2Proof/Machine/StartUp.lean ====
section
/-! DEFINITION. The Configuration Loader (11): device reset, the configuration record and its correction, the completion
of configuration. -/

namespace Sys2Proof.Machine

/-! ## Device reset (R169) -/

/-- R169 and the reset rules of every block. A transfer in progress is void (R168). The levels on the input pins are
not the controller's to reset. -/
def deviceReset (s : State) : State :=
  { State.reset with
    resetHeld := true
    pins := s.pins
    panel := { PanelState.reset with link := if s.panel.link = .idle then .idle else .void }
    pending := s.pending }

/-! ## Checking fields (R171) -/

/-- A value after its check, with the byte offsets of the fields that were corrected, in order. -/
structure Checked (α : Type) where
  value     : α
  corrected : List Nat

/-- One field: its offset in the record, the value as read and the value after its correction. -/
def checkField (offset raw value : Nat) : Checked Nat :=
  { value := value, corrected := if raw = value then [] else [offset] }

/-- The byte at an offset of the record. -/
def byteAt (r : List Byte) (k : Nat) : Nat := (r.getD k 0).toNat

/-- The two-byte number at an offset of the record. -/
def wordAt (r : List Byte) (k : Nat) : Nat := unword (r.getD k 0) (r.getD (k + 1) 0)

/-- A one-byte field clamped to its range. -/
def rangedByte (r : List Byte) (k lo hi : Nat) : Checked Nat := checkField k (byteAt r k) (clampTo lo hi (byteAt r k))

/-- A two-byte field clamped to its range. -/
def rangedWord (r : List Byte) (k lo hi : Nat) : Checked Nat := checkField k (wordAt r k) (clampTo lo hi (wordAt r k))

/-- Taken down to a multiple of 10. -/
def downToTen (x : Nat) : Nat := x - x % 10

/-- A time: clamped, then taken down to a multiple of 10. -/
def timeField (r : List Byte) (k lo hi : Nat) : Checked Nat := checkField k (wordAt r k) (downToTen (clampTo lo hi (wordAt r k)))

/-- The served or the concern block. -/
def blockAt (r : List Byte) (k : Nat) : Checked AreaBlock :=
  let raw : AreaBlock := { size := byteAt r k, offset := byteAt r (k + 1) }
  let size := checkField k raw.size (if raw.sizeOk then raw.size else 16)
  let offset := checkField (k + 1) raw.offset (AreaBlock.aligned ⟨size.value, min 15 raw.offset⟩).offset
  { value := ⟨size.value, offset.value⟩, corrected := size.corrected ++ offset.corrected }

/-- A field with named values: any other code takes the value given. -/
def codeAt {α : Type} (r : List Byte) (k : Nat) (read : Nat → Option α) (otherwise : α) : Checked α :=
  match read (byteAt r k) with
  | some x => { value := x, corrected := [] }
  | none => { value := otherwise, corrected := [k] }

/-- The start modes a record may give: STANDBY and SHOW. -/
def startModeOf : Nat → Option Mode
  | 0 => some .standby | 1 => some .inShow | _ => none

def syncModeOf : Nat → Option SyncMode
  | 0 => some .track | 1 => some .once | 2 => some .monitor | _ => none

def zoneKindOf : Nat → Option ZoneKind
  | 0 => some .detector | 1 => some .callPoint | _ => none

/-- The required stations: a number outside 1..31 leaves its place empty. Each place within the count is a field of its own
for the clamp count and the offset reported (DESIGN CHOICE, log 19). -/
def requiredAt (r : List Byte) : Checked (List Nat) :=
  let count := rangedByte r 10 0 4
  let places := (List.range count.value).map (fun i => 11 + i)
  let valid (k : Nat) : Bool := decide (1 ≤ byteAt r k) && decide (byteAt r k ≤ 31)
  { value := (places.filter valid).map (byteAt r)
    corrected := count.corrected ++ places.filter (fun k => !valid k) }

def zoneAt (r : List Byte) (n : Nat) : Checked ZoneConfig :=
  let k := 21 + 8 * n
  let kind := codeAt r (k + 1) zoneKindOf .detector
  let area := rangedByte r (k + 2) 0 15
  let t1 := rangedWord r (k + 3) 0 1200
  let t2 := rangedWord r (k + 5) 0 6000
  let threshold := rangedByte r (k + 7) 2 15
  { value := { enabled := decide (byteAt r k ≠ 0), kind := kind.value, area := area.value, t1 := t1.value, t2 := t2.value
               threshold := threshold.value }
    corrected := kind.corrected ++ area.corrected ++ t1.corrected ++ t2.corrected ++ threshold.corrected }

/-- A sounder or a channel: an enabled output whose area lies outside the served block has enabled cleared. -/
def outputAt (r : List Byte) (served : AreaBlock) (k : Nat) : Checked OutputConfig :=
  let area := rangedByte r k 0 15
  let wanted := decide (byteAt r (k + 1) ≠ 0)
  let inside := served.contains area.value
  { value := { area := area.value, enabled := wanted && inside }
    corrected := area.corrected ++ (if wanted && !inside then [k + 1] else []) }

/-- The period B of a pattern: clamped, taken down to a multiple of 10, and A + 10 when not above A. -/
def periodAt (r : List Byte) (k onTime : Nat) : Checked Nat :=
  let b := downToTen (min 10000 (wordAt r k))
  checkField k (wordAt r k) (if b ≤ onTime then onTime + 10 else b)

def patternAt (r : List Byte) (i : Nat) : Checked Pattern :=
  let k := 109 + 7 * i
  let a := timeField r k 20 5000
  let b := periodAt r (k + 2) a.value
  let n := rangedByte r (k + 4) 1 32
  let g := timeField r (k + 5) 0 10000
  { value := { onTime := a.value, period := b.value, cycles := n.value, gap := g.value }
    corrected := a.corrected ++ b.corrected ++ n.corrected ++ g.corrected }

/-- Values side by side, with all their corrections. -/
def Checked.list {α : Type} (xs : List (Checked α)) : Checked (List α) :=
  { value := xs.map (fun x => x.value), corrected := xs.flatMap (fun x => x.corrected) }

/-- R171, 12 section 12.4: the record's fields after correction, in the order of the table. Its station number and role
have been judged before (R170). -/
def readConfig (r : List Byte) (role : Role) : Checked ConfigRecord :=
  let served := blockAt r 2
  let concern := blockAt r 4
  let startMode := codeAt r 8 startModeOf .standby
  let required := requiredAt r
  let interval := rangedByte r 15 4 32
  let period := timeField r 16 100 1000
  let window := rangedByte r 18 0 50
  let sync := codeAt r 19 syncModeOf .track
  let threshold := rangedByte r 20 1 15
  let zones := Checked.list ((List.range 8).map (zoneAt r))
  let sounders := Checked.list ((List.range 4).map (fun i => outputAt r served.value (85 + 2 * i)))
  let channels := Checked.list ((List.range 8).map (fun i => outputAt r served.value (93 + 2 * i)))
  let patterns := Checked.list ((List.range 8).map (patternAt r))
  let evacOn := timeField r 165 20 5000
  let evacPeriod := periodAt r 167 evacOn.value
  let warning := rangedByte r 169 0 7
  let pTop := rangedWord r 170 1000 65000
  let tolerance := rangedWord r 172 0 2000
  let descentLimit := rangedWord r 174 50 600
  let stallLimit := rangedByte r 176 5 50
  let startTimeout := rangedByte r 177 5 50
  let holdLapse := rangedByte r 178 1 8
  { value :=
      { station := byteAt r 0, role := role, served := served.value, concern := concern.value
        publicAreas := BitVec.ofNat 16 (wordAt r 6), startMode := startMode.value, solo := decide (byteAt r 9 ≠ 0)
        required := required.value, statusInterval := interval.value, period := period.value, window := window.value
        syncMode := sync.value, errorThreshold := threshold.value, zones := zones.value, sounders := sounders.value
        channels := channels.value, patterns := patterns.value, evacOn := evacOn.value, evacPeriod := evacPeriod.value
        warningPattern := warning.value, pTop := pTop.value, tolerance := tolerance.value
        descentLimit := descentLimit.value, stallLimit := stallLimit.value, startTimeout := startTimeout.value
        holdLapse := holdLapse.value }
    corrected :=
      served.corrected ++ concern.corrected ++ startMode.corrected ++ required.corrected ++ interval.corrected
        ++ period.corrected ++ window.corrected ++ sync.corrected ++ threshold.corrected ++ zones.corrected
        ++ sounders.corrected ++ channels.corrected ++ patterns.corrected ++ evacOn.corrected ++ evacPeriod.corrected
        ++ warning.corrected ++ pTop.corrected ++ tolerance.corrected ++ descentLimit.corrected ++ stallLimit.corrected
        ++ startTimeout.corrected ++ holdLapse.corrected }

/-! ## The end of the read (R170, R172, R173) -/

/-- R170: how the read ended. -/
inductive ReadOutcome | failed (reason : ConfigFailure) | usable (record : List Byte) (role : Role)
deriving DecidableEq, Repr

/-- R170, R179: the check carried in bytes 190 and 191 matches the one computed over bytes 0 to 189. -/
abbrev checkMatches (r : List Byte) : Prop := (r.drop 190).take 2 = checkBytes (crc (r.take 190))

/-- R170: the findings, in order. -/
def judgeRead : ConfigRead → ReadOutcome
  | .noMemory => .failed .noMemory
  | .bytes r =>
    if ¬checkMatches r then .failed .check
    else if byteAt r 0 = 0 ∨ 31 < byteAt r 0 then .failed .station
    else
      match Role.ofCode (byteAt r 1) with
      | some role => .usable r role
      | none => .failed .role

/-- R173: the entry into UNCONFIGURED. -/
def enterUnconfigured (reason : ConfigFailure) (s : State) : State :=
  report (.phaseUnconfigured reason) (s.setPhase .unconfigured)

/-- R2, R172: a zone record takes its configuration fields. -/
def ZoneRecord.load (c : ZoneConfig) (z : ZoneRecord) : ZoneRecord :=
  { z with enabled := c.enabled, kind := c.kind, area := c.area, t1 := c.t1, t2 := c.t2, threshold := c.threshold }

/-- R126, R172: a channel takes its configuration fields. -/
def Channel.load (c : OutputConfig) (x : Channel) : Channel := { x with area := c.area, enabled := c.enabled }

/-- R172 step 1: each block takes its fields. -/
def loadBlocks (c : ConfigRecord) (clamps : Nat) (s : State) : State :=
  { s with
    config := some c
    clampCount := clamps
    mode := c.startMode
    line := { s.line with threshold := c.errorThreshold }
    beat := { s.beat with period := c.period, window := c.window, sync := c.syncMode }
    zones := List.zipWith ZoneRecord.load c.zones s.zones
    lights := { s.lights with channels := List.zipWith Channel.load c.channels s.lights.channels }
    calls := { s.calls with sounders := c.sounders } }

/-- R171: one CONFIG_CLAMPED report when a field was corrected. -/
def reportClamps (corrected : List Nat) (s : State) : State :=
  match corrected with
  | [] => s
  | first :: _ => report (.configClamped (min 255 corrected.length) first) s

/-- R172 steps 3 and 4: LISTEN begins, the beat timer starts and the curtain takes its first state. -/
def enterListen (c : ConfigRecord) (s : State) : State :=
  let s1 := report (.phaseListen c.station c.role c.startMode) ((s.setPhase .listen).setListenCount 0)
  curtainStartUp (s1.setBeat { s1.beat with running := true, position := 0, number := 0 })

/-- R171, R172: configuration completes. `pins` are the levels of the curtain inputs at that moment. -/
def completeConfiguration (r : List Byte) (role : Role) (pins : CurtainPins) (s : State) : State :=
  let c := readConfig r role
  let s1 := loadBlocks c.value (min 255 c.corrected.length) (s.setPins pins)
  enterListen c.value (reportClamps c.corrected s1)

/-- R170 to R173: the configuration read ends. -/
def endConfigRead (read : ConfigRead) (pins : CurtainPins) (s : State) : State :=
  if s.phase = .configRead ∧ s.resetHeld = false then
    match judgeRead read with
    | .usable r role => completeConfiguration r role pins s
    | .failed reason => enterUnconfigured reason s
  else s

end Sys2Proof.Machine
end

