-- ==== Sys2Proof/Machine/Events.lean ====
section
/-! DEFINITION. The rows of opcode_table.json that start-up, time and the field lines give: one definition a row. A row that
names a moment (an expiry, an end) asserts that the moment has come (log 3); where what it names is not there, nothing
changes (log 4). -/

namespace Sys2Proof.Machine

/-- The answer of a row. -/
abbrev Result := Host.Outcome State Fault Refusal

/-- What a row does in LISTEN and ACTIVE alone (11 section 11.3, the table of phases). -/
def whileWorking (f : State → State) (s : State) : State := if s.working then f s else s

/-! ## Start-up -/

/-- DEVICE_RESET (R169). -/
def execDeviceReset (s : State) : Result := .next (deviceReset s)

/-- RESET_RELEASE (R169, R170). -/
def execResetRelease (s : State) : Result := .next (s.setResetHeld false)

/-- CONFIG_READ_DONE (R170 to R173). -/
def execConfigReadDone (read : ConfigRead) (pins : CurtainPins) (s : State) : Result := .next (endConfigRead read pins s)

/-- R174 for the row LISTEN_END: the listen count reaches 2 Is. -/
def endListen (s : State) : State :=
  if s.phase = .listen then enterActive .listenEnd (s.setListenCount (2 * s.cfg.statusInterval)) else s

/-- LISTEN_END (R174, R176). -/
def execListenEnd (s : State) : Result := .next (endListen s)

/-! ## Zones -/

/-- R6, R108, R118: a sample event. The zones come first (log 10); a descent record is judged where it was present when
the event began. The moment of an earlier stall is past (log 36). -/
def sampleEvent (inputs : SampleInputs) (s : State) : State :=
  curtainSample inputs s.curtain.descent.isSome (sampleZones inputs (markStalled false s))

/-- SAMPLE_EVENT (R6). -/
def execSampleEvent (inputs : SampleInputs) (s : State) : Result := .next (whileWorking (sampleEvent inputs) s)

/-- R10, R11: the timer of zone n expires, where the zone is in the state the row names. The expiry that a RESET came ahead
of does not occur: T1 has just been restarted (R20, log 43). -/
def expireFrom (st : ZoneState) (n : Nat) (s : State) : State :=
  match s.zones[n]? with
  | some z => if z.enabled ∧ z.state = st ∧ z.timer.isSome then
      if z.restarted then setZone n { z with restarted := false } s else expireZone n s
    else s
  | none => s

/-- T1_EXPIRY (R10). -/
def execT1Expiry (n : Nat) (s : State) : Result := .next (whileWorking (expireFrom .preAlarm n) s)

/-- T2_EXPIRY (R11). -/
def execT2Expiry (n : Nat) (s : State) : Result := .next (whileWorking (expireFrom .investigating n) s)

/-! ## Beat and lights -/

/-- R64 for the row BEAT_EXPIRY: the running timer reaches P. The expiry that a followed BEAT came ahead of does not occur:
the timer has just been restarted (R70, log 38). -/
def beatDue (s : State) : State :=
  if s.beat.overtaken then s.setBeat { s.beat with overtaken := false }
  else if s.beat.running then expireBeat s
  else s

/-- BEAT_EXPIRY (R64, R65). -/
def execBeatExpiry (s : State) : Result := .next (whileWorking beatDue s)

/-- FADE_STEP (R74, R134). -/
def execFadeStep (s : State) : Result := .next (whileWorking fadeStepDue s)

/-- FADE_COMPLETE (R135). -/
def execFadeComplete (n : Nat) (s : State) : Result := .next (whileWorking (completeFade n) s)

/-- DIMMER_TRANSFER_END (R137), in every phase: the transfer of the reset ends in CONFIG_READ or UNCONFIGURED. -/
def execDimmerTransferEnd (s : State) : Result :=
  .next (if s.resetHeld then s else s.setLights (endTransfer s.lights))

/-! ## Peers -/

/-- PEER_LIVENESS_CHANGE (R45). -/
def execPeerLivenessChange (n : Nat) (s : State) : Result := .next (whileWorking (ageToThreshold n) s)

/-- R56 for the row ALONE: the beats-since-any-peer count reaches 4 Is, where it is judged. -/
def aloneDue (s : State) : State :=
  if s.phase = .active ∧ s.cfg.solo = false then judgeAlone (s.setPeers { s.peers with anyPeer := 4 * s.cfg.statusInterval })
  else s

/-- ALONE (R56). -/
def execAlone (s : State) : Result := .next (aloneDue s)

/-- R53 for the row STATUS_INTERVAL: the status schedule reaches Is. -/
def statusDue (s : State) : State := if s.phase = .active then offerStatus s else s

/-- STATUS_INTERVAL (R53). -/
def execStatusInterval (s : State) : Result := .next (statusDue s)

/-! ## Calls -/

/-- CADENCE_PHASE (R145, R155). -/
def execCadencePhase (s : State) : Result := .next (whileWorking cadencePhase s)

/-- REPETITION_END (R154). -/
def execRepetitionEnd (s : State) : Result := .next (whileWorking endRepetition s)

/-- EVACUATION_PHASE (R145, R157). -/
def execEvacuationPhase (s : State) : Result := .next (whileWorking evacuationPhase s)

/-! ## The curtain -/

/-- R105 for the row HOLD_LAPSE: the beats of a hold that is present reach 0. -/
def holdDue (s : State) : State :=
  match s.curtain.hold with
  | some h => lapseHold (s.setCurtain { s.curtain with hold := some { h with remaining := 0 } })
  | none => s

/-- HOLD_LAPSE (R105). -/
def execHoldLapse (s : State) : Result := .next (whileWorking holdDue s)

/-- ENCODER_COUNT (R96, R98). -/
def execEncoderCount (up : Bool) (s : State) : Result := .next (whileWorking (encoderCount up) s)

/-- BOTTOM_LIMIT (R97). -/
def execBottomLimit (active : Bool) (s : State) : Result := .next (whileWorking (bottomLimit active) s)

/-- TOP_LIMIT (R98). -/
def execTopLimit (active : Bool) (s : State) : Result := .next (whileWorking (topLimit active) s)

/-- DRIVE_READY_LOST (R110). The operand is the level after the change, so that the line's return is a row too (log 6). -/
def execDriveReadyLost (ready : Bool) (s : State) : Result := .next (whileWorking (driveReadyChange ready) s)

/-- R108 for the row START_TIMEOUT: the count of a START handshake reaches the start timeout. -/
def startDue (s : State) : State :=
  match s.curtain.handshake with
  | .start _ => curtainChange .jammed .startTimeout s
  | .idle => s
  | .running => s
  | .stop _ => s

/-- START_TIMEOUT (R108). -/
def execStartTimeout (s : State) : Result := .next (whileWorking startDue s)

/-- R109 for the row STOP_TIMEOUT: the count of a STOP handshake reaches the start timeout. -/
def stopDue (s : State) : State :=
  match s.curtain.handshake with
  | .stop _ => curtainChange .jammed .stopTimeout s
  | .idle => s
  | .running => s
  | .start _ => s

/-- STOP_TIMEOUT (R109). -/
def execStopTimeout (s : State) : Result := .next (whileWorking stopDue s)

/-- DESCENT_STALLED (R120, R122). -/
def execDescentStalled (s : State) : Result := .next (whileWorking stallNow s)

end Sys2Proof.Machine
end

