-- ==== Sys2Proof/Machine/Commands.lean ====
section
/-! DEFINITION. Command handling (05): judging COMMAND frames and carrying commands out; the station mode (R177). -/

namespace Sys2Proof.Machine

/-- R81: the roles that may give a command. -/
def rolePermitted (c : Command) (r : Role) : Bool :=
  match c with
  | .setMode _ => r == .stage || r == .foh
  | _ => r == .fire || r == .foh || r == .stage

/-- R177: the change from one mode to another is allowed. -/
def modeAllowed (present requested : Mode) : Bool := present == .standby || requested == .standby

/-- R177: a taken SET_MODE at the Configuration Loader. -/
def changeMode (m : Mode) (sender : Nat) (s : State) : State :=
  if m = s.mode then s
  else if modeAllowed s.mode m then report (.modeChanged s.mode m sender) (s.setMode m)
  else report (.modeRefused s.mode m sender) s

/-- R83 to R88: what a taken command does. -/
def carryOut (c : Command) (sender : Nat) (s : State) : State :=
  match c with
  | .ack z => ackZones z s
  | .reset => clearSilence .reset (resetZones (removeLostPeers s))
  | .silence => setSilence s
  | .isolate z => isolateZone z s
  | .restore z => restoreZone z s
  | .setMode m => changeMode m sender s

/-- R82: a command is taken; its COMMAND_TAKEN report comes first. -/
def takeCommand (c : Command) (sender target : Nat) (isLocal : Bool) (s : State) : State :=
  carryOut c sender (report (.commandTaken c sender target isLocal) s)

/-- R79: the frame is addressed to this controller. -/
def addressed (target : Nat) (s : State) : Bool := target == 0 || target == s.cfg.station

/-- R81, R86: why a command from the judged role is ignored; `none`: it is taken. -/
def ignoreReason (c : Command) (judged : Option Role) (s : State) : Option IgnoreReason :=
  match judged with
  | none => some .senderUnknown
  | some r =>
    if !rolePermitted c r then some .senderRole
    else if c = .silence ∧ s.condition ≠ .alarm then some .notAlarm
    else none

/-- R79 to R82, R86: command handling takes a COMMAND frame. -/
def takeCommandFrame (sender : Nat) (c : Command) (target : Nat) (s : State) : State :=
  if addressed target s then
    match ignoreReason c (judgedRole sender s) s with
    | some r => report (.commandIgnored c sender target (judgedRole sender s) r) s
    | none => takeCommand c sender target false s
  else s

end Sys2Proof.Machine
end

