-- ==== Sys2Proof/Machine/Line.lean ====
section
/-! DEFINITION. The Line Interface (02): counting errors and good frames, handing a frame on, the send slot. -/

namespace Sys2Proof.Machine

/-! ## The error score (R34 to R36) -/

inductive LineError | check | form | bit
deriving DecidableEq, Repr

/-- R34, R35: an error raises its counter and the score, and returns the good-frame counter to 0. -/
def LineState.countError (k : LineError) (l : LineState) : LineState :=
  { l with
    checkCount := if k = .check then bump 255 l.checkCount else l.checkCount
    formCount := if k = .form then bump 255 l.formCount else l.formCount
    bitCount := if k = .bit then bump 255 l.bitCount else l.bitCount
    score := bump 15 l.score
    good := 0 }

/-- R35: a good frame advances the good-frame counter; the sixteenth lowers the score instead. -/
def LineState.countGood (l : LineState) : LineState :=
  if 16 ≤ l.good + 1 then { l with good := 0, score := l.score - 1 } else { l with good := l.good + 1 }

/-- R36: LINE_DEGRADED is judged against the score as it stands. -/
def judgeDegraded (s : State) : State :=
  if s.faults.lineDegraded = false ∧ s.line.threshold ≤ s.line.score then
    putLineFault .lineDegraded true (.lineDegradedChanged true s.line.score) s
  else if s.faults.lineDegraded = true ∧ s.line.score = 0 then
    putLineFault .lineDegraded false (.lineDegradedChanged false s.line.score) s
  else s

/-! ## Handing a frame on (R31) -/

/-- R31: the blocks that own the frame's class take it. The Peer Monitor takes no matter of a frame bearing the own
number, and a ZONE frame of the own number leaves the zone records unchanged (R17). -/
def takePayload (sender : Nat) (p : Payload) (s : State) : State :=
  match p with
  | .zone i a st =>
    if sender = s.cfg.station then s else takeZoneFrame sender { index := i, area := a, state := st } s
  | .beat n => takeBeatFrame sender n s
  | .command c t => takeCommandFrame sender c t s
  | .curtain k t => takeCurtainFrame sender k t s
  | .curtainState _ st pos => if sender = s.cfg.station then s else takeStateFrame sender st pos s
  | .cue b l d st => takeCueFrame sender b l d st s
  | .call b k c r st q => takeCallFrame (frameCall sender b k c r st q) s
  | .status r m f c zs => if sender = s.cfg.station then s else takeStatusFrame sender r m f c zs s

/-- R31: a frame is handed on, first to the Peer Monitor as heard from its sender, then to its owning blocks. -/
def handOn (f : Frame) (s : State) : State :=
  takePayload f.sender f.payload (if f.sender = s.cfg.station then s else heardFrom f.sender s)

/-! ## Reception (R32, R33, R69) -/

/-- R69: the frame that won over a held BEAT has been judged. A good BEAT frame stands in for the held one; otherwise
the held BEAT returns to the queue (log 13). -/
def resolveHeldBeat (wonByBeat : Bool) (s : State) : State :=
  match s.line.heldBeat with
  | none => s
  | some n =>
    let s1 := s.setLine { s.line with heldBeat := none }
    if wonByBeat then s1 else returnFrame (.beat n) s1

/-- R33: the first good frame bearing the own number that the controller did not send. -/
def noteDuplicate (sender : Nat) (s : State) : State :=
  if sender = s.cfg.station ∧ s.faults.duplicate = false then putLineFault .duplicate true .duplicateStation s else s

/-- R32, R35, R36, R69: a discarded frame is counted, LINE_DEGRADED is judged, and then a BEAT held aside returns (log 34). -/
def receiveError (k : LineError) (s : State) : State :=
  resolveHeldBeat false (judgeDegraded (s.setLine (s.line.countError k)))

/-- R31 to R36, R44, R69: a good frame is counted and LINE_DEGRADED is judged, a BEAT held aside is resolved, a duplicate is
noted, and then the frame is handed on (log 34). -/
def receiveGood (f : Frame) (s : State) : State :=
  handOn f (noteDuplicate f.sender (resolveHeldBeat f.payload.isBeat (judgeDegraded (s.setLine s.line.countGood))))

/-- R32: a typed frame is received, in LISTEN and ACTIVE alone. One with a field without meaning is a FORM error. -/
def receive (f : Frame) (s : State) : State :=
  if s.working then (if f.formOk then receiveGood f s else receiveError .form s) else s

/-- R32: the bytes of a frame that ended are judged, in LISTEN and ACTIVE alone. -/
def receiveBytes (bs : List Byte) (endViolated : Bool) (s : State) : State :=
  if s.working then
    match judgeBytes bs endViolated with
    | .checkError => receiveError .check s
    | .formError => receiveError .form s
    | .good f => receiveGood f s
  else s

/-! ## Sending (R24, R27 to R29, R40, R69) -/

def setSlot (f : Option Payload) (s : State) : State := s.setLine { s.line with slot := f }

/-- R24, R40: the line is idle and the head frame moves into the send slot. While a BEAT is held aside, the frame that
won over it is still on the line, which is then not idle (R69). -/
def beginFrame (s : State) : State :=
  if s.phase = .active ∧ s.line.slot = none ∧ s.line.heldBeat = none then
    match s.line.tx with
    | [] => s
    | f :: rest => s.setLine { s.line with slot := some f, tx := rest }
  else s

/-- R27, R40, R69: the frame in the send slot lost arbitration. -/
def loseArbitration (s : State) : State :=
  match s.line.slot with
  | none => s
  | some (.beat n) => s.setLine { s.line with slot := none, heldBeat := some n }
  | some f => returnFrame f (setSlot none s)

/-- R28: a BIT error abandons the frame in the send slot. -/
def abandonFrame (s : State) : State :=
  match s.line.slot with
  | none => s
  | some f => report (.txDropped f .bitError) (judgeDegraded (s.setLine { s.line.countError .bit with slot := none }))

/-- R29: the frame in the send slot was sent, and its sender takes it by reflection. -/
def reflectFrame (s : State) : State :=
  match s.line.slot with
  | none => s
  | some f => handOn { sender := s.cfg.station, payload := f } (setSlot none s)

end Sys2Proof.Machine
end

