-- ==== Sys2Proof/Machine/LineRows.lean ====
section
/-! DEFINITION. The rows of opcode_table.json that the house line gives: one definition a row. A frame of the tables comes
typed and is judged by its fields (R32); RX_FRAME_ERROR brings bytes. -/

namespace Sys2Proof.Machine

/-! ## The send slot and damaged frames -/

/-- TX_START (R24, R40). -/
def execTxStart (s : State) : Result := .next (beginFrame s)

/-- ARBITRATION_LOST (R27, R40, R69). -/
def execArbitrationLost (s : State) : Result := .next (loseArbitration s)

/-- BIT_ERROR (R28, R34 to R36). -/
def execBitError (s : State) : Result := .next (abandonFrame s)

/-- FRAME_SENT (R29, R31). -/
def execFrameSent (s : State) : Result := .next (reflectFrame s)

/-- RX_FRAME_ERROR (R32). -/
def execRxFrameError (bytes : List Byte) (endViolated : Bool) (s : State) : Result := .next (receiveBytes bytes endViolated s)

/-! ## Good frames -/

/-- ZONE_FRAME (R47). -/
def execZoneFrame (sender zone area : Nat) (state : ZoneState) (s : State) : Result :=
  .next (receive { sender := sender, payload := .zone zone area state } s)

/-- STATUS_FRAME (R46). -/
def execStatusFrame (sender : Nat) (role : Role) (mode : Mode) (faults : FaultSet) (curtain : Option (CurtainState × Nat))
    (zones : List PeerZone) (s : State) : Result :=
  .next (receive { sender := sender, payload := .status role mode faults curtain zones } s)

/-- BEAT_FRAME (R66 to R73). -/
def execBeatFrame (sender : Nat) (number : BitVec 8) (s : State) : Result :=
  .next (receive { sender := sender, payload := .beat number } s)

/-- COMMAND_ACK (R83). -/
def execCommandAck (sender target zone : Nat) (s : State) : Result :=
  .next (receive { sender := sender, payload := .command (.ack zone) target } s)

/-- COMMAND_RESET (R84). -/
def execCommandReset (sender target : Nat) (s : State) : Result :=
  .next (receive { sender := sender, payload := .command .reset target } s)

/-- COMMAND_SILENCE (R86). -/
def execCommandSilence (sender target : Nat) (s : State) : Result :=
  .next (receive { sender := sender, payload := .command .silence target } s)

/-- COMMAND_ISOLATE (R87). -/
def execCommandIsolate (sender target zone : Nat) (s : State) : Result :=
  .next (receive { sender := sender, payload := .command (.isolate zone) target } s)

/-- COMMAND_RESTORE (R87). -/
def execCommandRestore (sender target zone : Nat) (s : State) : Result :=
  .next (receive { sender := sender, payload := .command (.restore zone) target } s)

/-- COMMAND_SET_MODE (R88, R177). -/
def execCommandSetMode (sender target : Nat) (mode : Mode) (s : State) : Result :=
  .next (receive { sender := sender, payload := .command (.setMode mode) target } s)

/-- CURTAIN_LOWER_FRAME (R101). -/
def execCurtainLowerFrame (sender target : Nat) (s : State) : Result :=
  .next (receive { sender := sender, payload := .curtain .lower target } s)

/-- CURTAIN_DROP_FRAME (R102). -/
def execCurtainDropFrame (sender target : Nat) (s : State) : Result :=
  .next (receive { sender := sender, payload := .curtain .drop target } s)

/-- CURTAIN_STOP_FRAME (R103). -/
def execCurtainStopFrame (sender target : Nat) (s : State) : Result :=
  .next (receive { sender := sender, payload := .curtain .stop target } s)

/-- CURTAIN_RAISE_HOLD_FRAME (R104). -/
def execCurtainRaiseHoldFrame (sender target : Nat) (s : State) : Result :=
  .next (receive { sender := sender, payload := .curtain .raiseHold target } s)

/-- CURTAIN_STATE_FRAME (R48). -/
def execCurtainStateFrame (sender target : Nat) (state : CurtainState) (pos : Nat) (s : State) : Result :=
  .next (receive { sender := sender, payload := .curtainState target state pos } s)

/-- CUE_FRAME (R129 to R132). -/
def execCueFrame (sender : Nat) (block : AreaBlock) (level duration : Nat) (start : Start) (s : State) : Result :=
  .next (receive { sender := sender, payload := .cue block level duration start } s)

/-- CALL_FRAME (R148). -/
def execCallFrame (sender : Nat) (block : AreaBlock) (pattern : Nat) (cls : CallClass) (repeats : Nat) (start : Start)
    (linked : Option LinkedCue) (s : State) : Result :=
  .next (receive { sender := sender, payload := .call block pattern cls repeats start linked } s)

end Sys2Proof.Machine
end

