-- ==== Sys2Proof/Machine/Records.lean ====
section
/-! DEFINITION. The 64-byte records the controller sends on the panel link (10 section 10.5, 12 section 12.3, R180). -/

namespace Sys2Proof.Machine

/-! ## Fields (R180) -/

/-- The record length of R178. -/
def recordLength : Nat := 64

def flag (b : Bool) : Byte := if b then 1 else 0

/-- A number that may exceed 65535: four bytes. -/
def long (n : Nat) : List Byte := [byte (n / 16777216), byte (n / 65536), byte (n / 256), byte n]

/-- An area block in a panel record: the size in areas, then the offset. -/
def blockField (b : AreaBlock) : List Byte := [byte b.size, byte b.offset]

/-- A phase error: two bytes in two's complement. -/
def signedField (x : Int) : List Byte := word (BitVec.ofInt 16 x).toNat

/-- A travel: two bytes; an upward travel has no stated form (log 18). -/
def travelField (x : Int) : List Byte := if 0 ≤ x then word x.toNat else word (Config.upwardTravelCode x).toNat

/-- An optional field of `width` bytes, preceded by its presence byte. -/
def optional {α : Type} (width : Nat) (f : α → List Byte) : Option α → List Byte
  | none => List.replicate (width + 1) 0
  | some x => 1 :: f x

/-- A list of entries of `width` bytes, preceded by its count and followed by its empty places. -/
def listField {α : Type} (places width : Nat) (f : α → List Byte) (xs : List α) : List Byte :=
  byte xs.length :: (xs.flatMap f ++ List.replicate ((places - xs.length) * width) 0)

/-- Filled up with zero bytes to the record length. -/
def padRecord (bs : List Byte) : List Byte := (bs ++ List.replicate recordLength 0).take recordLength

def Origin.field : Origin → Byte
  | .station n => byte n
  | .localUnit => Config.localOriginCode

/-- A role in a panel record; UNKNOWN is 5. -/
def roleField (r : Option Role) : Byte := byte ((r.map Role.code).getD 5)

/-- A mode in a panel record; UNKNOWN is 4. -/
def modeField (m : Option Mode) : Byte := byte ((m.map Mode.code).getD 4)

/-- A curtain state in a panel record; absent is 9. -/
def curtainField (c : Option CurtainState) : Byte := byte ((c.map CurtainState.code).getD 9)

/-- A start kind and start beat, without a presence byte; the beat's place is 0 without AT (log 18). -/
def startField (x : Start) : List Byte := [byte x.kindCode, x.beat.getD 0]

/-- What a fade or an entry waits for, NEXT 0 or beat n 1 (log 18). -/
def waitField : Wait → List Byte
  | .next => [0, 0]
  | .beat n => [1, n]

def keyFields (k : CallKey) : List Byte := byte k.pattern :: (blockField k.block ++ [byte k.cls.code])

/-- The zone index or the mode, where the command kind carries one. -/
def commandField : Command → Option Byte
  | .ack z => some (byte z)
  | .isolate z => some (byte z)
  | .restore z => some (byte z)
  | .setMode m => some (byte m.code)
  | .reset => none
  | .silence => none

/-- The kind of a dropped frame, for the classes that are named by kind (R28). The only kind a CUE or a CALL carries is
its start kind (log 18). -/
def droppedKind : Payload → Option Byte
  | .command c _ => some (byte c.code)
  | .curtain k _ => some (byte k.code)
  | .curtainState .. => some 4
  | .cue _ _ _ st => some (byte st.kindCode)
  | .call _ _ _ _ st _ => some (byte st.kindCode)
  | .zone .. => none
  | .beat _ => none
  | .status .. => none

/-! ## Codes of the reports' values (12 section 12.1, and by position) -/

def TxDropReason.code : TxDropReason → Nat
  | .bitError => 0 | .evicted => 1 | .full => 2

def IgnoreReason.code : IgnoreReason → Nat
  | .senderUnknown => 0 | .senderRole => 1 | .notAlarm => 2

def RaiseReason.code : RaiseReason → Nat
  | .listen => 0 | .positionUnknown => 1 | .condition => 2 | .stationFault => 3 | .driveNotReady => 4 | .state => 5

def CallIgnoreReason.code : CallIgnoreReason → Nat
  | .condition => 0 | .mode => 1

def CallDropReason.code : CallDropReason → Nat
  | .evicted => 0 | .full => 1

def SilenceCause.code : SilenceCause → Nat
  | .silence => 0 | .resound => 1 | .reset => 2 | .alarmEnd => 3

def ConfigFailure.code : ConfigFailure → Nat
  | .noMemory => 0 | .check => 1 | .station => 2 | .role => 3

def ListenCause.code : ListenCause → Nat
  | .listenEnd => 4 | .ownAlarm => 5

def ReadingKind.code : ReadingKind → Nat
  | .position => 0 | .movement => 1

def CueSource.code : CueSource → Nat
  | .line => 0 | .callLink => 1

def LastFade.code : LastFade → Nat
  | .staged => 0 | .active => 1

def Cadence.code : Cadence → Nat
  | .idle => 0 | .waitingStart => 1 | .playing => 2 | .resting => 3

def CadencePhase.code : CadencePhase → Nat
  | .on => 0 | .off => 1 | .gap => 2

def Handshake.code : Handshake → Nat
  | .idle => 0 | .start _ => 1 | .running => 2 | .stop _ => 3

/-- The handshake's sample count. NONE and RUNNING have none, and show 0 (log 35). -/
def Handshake.count : Handshake → Nat
  | .start n => n | .stop n => n | .idle => 0 | .running => 0

def LimitSwitch.field : LimitSwitch → Byte
  | .bottom => Config.limitSwitchCode false
  | .top => Config.limitSwitchCode true

/-! ## Reports -/

/-- The report kinds, numbered from 1 in the order of section 10.5. -/
def Report.kind : Report → Nat
  | .zoneChanged .. => 1 | .commandRefused .. => 2 | .txDropped .. => 3 | .duplicateStation => 4
  | .lineDegradedChanged .. => 5 | .peerChanged .. => 6 | .stationFaultChanged .. => 7 | .conditionChanged .. => 8
  | .syncModeChanged .. => 9 | .beatSlip .. => 10 | .lockChanged .. => 11 | .unaligned .. => 12
  | .commandTaken .. => 13 | .commandIgnored .. => 14 | .curtainChanged .. => 15 | .curtainIgnored .. => 16
  | .curtainRefused .. => 17 | .positionMismatch .. => 18 | .descentLate .. => 19 | .descentStalled .. => 20
  | .cueLate .. => 21 | .cueSuperseded .. => 22 | .cueDone .. => 23 | .cuesCancelled .. => 24 | .callLate .. => 25
  | .callIgnored .. => 26 | .callDropped .. => 27 | .callMerged .. => 28 | .callStarted .. => 29 | .callDone .. => 30
  | .callsFlushed .. => 31 | .silenceChanged .. => 32 | .configClamped .. => 33 | .phaseListen .. => 34
  | .phaseUnconfigured .. => 34 | .phaseActive .. => 34 | .modeChanged .. => 35 | .modeRefused .. => 36
  | .reportsLost .. => 37

/-- The contents of each report, in the order its making rule lists them. -/
def Report.content : Report → List Byte
  | .zoneChanged z a p n c => [byte z, byte a, byte p.code, byte n.code, byte c.code]
  | .commandRefused c => byte c.code :: (commandField c).toList
  | .txDropped f r => byte f.cls :: (optional 1 (fun k => [k]) (droppedKind f) ++ [byte r.code])
  | .duplicateStation => []
  | .lineDegradedChanged v x => [flag v, byte x]
  | .peerChanged n p x => [byte n, byte (Liveness.code p), byte (Liveness.code x)]
  | .stationFaultChanged f v => [byte f.code, flag v]
  | .conditionChanged p n f => [byte p.code, byte n.code, byte f.code]
  | .syncModeChanged p n => [byte p.code, byte n.code]
  | .beatSlip e r h => signedField e ++ [r, h]
  | .lockChanged n => [byte n.code]
  | .unaligned (.cue x o) n b => [0, n, b] ++ word x.toNat ++ [o.field]
  | .unaligned .call n b => [1, n, b]
  | .commandTaken c x t l => [byte c.code, byte x, byte t] ++ optional 1 (fun b => [b]) (commandField c) ++ [flag l]
  | .commandIgnored c x t j r =>
    [byte c.code, byte x, byte t] ++ optional 1 (fun b => [b]) (commandField c) ++ [roleField j, byte r.code]
  | .curtainChanged p n c pos k => [curtainField p, byte n.code, byte c.code] ++ word pos ++ [flag k]
  | .curtainIgnored k x j r => [byte k.code, byte x, roleField j, byte r.code]
  | .curtainRefused x r => [byte x, byte r.code]
  | .positionMismatch w p => w.field :: word p
  | .descentLate st t p k tr need => byte st.code :: (word t ++ word p ++ [byte k] ++ travelField tr ++ long need)
  | .descentStalled st t kind newest tr k n =>
    byte st.code :: (word t ++ [byte kind.code] ++ word newest ++ travelField tr ++ [byte k, byte n])
  | .cueLate x o n b => word x.toNat ++ [o.field, n, b]
  | .cueSuperseded x o b l y => word x.toNat ++ [o.field] ++ blockField b ++ [byte l.code] ++ word y.toNat
  | .cueDone x src o b l d =>
    word x.toNat ++ [byte src.code, o.field] ++ blockField b ++ word l ++ [byte d]
  | .cuesCancelled n => [byte n]
  | .callLate p b o n m => byte p :: (blockField b ++ [o.field, n, m])
  | .callIgnored k o r => keyFields k ++ [o.field, byte r.code]
  | .callDropped k o r => keyFields k ++ [o.field, byte r.code]
  | .callMerged k o n => keyFields k ++ [o.field, byte n]
  | .callStarted k o n => keyFields k ++ [o.field, byte n]
  | .callDone k o => keyFields k ++ [o.field]
  | .callsFlushed n => [byte n]
  | .silenceChanged v c => [flag v, byte c.code]
  | .configClamped n o => [byte n, byte o]
  | .phaseListen n r m => [byte Phase.configRead.code, byte Phase.listen.code, byte n, byte r.code, byte m.code]
  | .phaseUnconfigured f => [byte Phase.configRead.code, byte Phase.unconfigured.code, byte f.code]
  | .phaseActive c => [byte Phase.listen.code, byte Phase.active.code, byte c.code]
  | .modeChanged p n x => [byte p.code, byte n.code, byte x]
  | .modeRefused p r x => [byte p.code, byte r.code, byte x]
  | .reportsLost n => [byte n]

/-- A report as it is sent: type 4, its kind, the beat number, its contents. -/
def ReportRecord.bytes (r : ReportRecord) : List Byte :=
  padRecord ([4, byte r.report.kind, r.beat] ++ r.report.content)

/-! ## Results of the READ requests -/

def RequestKind.code : RequestKind → Nat
  | .none => 0 | .call => 1 | .cue => 2 | .curtainLower => 3 | .curtainDrop => 4 | .curtainStop => 5
  | .curtainRaiseHold => 6 | .ack => 7 | .reset => 8 | .silence => 9 | .isolate => 10 | .restore => 11 | .setMode => 12
  | .setMaster => 13 | .readZone => 14 | .readPeer => 15 | .readChannel => 16 | .readCurtain => 17
  | .readCounters => 18 | .readQueue => 19 | .readBeat => 20 | .unknown n => n

def RefusalReason.code : RefusalReason → Nat
  | .unconfigured => 1 | .notReady => 2 | .noAuthority => 3 | .badValue => 4 | .wrongMode => 5 | .condition => 6
  | .notPresent => 7 | .txFull => 8

/-- R23: the fields of R1. -/
def zoneFields (z : ZoneRecord) : List Byte :=
  [flag z.enabled, byte z.kind.code, byte z.area] ++ word z.t1 ++ word z.t2 ++ [byte z.threshold, byte z.state.code]
    ++ listField 3 1 (fun c => [byte c.code]) z.history
    ++ optional 1 (fun c => [byte c.code]) z.reading
    ++ [byte z.faultScore] ++ optional 2 word z.timer

/-- R51: the fields of R43. -/
def peerFields (e : PeerEntry) : List Byte :=
  [byte e.station, roleField e.role, modeField e.mode]
    ++ optional 1 (fun f => [byte (FaultSet.code f)]) e.faults
    ++ optional 3 (fun c : CurtainState × Nat => byte c.1.code :: word c.2) e.curtain
    ++ listField 8 3 (fun z : PeerZone => [byte z.index, byte z.area, byte z.state.code]) e.zones
    ++ [byte e.heard, byte (Liveness.code (some e.liveness))]

/-- R143: the fields of a cue entry that a fade shows. -/
def cueFields (e : CueEntry) : List Byte :=
  word e.serial.toNat ++ [byte e.source.code, e.origin.field] ++ blockField e.block ++ word e.level
    ++ [byte e.duration] ++ startField e.start

/-- R143. -/
def channelFields (r : ChannelResult) : List Byte :=
  [byte r.channel.area, flag r.channel.enabled] ++ word r.channel.level
    ++ optional 6 (fun f : StagedFade => word f.target ++ word f.duration ++ waitField f.wait) r.channel.staged
    ++ optional 8 (fun f : ActiveFade => word f.start ++ word f.target ++ word f.duration ++ word f.elapsed)
      r.channel.active
    ++ [byte r.channel.code] ++ optional 11 cueFields r.stagedCue ++ optional 11 cueFields r.activeCue
    ++ word r.master ++ [flag r.floor, byte r.entries]

/-- R117: a descent record. -/
def descentFields (d : Descent) : List Byte :=
  word d.t ++ [byte d.kind.code] ++ listField 5 2 word d.readings ++ [byte d.stallCount, flag d.lateReported]

/-- R116. -/
def curtainFields (r : CurtainResult) : List Byte :=
  [curtainField r.record.state] ++ word r.record.pos ++ [flag r.record.known] ++ word r.record.movement.toNat
    ++ optional 2 (fun h : Hold => [byte h.remaining, byte h.back.code]) r.record.hold
    ++ [byte r.record.handshake.code, byte r.record.handshake.count] ++ optional 16 descentFields r.record.descent
    ++ [flag r.driveReady, flag r.driveMoving, flag r.topLimit, flag r.bottomLimit]
    ++ [flag r.record.out.brake, flag r.record.out.raise, flag r.record.out.lower, flag r.fault]

/-- R34. -/
def counterFields (r : CountersResult) : List Byte :=
  [byte r.checkCount, byte r.formCount, byte r.bitCount, byte r.score, byte r.good, byte r.threshold
   , flag r.lineDegraded, flag r.duplicate, byte r.waiting]

/-- R147: a call queue entry. -/
def entryFields (e : CallEntry) : List Byte :=
  keyFields e.key ++ [byte e.repeats, e.origin.field] ++ startField e.start
    ++ optional 3 (fun q : LinkedCue => word q.level ++ [byte q.duration]) e.linked ++ [flag e.started, flag e.playing]

/-- R161. -/
def queueFields (r : QueueResult) : List Byte :=
  optional 14 entryFields r.entry ++ [byte r.count, byte r.cadence.code]
    ++ optional 1 (fun n => [byte n]) r.chosen ++ optional 2 waitField r.wait
    ++ optional 6 (fun x : RepPosition => [byte x.cycle, byte x.phase.code] ++ long x.time) r.position
    ++ [flag r.pause, flag r.evacuation, flag r.silence]
    ++ optional 3 (fun x : EvacPosition => (if x.on then 0 else 1) :: word x.time) r.evacPos
    ++ r.sounders.flatMap (fun x : OutputConfig × Bool => [byte x.1.area, flag x.1.enabled, flag x.2])

/-- R77. -/
def beatFields (b : BeatState) : List Byte :=
  [b.number] ++ word b.position ++ [byte b.stepIndex, byte b.sync.code, byte b.lock.code, byte b.run]
    ++ signedField b.phaseError ++ [byte b.received] ++ word b.period ++ [byte b.window]

/-- The contents of a result record. One marked absent carries the presence byte 0 and the requested number (R180). -/
def ReadResult.content : ReadResult → List Byte
  | .zone z => zoneFields z
  | .peer n none => [0, byte n]
  | .peer _ (some e) => 1 :: peerFields e
  | .channel r => channelFields r
  | .curtain none => [0]
  | .curtain (some r) => 1 :: curtainFields r
  | .counters r => counterFields r
  | .queue r => queueFields r
  | .beat b => beatFields b

/-- An answer as it is sent: type, request kind, tag, flags 0, then the reason or the contents. -/
def Answer.bytes : Answer → List Byte
  | .taken k tag => padRecord [1, byte k.code, byte tag, 0]
  | .refused k tag r => padRecord [2, byte k.code, byte tag, 0, byte r.code]
  | .result k tag r => padRecord ([3, byte k.code, byte tag, 0] ++ r.content)

/-- R180: a NONE record. -/
def noneRecord : List Byte := padRecord []

end Sys2Proof.Machine
end

