-- ==== Sys2Proof/Machine/Panel.lean ====
section
/-! DEFINITION. The Panel Port (10): transfers, the result holder, and the judgement of each request (R23, R34, R51, R77,
R89 to R91, R115, R116, R138, R142, R143, R160, R161, R164). -/

namespace Sys2Proof.Machine

/-! ## Transfers (R162, R163, R167, R168) -/

def setLink (x : Link) (s : State) : State := s.setPanel { s.panel with link := x }

/-- R163: where the record of a transfer comes from. -/
def PanelState.source (p : PanelState) : RecordSource :=
  match p.holder, p.reports with
  | some _, _ => .holder
  | none, _ :: _ => .report
  | none, [] => .empty

/-- R163: the 64 bytes of that record. -/
def PanelState.outgoing (p : PanelState) : List Byte :=
  match p.holder, p.reports with
  | some a, _ => a.bytes
  | none, r :: _ => r.bytes
  | none, [] => noneRecord

/-- R162, R163: PCS falls. A transfer that begins while RESET is held is in progress at the reset, and void (R168, R169). -/
def beginTransfer (s : State) : State :=
  match s.panel.link with
  | .idle => if s.resetHeld then setLink .void s else setLink (.sending s.panel.source s.panel.outgoing) s
  | .sending _ _ => s
  | .void => s

/-- R162, R168: the byte sent on PSDO at place k of the transfer in progress: of the record, then zero bytes; in a transfer
cut by a reset a byte that carries no record (log 39). -/
def Link.psdo (k : Nat) : Link → Option Byte
  | .idle => none
  | .sending _ bytes => some (bytes.getD k 0)
  | .void => some (Config.voidTransferByte k)

/-- R162, R166, R167: the head report has been sent. From a full queue with reports lost, a REPORTS_LOST record takes
the freed place. ATTENTION follows the queue. -/
def PanelState.popReport (beat : BitVec 8) (p : PanelState) : PanelState :=
  match p.reports with
  | [] => p
  | _ :: rest =>
    if 32 ≤ p.reports.length ∧ 0 < p.lost then
      { p with reports := rest ++ [⟨beat, .reportsLost p.lost⟩], lost := 0, attention := true }
    else { p with reports := rest, attention := !rest.isEmpty }

/-- R162 step 1: the record sent is removed from where it came from. -/
def removeSent (source : RecordSource) (s : State) : State :=
  match source with
  | .empty => s
  | .holder => s.setPanel { s.panel with holder := none }
  | .report => s.setPanel (s.panel.popReport s.beat.number)

/-- R162, R168: a complete transfer ends with the request it carries. Of a transfer cut by a reset no request is taken;
a request without an open transfer is a whole transfer of its own (log 5). -/
def completeTransfer (request : State → State) (s : State) : State :=
  match s.panel.link with
  | .void => setLink .idle s
  | .sending source _ => request (removeSent source (setLink .idle s))
  | .idle => if s.resetHeld then s else request (removeSent s.panel.source s)

/-- R162: PCS rises too early; nothing is removed and no request is taken. -/
def voidTransfer (s : State) : State := setLink .idle s

/-! ## Answers (R164, R165) -/

def place (a : Answer) (s : State) : State := s.setPanel { s.panel with holder := some a }

def refuse (k : RequestKind) (tag : Nat) (r : RefusalReason) (s : State) : State := place (.refused k tag r) s

def answerRead (k : RequestKind) (tag : Nat) (r : ReadResult) (s : State) : State := place (.result k tag r) s

/-- R164: a request is refused with its reason, or it is carried out and answered REQUEST_TAKEN. -/
def answerRequest (k : RequestKind) (tag : Nat) (reason : Option RefusalReason) (effect : State → State) (s : State) : State :=
  match reason with
  | some r => refuse k tag r s
  | none => place (.taken k tag) (effect s)

/-! ## Requests that send a frame -/

/-- R115, R142, R160, checks 1 and 2: a request that sends a frame needs ACTIVE. -/
def framePhase (s : State) : Option RefusalReason :=
  match s.phase with
  | .unconfigured => some .unconfigured
  | .configRead => some .notReady
  | .listen => some .notReady
  | .active => none

/-- R91, R115, R142, R160, the last check: the frame can be placed. -/
def placeable (f : Payload) (s : State) : Option RefusalReason := if canPlace f s.line.tx then none else some .txFull

/-- R160: the CALL frame of a request, with its values aligned and clamped; none where a value is a BAD_VALUE. The linked cue
flag of R180 is judged here, with check 3 of R160 (DESIGN CHOICE, log 44). -/
def callOf (a : CallArgs) : Option Payload :=
  match CallClass.ofCode a.cls, Start.ofCodes a.startKind a.startBeat with
  | some c, some st =>
    let b : AreaBlock := { size := a.size, offset := a.offset }
    if b.named ∧ a.pattern ≤ 7 ∧ a.linkedFlag ≤ 1 then
      some (.call b.aligned a.pattern c (clampTo 1 16 a.repeats) st
        (if a.linkedFlag = 1 then some { level := clampTo 0 1000 a.level, duration := clampTo 0 240 a.duration } else none))
    else none
  | _, _ => none

/-- R142: the CUE frame of a request, with its values aligned and clamped. -/
def cueOf (a : CueArgs) : Option Payload :=
  match Start.ofCodes a.startKind a.startBeat with
  | some st =>
    let b : AreaBlock := { size := a.size, offset := a.offset }
    if b.named then some (.cue b.aligned (clampTo 0 1000 a.level) (clampTo 0 240 a.duration) st) else none
  | none => none

/-- R160: a CALL request. -/
def callRequest (tag : Nat) (a : CallArgs) (s : State) : State :=
  match framePhase s, callOf a with
  | some r, _ => refuse .call tag r s
  | none, none => refuse .call tag .badValue s
  | none, some f =>
    if s.mode = .standby then refuse .call tag .wrongMode s
    else if s.condition = .alarm then refuse .call tag .condition s
    else answerRequest .call tag (placeable f s) (offer f) s

/-- R142: a CUE request. -/
def cueRequest (tag : Nat) (a : CueArgs) (s : State) : State :=
  match framePhase s, cueOf a with
  | some r, _ => refuse .cue tag r s
  | none, none => refuse .cue tag .badValue s
  | none, some f => answerRequest .cue tag (placeable f s) (offer f) s

/-- R115: the checks of a curtain request. -/
def curtainRefusal (k : CurtainKind) (target : Nat) (s : State) : Option RefusalReason :=
  match framePhase s with
  | some r => some r
  | none =>
    if !curtainPermitted k (some s.cfg.role) then some .noAuthority
    else if target = 0 ∨ 31 < target then some .badValue
    else if k = .raiseHold ∧ !satisfied s.peers.table target then some .notPresent
    else placeable (.curtain k target) s

/-- R115: a curtain request. -/
def curtainRequest (rk : RequestKind) (tag : Nat) (k : CurtainKind) (target : Nat) (s : State) : State :=
  answerRequest rk tag (curtainRefusal k target s) (offer (.curtain k target)) s

/-! ## Command requests (R89 to R91) -/

/-- R89: the checks of a command request. `valid`: its zone index or mode lies in range. -/
def commandRefusal (keysw valid : Bool) (c : Command) (target : Nat) (s : State) : Option RefusalReason :=
  if s.phase = .unconfigured then some .unconfigured
  else if s.phase = .configRead then some .notReady
  else if !(keysw && rolePermitted c s.cfg.role) then some .noAuthority
  else if !valid || decide (31 < target) then some .badValue
  else if c = .silence ∧ target = s.cfg.station ∧ s.condition ≠ .alarm then some .condition
  else none

/-- R90: the kinds that act locally when they name the own station. -/
def isZoneCommand : Command → Bool
  | .ack _ => true
  | .reset => true
  | .isolate _ => true
  | .restore _ => true
  | .silence => false
  | .setMode _ => false

/-- R91: whether the COMMAND frame of a request can be sent. -/
def commandFrameRefusal (c : Command) (target : Nat) (s : State) : Option RefusalReason :=
  if s.phase ≠ .active then some .notReady else placeable (.command c target) s

/-- R89 to R91: a command request. -/
def commandRequest (rk : RequestKind) (tag : Nat) (keysw valid : Bool) (c : Command) (target : Nat) (s : State) : State :=
  match commandRefusal keysw valid c target s with
  | some r => refuse rk tag r s
  | none =>
    if isZoneCommand c ∧ target = s.cfg.station then place (.taken rk tag) (takeCommand c s.cfg.station target true s)
    else answerRequest rk tag (commandFrameRefusal c target s) (offer (.command c target)) s

/-- R88, R89: a SET_MODE request, its mode as it stands in its byte. -/
def setModeRequest (tag : Nat) (keysw : Bool) (target mode : Nat) (s : State) : State :=
  commandRequest .setMode tag keysw (Mode.ofCode mode).isSome (.setMode ((Mode.ofCode mode).getD .standby)) target s

/-! ## Local requests -/

/-- R138, R164: a SET_MASTER request. -/
def setMasterRequest (tag value : Nat) (s : State) : State :=
  match s.phase with
  | .unconfigured => refuse .setMaster tag .unconfigured s
  | .configRead => refuse .setMaster tag .notReady s
  | .listen => place (.taken .setMaster tag) (setMasterLevel value s)
  | .active => place (.taken .setMaster tag) (setMasterLevel value s)

/-- R23. -/
def readZone (tag n : Nat) (s : State) : State :=
  if n ≤ 7 then answerRead .readZone tag (.zone (s.zones.getD n .reset)) s else refuse .readZone tag .badValue s

/-- R51. -/
def readPeer (tag n : Nat) (s : State) : State :=
  if 1 ≤ n ∧ n ≤ 31 then answerRead .readPeer tag (.peer n (findPeer n s.peers.table)) s
  else refuse .readPeer tag .badValue s

/-- The cue table entry of a fade's key. -/
def findCue (key : Option Nat) (cues : List CueEntry) : Option CueEntry :=
  key.bind (fun k => cues.find? (fun e => e.key == k))

/-- R143: what READ_CHANNEL shows of a channel. -/
def channelResult (c : Channel) (s : State) : ChannelResult :=
  { channel := c, stagedCue := findCue c.stagedKey s.lights.cues, activeCue := findCue c.activeKey s.lights.cues
    master := s.lights.master, floor := s.condition == .alarm, entries := s.lights.cues.length }

/-- R143. -/
def readChannel (tag n : Nat) (s : State) : State :=
  if n ≤ 7 then answerRead .readChannel tag (.channel (channelResult (s.lights.channels.getD n .reset) s)) s
  else refuse .readChannel tag .badValue s

/-- R116: the curtain record with its inputs; absent outside the CURTAIN role and before configuration completes. -/
def curtainResult (driveMoving : Bool) (s : State) : Option CurtainResult :=
  if s.curtain.state.isSome then
    some { record := s.curtain, driveReady := s.pins.driveReady, driveMoving := driveMoving
           topLimit := s.pins.topLimit, bottomLimit := s.pins.bottomLimit, fault := s.faults.curtain }
  else none

/-- R116. -/
def readCurtainRequest (tag : Nat) (driveMoving : Bool) (s : State) : State :=
  answerRead .readCurtain tag (.curtain (curtainResult driveMoving s)) s

/-- R34: what READ_COUNTERS shows. -/
def countersResult (s : State) : CountersResult :=
  { checkCount := s.line.checkCount, formCount := s.line.formCount, bitCount := s.line.bitCount, score := s.line.score
    good := s.line.good, threshold := s.line.threshold, lineDegraded := s.faults.lineDegraded
    duplicate := s.faults.duplicate, waiting := s.line.tx.length }

/-- R34: the three counters return to 0. -/
def LineState.clearCounters (l : LineState) : LineState := { l with checkCount := 0, formCount := 0, bitCount := 0 }

/-- R34: the copy is taken first. Any clear flag other than 0 clears (12 section 12.3). -/
def readCounters (tag clearFlag : Nat) (s : State) : State :=
  answerRead .readCounters tag (.counters (countersResult s))
    (if clearFlag = 0 then s else s.setLine s.line.clearCounters)

/-- R161: what READ_QUEUE shows. -/
def queueResult (n : Nat) (s : State) : QueueResult :=
  { entry := s.calls.queue[n]?, count := s.calls.queue.length, cadence := s.calls.cadence
    chosen := s.calls.chosen.bind (fun k => s.calls.queue.findIdx? (fun e => e.key == k))
    wait := s.calls.wait, position := s.calls.position, pause := s.calls.pause, evacuation := s.calls.evacuation
    silence := s.calls.silence, evacPos := s.calls.evacPos
    sounders := s.calls.sounders.map (fun o => (o, sounderLevel s o)) }

/-- R161. -/
def readQueue (tag n : Nat) (s : State) : State :=
  if n ≤ 15 then answerRead .readQueue tag (.queue (queueResult n s)) s else refuse .readQueue tag .badValue s

/-- R77: the copy is taken first; a clear flag other than 0 clears the received-beat count. -/
def readBeat (tag clearFlag : Nat) (s : State) : State :=
  answerRead .readBeat tag (.beat s.beat) (if clearFlag = 0 then s else s.setBeat { s.beat with received := 0 })

end Sys2Proof.Machine
end

