-- ==== Sys2Proof/Machine/PanelRows.lean ====
section
/-! DEFINITION. The rows of opcode_table.json that the panel processor gives: the two events of a transfer, and the end of
a complete transfer with each request kind; one definition a row. -/

namespace Sys2Proof.Machine

/-! ## Transfers -/

/-- TRANSFER_START (R162, R163). -/
def execTransferStart (s : State) : Result := .next (beginTransfer s)

/-- TRANSFER_VOID (R162). -/
def execTransferVoid (s : State) : Result := .next (voidTransfer s)

/-- NONE (R162): no request is taken. -/
def execNone (s : State) : Result := .next (completeTransfer id s)

/-- UNKNOWN_REQUEST (R164, R180): a kind above 20. -/
def execUnknownRequest (kind tag : Nat) (s : State) : Result :=
  .next (completeTransfer (refuse (.unknown kind) tag .badValue) s)

/-! ## Requests that send a frame -/

/-- CALL (R160). -/
def execCall (tag : Nat) (args : CallArgs) (s : State) : Result :=
  .next (completeTransfer (callRequest tag args) s)

/-- CUE (R142). -/
def execCue (tag : Nat) (args : CueArgs) (s : State) : Result :=
  .next (completeTransfer (cueRequest tag args) s)

/-- CURTAIN_LOWER (R115). -/
def execCurtainLower (tag target : Nat) (s : State) : Result :=
  .next (completeTransfer (curtainRequest .curtainLower tag .lower target) s)

/-- CURTAIN_DROP (R115). -/
def execCurtainDrop (tag target : Nat) (s : State) : Result :=
  .next (completeTransfer (curtainRequest .curtainDrop tag .drop target) s)

/-- CURTAIN_STOP (R115). -/
def execCurtainStop (tag target : Nat) (s : State) : Result :=
  .next (completeTransfer (curtainRequest .curtainStop tag .stop target) s)

/-- CURTAIN_RAISE_HOLD (R115). -/
def execCurtainRaiseHold (tag target : Nat) (s : State) : Result :=
  .next (completeTransfer (curtainRequest .curtainRaiseHold tag .raiseHold target) s)

/-! ## Command requests -/

/-- ACK (R89 to R91). -/
def execAck (tag : Nat) (keysw : Bool) (target zone : Nat) (s : State) : Result :=
  .next (completeTransfer (commandRequest .ack tag keysw (decide (zone ≤ 8)) (.ack zone) target) s)

/-- RESET (R89 to R91). -/
def execReset (tag : Nat) (keysw : Bool) (target : Nat) (s : State) : Result :=
  .next (completeTransfer (commandRequest .reset tag keysw true .reset target) s)

/-- SILENCE (R89, R91). -/
def execSilence (tag : Nat) (keysw : Bool) (target : Nat) (s : State) : Result :=
  .next (completeTransfer (commandRequest .silence tag keysw true .silence target) s)

/-- ISOLATE (R89 to R91). -/
def execIsolate (tag : Nat) (keysw : Bool) (target zone : Nat) (s : State) : Result :=
  .next (completeTransfer (commandRequest .isolate tag keysw (decide (zone ≤ 7)) (.isolate zone) target) s)

/-- RESTORE (R89 to R91). -/
def execRestore (tag : Nat) (keysw : Bool) (target zone : Nat) (s : State) : Result :=
  .next (completeTransfer (commandRequest .restore tag keysw (decide (zone ≤ 7)) (.restore zone) target) s)

/-- SET_MODE (R89, R91). -/
def execSetMode (tag : Nat) (keysw : Bool) (target mode : Nat) (s : State) : Result :=
  .next (completeTransfer (setModeRequest tag keysw target mode) s)

/-! ## Local requests -/

/-- SET_MASTER (R138). -/
def execSetMaster (tag value : Nat) (s : State) : Result :=
  .next (completeTransfer (setMasterRequest tag value) s)

/-- READ_ZONE (R23). -/
def execReadZone (tag zone : Nat) (s : State) : Result :=
  .next (completeTransfer (readZone tag zone) s)

/-- READ_PEER (R51). -/
def execReadPeer (tag station : Nat) (s : State) : Result :=
  .next (completeTransfer (readPeer tag station) s)

/-- READ_CHANNEL (R143). -/
def execReadChannel (tag channel : Nat) (s : State) : Result :=
  .next (completeTransfer (readChannel tag channel) s)

/-- READ_CURTAIN (R116). -/
def execReadCurtain (tag : Nat) (driveMoving : Bool) (s : State) : Result :=
  .next (completeTransfer (readCurtainRequest tag driveMoving) s)

/-- READ_COUNTERS (R34). -/
def execReadCounters (tag clearFlag : Nat) (s : State) : Result :=
  .next (completeTransfer (readCounters tag clearFlag) s)

/-- READ_QUEUE (R161). -/
def execReadQueue (tag position : Nat) (s : State) : Result :=
  .next (completeTransfer (readQueue tag position) s)

/-- READ_BEAT (R77). -/
def execReadBeat (tag clearFlag : Nat) (s : State) : Result :=
  .next (completeTransfer (readBeat tag clearFlag) s)

end Sys2Proof.Machine
end

