-- ==== Sys2Proof/Machine/Dispatch.lean ====
section
/-! DEFINITION. `exec`: one arm for each row of opcode_table.json. -/

namespace Sys2Proof.Machine

def exec (i : Instr) (s : State) : Host.Outcome State Fault Refusal :=
  match i with
  | .deviceReset => Sys2Proof.Machine.execDeviceReset s
  | .resetRelease => Sys2Proof.Machine.execResetRelease s
  | .configReadDone read pins => Sys2Proof.Machine.execConfigReadDone read pins s
  | .sampleEvent inputs => Sys2Proof.Machine.execSampleEvent inputs s
  | .t1Expiry zone => Sys2Proof.Machine.execT1Expiry zone s
  | .t2Expiry zone => Sys2Proof.Machine.execT2Expiry zone s
  | .beatExpiry => Sys2Proof.Machine.execBeatExpiry s
  | .fadeStep => Sys2Proof.Machine.execFadeStep s
  | .fadeComplete channel => Sys2Proof.Machine.execFadeComplete channel s
  | .dimmerTransferEnd => Sys2Proof.Machine.execDimmerTransferEnd s
  | .peerLivenessChange station => Sys2Proof.Machine.execPeerLivenessChange station s
  | .alone => Sys2Proof.Machine.execAlone s
  | .statusInterval => Sys2Proof.Machine.execStatusInterval s
  | .listenEnd => Sys2Proof.Machine.execListenEnd s
  | .holdLapse => Sys2Proof.Machine.execHoldLapse s
  | .txStart => Sys2Proof.Machine.execTxStart s
  | .arbitrationLost => Sys2Proof.Machine.execArbitrationLost s
  | .bitError => Sys2Proof.Machine.execBitError s
  | .frameSent => Sys2Proof.Machine.execFrameSent s
  | .rxFrameError bytes endViolated => Sys2Proof.Machine.execRxFrameError bytes endViolated s
  | .zoneFrame sender zone area state => Sys2Proof.Machine.execZoneFrame sender zone area state s
  | .statusFrame sender role mode faults curtain zones => Sys2Proof.Machine.execStatusFrame sender role mode faults curtain zones s
  | .beatFrame sender number => Sys2Proof.Machine.execBeatFrame sender number s
  | .commandAck sender target zone => Sys2Proof.Machine.execCommandAck sender target zone s
  | .commandReset sender target => Sys2Proof.Machine.execCommandReset sender target s
  | .commandSilence sender target => Sys2Proof.Machine.execCommandSilence sender target s
  | .commandIsolate sender target zone => Sys2Proof.Machine.execCommandIsolate sender target zone s
  | .commandRestore sender target zone => Sys2Proof.Machine.execCommandRestore sender target zone s
  | .commandSetMode sender target mode => Sys2Proof.Machine.execCommandSetMode sender target mode s
  | .curtainLowerFrame sender target => Sys2Proof.Machine.execCurtainLowerFrame sender target s
  | .curtainDropFrame sender target => Sys2Proof.Machine.execCurtainDropFrame sender target s
  | .curtainStopFrame sender target => Sys2Proof.Machine.execCurtainStopFrame sender target s
  | .curtainRaiseHoldFrame sender target => Sys2Proof.Machine.execCurtainRaiseHoldFrame sender target s
  | .curtainStateFrame sender target state pos => Sys2Proof.Machine.execCurtainStateFrame sender target state pos s
  | .cueFrame sender block level duration start => Sys2Proof.Machine.execCueFrame sender block level duration start s
  | .callFrame sender block pattern cls repeats start linked => Sys2Proof.Machine.execCallFrame sender block pattern cls repeats start linked s
  | .cadencePhase => Sys2Proof.Machine.execCadencePhase s
  | .repetitionEnd => Sys2Proof.Machine.execRepetitionEnd s
  | .evacuationPhase => Sys2Proof.Machine.execEvacuationPhase s
  | .encoderCount up => Sys2Proof.Machine.execEncoderCount up s
  | .bottomLimit active => Sys2Proof.Machine.execBottomLimit active s
  | .topLimit active => Sys2Proof.Machine.execTopLimit active s
  | .driveReadyLost ready => Sys2Proof.Machine.execDriveReadyLost ready s
  | .startTimeout => Sys2Proof.Machine.execStartTimeout s
  | .stopTimeout => Sys2Proof.Machine.execStopTimeout s
  | .descentStalled => Sys2Proof.Machine.execDescentStalled s
  | .transferStart => Sys2Proof.Machine.execTransferStart s
  | .transferVoid => Sys2Proof.Machine.execTransferVoid s
  | .none => Sys2Proof.Machine.execNone s
  | .unknownRequest kind tag => Sys2Proof.Machine.execUnknownRequest kind tag s
  | .call tag args => Sys2Proof.Machine.execCall tag args s
  | .cue tag args => Sys2Proof.Machine.execCue tag args s
  | .curtainLower tag target => Sys2Proof.Machine.execCurtainLower tag target s
  | .curtainDrop tag target => Sys2Proof.Machine.execCurtainDrop tag target s
  | .curtainStop tag target => Sys2Proof.Machine.execCurtainStop tag target s
  | .curtainRaiseHold tag target => Sys2Proof.Machine.execCurtainRaiseHold tag target s
  | .ack tag keysw target zone => Sys2Proof.Machine.execAck tag keysw target zone s
  | .reset tag keysw target => Sys2Proof.Machine.execReset tag keysw target s
  | .silence tag keysw target => Sys2Proof.Machine.execSilence tag keysw target s
  | .isolate tag keysw target zone => Sys2Proof.Machine.execIsolate tag keysw target zone s
  | .restore tag keysw target zone => Sys2Proof.Machine.execRestore tag keysw target zone s
  | .setMode tag keysw target mode => Sys2Proof.Machine.execSetMode tag keysw target mode s
  | .setMaster tag value => Sys2Proof.Machine.execSetMaster tag value s
  | .readZone tag zone => Sys2Proof.Machine.execReadZone tag zone s
  | .readPeer tag station => Sys2Proof.Machine.execReadPeer tag station s
  | .readChannel tag channel => Sys2Proof.Machine.execReadChannel tag channel s
  | .readCurtain tag driveMoving => Sys2Proof.Machine.execReadCurtain tag driveMoving s
  | .readCounters tag clearFlag => Sys2Proof.Machine.execReadCounters tag clearFlag s
  | .readQueue tag position => Sys2Proof.Machine.execReadQueue tag position s
  | .readBeat tag clearFlag => Sys2Proof.Machine.execReadBeat tag clearFlag s

end Sys2Proof.Machine
end

