-- ==== Sys2Proof/Machine/Tick.lean ====
section
/-! DEFINITION. One millisecond of the clocks that run in milliseconds (R62, R145). -/

namespace Sys2Proof.Machine

/-- One millisecond: the beat timer, the cadence and the evacuation pattern advance, each up to its next due moment
(log 2), and the moment of a stall or of a RESET is past (log 36, log 43). -/
def idle (s : State) : State := clearMarks ((s.setBeat s.beat.tick).setCalls (callTick s))

end Sys2Proof.Machine
end

