-- ==== Sys2Proof/Machine/Requests.lean ====
section
/-! DEFINITION. The bytes that the panel processor clocks in, read as a command (R162, R178, R180, 12 section 12.3). The
rows of the panel in opcode_table.json carry what is read here (log 40). -/

namespace Sys2Proof.Machine

/-- The arguments of a CALL request, from byte 2 (12 section 12.3). -/
def readCallArgs (r : List Byte) : CallArgs :=
  { size := byteAt r 2, offset := byteAt r 3, pattern := byteAt r 4, cls := byteAt r 5, repeats := byteAt r 6
    startKind := byteAt r 7, startBeat := byteAt r 8, linkedFlag := byteAt r 9, level := wordAt r 10
    duration := byteAt r 12 }

/-- The arguments of a CUE request, from byte 2 (12 section 12.3). -/
def readCueArgs (r : List Byte) : CueArgs :=
  { size := byteAt r 2, offset := byteAt r 3, level := wordAt r 4, duration := byteAt r 6, startKind := byteAt r 7
    startBeat := byteAt r 8 }

/-- R180: a request record, by its kind (byte 0), with its tag (byte 1) and its arguments from byte 2; the bytes after the
last argument are disregarded. `keysw` and `driveMoving` are the levels of those pins when the request is taken. -/
def readRequest (keysw driveMoving : Bool) (r : List Byte) : Instr :=
  let tag := byteAt r 1
  let first := byteAt r 2
  let second := byteAt r 3
  match byteAt r 0 with
  | 0 => .none
  | 1 => .call tag (readCallArgs r)
  | 2 => .cue tag (readCueArgs r)
  | 3 => .curtainLower tag first
  | 4 => .curtainDrop tag first
  | 5 => .curtainStop tag first
  | 6 => .curtainRaiseHold tag first
  | 7 => .ack tag keysw first second
  | 8 => .reset tag keysw first
  | 9 => .silence tag keysw first
  | 10 => .isolate tag keysw first second
  | 11 => .restore tag keysw first second
  | 12 => .setMode tag keysw first second
  | 13 => .setMaster tag (wordAt r 2)
  | 14 => .readZone tag first
  | 15 => .readPeer tag first
  | 16 => .readChannel tag first
  | 17 => .readCurtain tag driveMoving
  | 18 => .readCounters tag first
  | 19 => .readQueue tag first
  | 20 => .readBeat tag first
  | kind => .unknownRequest kind tag

/-- R162: what PCS rising means after the bytes clocked in on PSDI: with fewer than 64 the transfer is void; otherwise the
first 64 are the request record and the rest is disregarded. -/
def transferCommand (keysw driveMoving : Bool) (clocked : List Byte) : Instr :=
  if clocked.length < recordLength then .transferVoid else readRequest keysw driveMoving (clocked.take recordLength)

end Sys2Proof.Machine
end

