-- ==== Sys2Proof/Safety.lean ====
section
/-! DEFINITION. The laws of the device, as properties of one state: what the manual says holds after every event. The
statements use these names. -/

namespace Sys2Proof.Machine

/-! ## Before configuration (R169, R173) -/

/-- R42, R52, R60, R63, R95, R128, R146, R173: in CONFIG_READ and UNCONFIGURED every block stands at its reset values. Of
the Light Fader the dimmer transfer of the reset is excepted, which may have ended. -/
abbrev FreshLaw (s : State) : Prop :=
  s.working = false →
    s.config = none ∧ s.mode = .standby ∧ s.listenCount = 0 ∧ s.line = .reset ∧ s.peers = .reset ∧ s.condition = .quiet
      ∧ s.faults = noFaults ∧ s.beat = .reset ∧ s.zones = List.replicate 8 ZoneRecord.reset ∧ s.curtain = .reset
      ∧ s.lights = { LightState.reset with sending := s.lights.sending, pendingTransfer := s.lights.pendingTransfer }
      ∧ s.calls = .reset

/-- The model's own two marks of a boundary under way stand only inside an event (log 21). -/
abbrev RestLaw (s : State) : Prop := s.boundaryUnderway = false ∧ s.placementHeld = false

/-! ## The house line (R36, R37, R42) -/

/-- R34 to R36: the counters, the score, the threshold and LINE_DEGRADED. -/
abbrev ScoreLaw (s : State) : Prop :=
  s.line.checkCount ≤ 255 ∧ s.line.formCount ≤ 255 ∧ s.line.bitCount ≤ 255 ∧ s.line.good ≤ 15
    ∧ s.line.score ≤ 15 ∧ 1 ≤ s.line.threshold
    ∧ (s.line.threshold ≤ s.line.score → s.faults.lineDegraded = true)
    ∧ (s.line.score = 0 → s.faults.lineDegraded = false)

/-- No two frames of a list are of one sort (R38). -/
def oneOfEachSort : List Payload → Bool
  | [] => true
  | f :: q => !waits f q && oneOfEachSort q

/-- The frames of a list stand in order of class (R37). -/
def inClassOrder : List Payload → Bool
  | [] => true
  | f :: q => q.all (fun g => decide (f.cls ≤ g.cls)) && inClassOrder q

/-- R37: at most 8 frames, one of each sort, in order of class. -/
abbrev TxLaw (s : State) : Prop :=
  s.line.tx.length ≤ 8 ∧ oneOfEachSort s.line.tx = true ∧ inClassOrder s.line.tx = true

/-- R24, R37, R42: outside ACTIVE nothing waits and nothing is being sent. R69: a BEAT is held aside with the send slot
empty. -/
abbrev SilentLaw (s : State) : Prop :=
  (s.phase ≠ .active → s.line.tx = [] ∧ s.line.slot = none ∧ s.line.heldBeat = none)
    ∧ (s.line.heldBeat.isSome = true → s.line.slot = none)

/-! ## Peers and the condition (R43, R45, R58) -/

/-- A zone list: indices rising, none above 7, no zone QUIET (R43). -/
def zoneListOk : List PeerZone → Bool
  | [] => true
  | z :: zs => decide (z.index ≤ 7) && decide (z.state ≠ .quiet) && zs.all (fun y => decide (z.index < y.index)) && zoneListOk zs

/-- Stations rising (R43). -/
def stationsRising : List PeerEntry → Bool
  | [] => true
  | e :: es => es.all (fun x => decide (e.station < x.station)) && stationsRising es

/-- R43: one entry. -/
def entryOk (own : Nat) (e : PeerEntry) : Bool :=
  decide (1 ≤ e.station) && decide (e.station ≤ 31) && decide (e.station ≠ own) && decide (e.heard ≤ 255) && zoneListOk e.zones

/-- R43, R53, R56: the peer table, the beats since any peer and the status schedule. -/
abbrev PeerLaw (s : State) : Prop :=
  stationsRising s.peers.table = true ∧ s.peers.table.all (entryOk s.cfg.station) = true
    ∧ s.peers.anyPeer ≤ 255 ∧ s.peers.schedule < s.cfg.statusInterval

/-- R45: liveness is what the beats since heard give. -/
abbrev LivenessLaw (s : State) : Prop :=
  s.peers.table.all (fun e => decide (e.liveness = livenessOf s.cfg.statusInterval e.heard)) = true

/-- R58: in LISTEN and ACTIVE the effective condition is the one its inputs give. -/
abbrev ConditionLaw (s : State) : Prop := s.working = true → s.condition = s.computedCondition

/-! ## The curtain (R93, R94, R105, R111) -/

/-- R94: the outputs of a curtain state, absent included. -/
abbrev OutputsLaw (s : State) : Prop :=
  s.curtain.out = ((s.curtain.state.map outputsOf).getD CurtainOutputs.released)

/-- R93, R105: a hold is present exactly in WARN_RAISE and RAISING, with a beat at least remaining and DOWN or STOPPED to
return to. -/
abbrev HoldLaw (s : State) : Prop :=
  s.curtain.hold.isSome = isRaise s.curtain.state
    ∧ s.curtain.hold.all (fun h => decide (1 ≤ h.remaining) && decide (h.remaining ≤ s.cfg.holdLapse)
        && (h.back == .down || h.back == .stopped)) = true

/-- R99, R108, R109: the handshake that each curtain state can have, its count below the start timeout. -/
def handshakeOk (timeout : Nat) (state : Option CurtainState) : Handshake → Bool
  | .idle => !isDriven state
  | .start n => isDriven state && decide (n < timeout)
  | .running => isDriven state
  | .stop n => state.isSome && !isDriven state && state != some .dropping && state != some .jammed && decide (n < timeout)

/-- R99, R108, R109: the drive handshake. -/
abbrev HandshakeLaw (s : State) : Prop :=
  handshakeOk s.cfg.startTimeout s.curtain.state s.curtain.handshake = true

/-- R111: no raise while the condition is PRE_ALARM or ALARM. -/
abbrev RaiseLaw (s : State) : Prop :=
  isRaise s.curtain.state = true → s.condition = .quiet ∨ s.condition = .fault

/-- R93, R117: a descent record is present exactly in LOWERING and DROPPING. -/
abbrev DescentLaw (s : State) : Prop := s.curtain.descent.isSome = isDescent s.curtain.state

/-- The mark of R124 (log 36) stands in JAMMED alone. -/
abbrev StallLaw (s : State) : Prop := s.curtain.stalledNow = true → s.curtain.state = some .jammed

/-! ## Lights (R126, R134, R136) -/

/-- R126, R134: a channel's level and code, what a disabled channel holds, and the level of a running fade between its
start and its target. -/
def channelOk (c : Channel) : Bool :=
  decide (c.level ≤ 1000) && decide (c.code ≤ 255)
    && (c.enabled || (decide (c.level = 1000) && decide (c.code = 255) && decide (c.staged = none) && decide (c.active = none)))
    && c.active.all (fun f => decide (f.start ≤ 1000) && decide (f.target ≤ 1000) && decide (f.elapsed < f.duration)
        && decide (min f.start f.target ≤ c.level) && decide (c.level ≤ max f.start f.target))
    && c.staged.all (fun f => decide (f.target ≤ 1000))

/-- R126, R134, R136: the channels, and every enabled one at 255 in ALARM. -/
abbrev LightLaw (s : State) : Prop :=
  s.lights.channels.all channelOk = true ∧ s.lights.master ≤ 1000
    ∧ (s.working = true → s.condition = .alarm → s.lights.channels.all (fun c => decide (c.code = 255)) = true)

/-- R136: in LISTEN and ACTIVE every enabled channel has the output code that its level, the master level and the condition
give. -/
abbrev CodeLaw (s : State) : Prop :=
  s.working = true →
    s.lights.channels.all (fun c =>
      !c.enabled || decide (c.code = outputCode (s.condition == .alarm) s.lights.master c.level)) = true

/-- R137: a transfer is pending only while one is in progress, and while none is pending the codes being sent are those
that stand. -/
abbrev TransferLaw (s : State) : Prop :=
  (s.lights.pendingTransfer = true → s.lights.sending.isSome = true)
    ∧ (s.lights.pendingTransfer = false → s.lights.sending.all (fun cs => decide (cs = s.lights.codes)) = true)

/-- R127, R133: every cue table entry is the cue of a fade, every fade's cue has its entry, and the staged fades of one cue
wait alike. -/
abbrev CueLaw (s : State) : Prop :=
  s.lights.cues.all (isAlive s.lights.channels) = true
    ∧ s.lights.channels.all (fun c =>
        c.stagedKey.all (fun k => s.lights.cues.any (fun e => e.key == k))
          && c.activeKey.all (fun k => s.lights.cues.any (fun e => e.key == k))) = true
    ∧ s.lights.cues.all (fun e => decide (e.key < s.lights.nextKey)) = true
    ∧ (s.lights.cues.map (fun e => e.key)).Nodup
    ∧ s.lights.channels.all (fun c => c.staged.all (fun f => s.lights.channels.all (fun d =>
        d.staged.all (fun g => decide (g.cue = f.cue → g.wait = f.wait))))) = true

/-! ## Calls (R144, R147, R157) -/

/-- No two entries equal in pattern, block and class (R147). -/
def distinctCalls : List CallEntry → Bool
  | [] => true
  | e :: es => !es.any (fun x => x.key == e.key) && distinctCalls es

/-- In order of class, highest first (R147). -/
def callOrder : List CallEntry → Bool
  | [] => true
  | e :: es => es.all (fun x => decide (x.key.cls.code ≤ e.key.cls.code)) && callOrder es

/-- R106, R147: the call queue. -/
abbrev CallQueueLaw (s : State) : Prop :=
  s.calls.queue.length ≤ 16 ∧ distinctCalls s.calls.queue = true ∧ callOrder s.calls.queue = true
    ∧ s.calls.queue.all (fun e => decide (1 ≤ e.repeats) && decide (e.repeats ≤ 16)) = true
    ∧ (s.calls.queue.filter (fun e => e.key.cls == .safety)).length ≤ 1
    ∧ s.calls.queue.all (fun e => e.key.cls != .safety || e.key == (warningCall s.cfg).key) = true

/-- R144, R156, R157: the flags follow the condition. -/
abbrev CallFlagLaw (s : State) : Prop :=
  s.working = true →
    s.calls.evacuation = (s.condition == .alarm) ∧ s.calls.pause = (s.condition == .preAlarm)
      ∧ (s.calls.silence = true → s.condition = .alarm)
      ∧ s.calls.evacPos.isSome = (s.calls.evacuation && !s.calls.silence)

/-- R144: what each cadence state has. -/
abbrev CadenceLaw (s : State) : Prop :=
  s.calls.chosen.isSome = (s.calls.cadence == .waitingStart || s.calls.cadence == .playing)
    ∧ s.calls.wait.isSome = (s.calls.cadence == .waitingStart)
    ∧ s.calls.position.isSome = (s.calls.cadence == .playing)
    ∧ s.calls.chosen.all (fun k => s.calls.queue.any (fun e => e.key == k)) = true
    ∧ s.calls.queue.all (fun e => e.playing == (s.calls.cadence == .playing && s.calls.chosen == some e.key)) = true

/-- R157: at a station without a curtain, an ALARM leaves the call queue empty (log 30). -/
abbrev AlarmQueueLaw (s : State) : Prop :=
  s.working = true → s.condition = .alarm → s.curtain.state = none → s.calls.queue = []

/-! ## The panel (R165 to R167) -/

/-- R166, R167: the report queue, ATTENTION and the lost-report count. -/
abbrev ReportLaw (s : State) : Prop :=
  s.panel.reports.length ≤ 32 ∧ s.panel.lost ≤ 255 ∧ s.panel.attention = !s.panel.reports.isEmpty
    ∧ (0 < s.panel.lost → s.panel.reports.length = 32)

/-! ## Zones and the beat (R1, R62) -/

/-- R1, R3: a timer is present exactly in PRE_ALARM and INVESTIGATING, the history holds at most three classes, the fault
score does not pass its threshold, and a disabled zone is QUIET with nothing recorded. The mark of a restarted T1 stands in
PRE_ALARM alone (log 43). -/
def zoneRecordOk (z : ZoneRecord) : Bool :=
  decide (z.timer.isSome = (z.state == .preAlarm || z.state == .investigating)) && decide (z.history.length ≤ 3)
    && decide (z.faultScore ≤ z.threshold) && (!z.restarted || z.state == .preAlarm)
    && (z.enabled || (z.state == .quiet && z.history.isEmpty && z.reading.isNone && z.faultScore == 0))

abbrev ZoneLaw (s : State) : Prop := s.zones.length = 8 ∧ s.zones.all zoneRecordOk = true

/-- R62, R63, R73: the timer runs in LISTEN and ACTIVE, its position is one of 0 to P - 1; the step index, the in-window
run, which is 0 while LOCKED, and the received-beat count. The model's mark of an overtaken expiry stands only at
position 0 (log 38). -/
abbrev BeatLaw (s : State) : Prop :=
  s.beat.running = s.working ∧ s.beat.position < s.beat.period ∧ (s.beat.overtaken = true → s.beat.position = 0) ∧ s.beat.stepIndex ≤ 9 ∧ s.beat.run ≤ 3
    ∧ (s.beat.lock = .locked → s.beat.run = 0) ∧ s.beat.received ≤ 255

/-! ## The configuration in force (R171) -/

/-- A block of 00_scope section 6: a listed size and an aligned offset. -/
def blockOk (b : AreaBlock) : Bool := b.named && decide (b.offset % b.size = 0)

/-- R171: a zone's configuration. -/
def zoneConfigOk (z : ZoneConfig) : Bool :=
  decide (z.area ≤ 15) && decide (z.t1 ≤ 1200) && decide (z.t2 ≤ 6000) && decide (2 ≤ z.threshold)
    && decide (z.threshold ≤ 15)

/-- R171: a sounder or a channel. -/
def outputOk (served : AreaBlock) (o : OutputConfig) : Bool :=
  decide (o.area ≤ 15) && (!o.enabled || served.contains o.area)

/-- R171: on-time and period of a pattern. -/
def timesOk (a b : Nat) : Bool :=
  decide (20 ≤ a) && decide (a ≤ 5000) && decide (a % 10 = 0) && decide (a < b) && decide (b ≤ 10000) && decide (b % 10 = 0)

/-- R171: a call pattern. -/
def patternOk (p : Pattern) : Bool :=
  timesOk p.onTime p.period && decide (1 ≤ p.cycles) && decide (p.cycles ≤ 32) && decide (p.gap ≤ 10000)
    && decide (p.gap % 10 = 0)

/-- R170, R171: every field of the record in force lies in its range. -/
def ConfigRecord.ok (c : ConfigRecord) : Bool :=
  decide (1 ≤ c.station) && decide (c.station ≤ 31) && blockOk c.served && blockOk c.concern
    && (c.startMode == .standby || c.startMode == .inShow)
    && decide (c.required.length ≤ 4) && c.required.all (fun n => decide (1 ≤ n) && decide (n ≤ 31))
    && decide (4 ≤ c.statusInterval) && decide (c.statusInterval ≤ 32)
    && decide (100 ≤ c.period) && decide (c.period ≤ 1000) && decide (c.period % 10 = 0) && decide (c.window ≤ 50)
    && decide (1 ≤ c.errorThreshold) && decide (c.errorThreshold ≤ 15)
    && decide (c.zones.length = 8) && c.zones.all zoneConfigOk
    && decide (c.sounders.length = 4) && c.sounders.all (outputOk c.served)
    && decide (c.channels.length = 8) && c.channels.all (outputOk c.served)
    && decide (c.patterns.length = 8) && c.patterns.all patternOk && timesOk c.evacOn c.evacPeriod
    && decide (c.warningPattern ≤ 7) && decide (1000 ≤ c.pTop) && decide (c.pTop ≤ 65000) && decide (c.tolerance ≤ 2000)
    && decide (50 ≤ c.descentLimit) && decide (c.descentLimit ≤ 600) && decide (5 ≤ c.stallLimit)
    && decide (c.stallLimit ≤ 50) && decide (5 ≤ c.startTimeout) && decide (c.startTimeout ≤ 50)
    && decide (1 ≤ c.holdLapse) && decide (c.holdLapse ≤ 8)

/-- R169, R172: the record is in force exactly in LISTEN and ACTIVE, and its fields lie in their ranges. -/
abbrev ConfigLaw (s : State) : Prop := s.config.isSome = s.working ∧ s.config.all ConfigRecord.ok = true

/-! ## All of them -/

/-- The laws of the device together. -/
abbrev DeviceLaws (s : State) : Prop :=
  ConfigLaw s ∧ FreshLaw s ∧ RestLaw s ∧ ScoreLaw s ∧ TxLaw s ∧ SilentLaw s ∧ PeerLaw s ∧ LivenessLaw s
    ∧ ConditionLaw s ∧ OutputsLaw s ∧ HoldLaw s ∧ HandshakeLaw s ∧ RaiseLaw s ∧ DescentLaw s ∧ StallLaw s ∧ LightLaw s ∧ CodeLaw s
    ∧ TransferLaw s ∧ CueLaw s ∧ CallQueueLaw s ∧ CallFlagLaw s ∧ CadenceLaw s ∧ AlarmQueueLaw s ∧ ReportLaw s ∧ ZoneLaw s ∧ BeatLaw s

/-! ## A frame from a peer -/

/-- Station x is a peer heard lately, and one more good frame from it changes no fault: it is PRESENT in the peer table,
ALONE is clear, no BEAT is held aside, the good-frame counter is below 15 and the score agrees with LINE_DEGRADED. -/
structure HearsPeer (x : Nat) (s : State) : Prop where
  working   : s.working = true
  station   : 1 ≤ x ∧ x ≤ 31
  peer      : x ≠ s.cfg.station
  held      : s.line.heldBeat = none
  good      : s.line.good < 15
  degraded  : if s.faults.lineDegraded then s.line.score ≠ 0 else s.line.score < s.line.threshold
  company   : s.faults.alone = false
  present   : isPresent x s = true

/-- What a good frame from such a peer does whatever it carries: one good frame counted, the peer's entry refreshed, the
beats since any peer at 0 (R35, R44, R56). -/
def heard (x : Nat) (s : State) : State :=
  { s with
    line := { s.line with good := s.line.good + 1 }
    peers := { s.peers with table := updateEntry x (fun e => { e with heard := 0, liveness := .present }) s.peers.table
                            anyPeer := 0 } }

/-- The peer's role, as its last STATUS gave it. -/
def roleOf (x : Nat) (s : State) : Option Role := (findPeer x s.peers.table).bind (fun e => e.role)

/-! ## A zone that changes -/

/-- Zone n has become z, and with it every other zone that coincidence escalates has gone to ALARM (R13, R14). -/
def ZonesAfter (s : State) (n : Nat) (z : ZoneRecord) (t : State) : Prop :=
  ∀ m, t.zones[m]? =
    if m = n then some z
    else (s.zones[m]?).map (fun y =>
      if inActivity z.state && participates s z && escalates s y then
        { y with state := .alarm, timer := none, restarted := false }
      else y)

/-- What no zone change touches: the mode, the configuration, the beat, the input levels, the clamp count. -/
def ZoneFrame (s t : State) : Prop :=
  t.mode = s.mode ∧ t.config = s.config ∧ t.beat = s.beat ∧ t.pins = s.pins ∧ t.clampCount = s.clampCount
    ∧ t.resetHeld = s.resetHeld ∧ t.boundaryUnderway = s.boundaryUnderway ∧ t.pending = s.pending

/-- R19, R84: after the first pass of a RESET another zone that takes part in coincidence is in activity: an own zone other
than zone n, which then reads ACTIVE, or a zone of a peer that is not LOST. -/
def CompanionAtReset (s : State) (n : Nat) : Prop :=
  (∃ m y, m ≠ n ∧ s.zones[m]? = some y ∧ y.enabled = true ∧ s.concerns y.area = true ∧ inActivity y.state = true
      ∧ y.reading = some .active)
  ∨ (∃ e ∈ s.peers.table, e.liveness ≠ .lost ∧ ∃ y ∈ e.zones, s.concerns y.area = true ∧ inActivity y.state = true)

/-- R19: what a RESET makes of zone n, whose record was z: nothing of a zone that is disabled or not in activity, its rest
where it does not read ACTIVE, ALARM for a call point, and for a detector ALARM or PRE_ALARM by the second pass, where a T1
that was running is marked as restarted (log 43). -/
def ResetOutcome (s : State) (n : Nat) (z : ZoneRecord) (t : State) : Prop :=
  (z.enabled = false ∨ inActivity z.state = false → t.zones[n]? = some z)
  ∧ (z.enabled = true → inActivity z.state = true →
      (z.reading ≠ some .active →
        t.zones[n]? = some { z with
          state := if z.faultScore = z.threshold then .fault else .quiet, timer := none, restarted := false })
      ∧ (z.reading = some .active → z.kind = .callPoint →
          t.zones[n]? = some { z with state := .alarm, timer := none, restarted := false })
      ∧ (z.reading = some .active → z.kind = .detector → z.t1 = 0 ∨ (s.concerns z.area = true ∧ CompanionAtReset s n) →
          t.zones[n]? = some { z with state := .alarm, timer := none, restarted := false })
      ∧ (z.reading = some .active → z.kind = .detector → z.t1 ≠ 0 → ¬(s.concerns z.area = true ∧ CompanionAtReset s n) →
          t.zones[n]? = some { z with state := .preAlarm, timer := some z.t1, restarted := z.state == .preAlarm }))

/-- The first report an event makes: with a place free in the report queue, it is the first to join (R166). -/
def FirstReport (s : State) (r : Report) (t : State) : Prop :=
  s.panel.reports.length < 32 → ∃ more, t.panel.reports = s.panel.reports ++ ⟨s.beat.number, r⟩ :: more

/-! ## A change of the curtain state -/

/-- R113: CURTAIN_FAULT after a change of the curtain state. -/
def curtainFaultAfter (prev : Option CurtainState) (new : CurtainState) (fault : Bool) : Bool :=
  match new with
  | .jammed => true
  | .down => false
  | .warnLower => if prev = some .jammed then false else fault
  | _ => fault

/-- R99, R113: the curtain has taken state `new` with record c: the report with the cause comes first, a STATE frame is
queued where there is room, CURTAIN_FAULT follows, and beside the transmit queue, the condition, the panel and what
follows from a warning call nothing else changes. -/
structure CurtainTook (before : State) (new : CurtainState) (c : CurtainRecord) (cause : CurtainCause) (t : State) : Prop where
  curtain : t.curtain = c
  report  : FirstReport before (.curtainChanged before.curtain.state new cause c.pos c.known) t
  faults  : t.faults = { before.faults with curtain := curtainFaultAfter before.curtain.state new before.faults.curtain }
  frame   : before.phase = .active → before.line.tx.length < 8 →
    Payload.curtainState (Config.stateFrameTarget before.cfg.station).val new c.pos ∈ t.line.tx
  line    : t.line = { before.line with tx := t.line.tx }
  others  : t.phase = before.phase ∧ t.mode = before.mode ∧ t.config = before.config ∧ t.listenCount = before.listenCount
    ∧ t.clampCount = before.clampCount ∧ t.resetHeld = before.resetHeld ∧ t.peers = before.peers ∧ t.beat = before.beat
    ∧ t.zones = before.zones ∧ t.pins = before.pins ∧ t.boundaryUnderway = before.boundaryUnderway
    ∧ t.pending = before.pending
  calls   : new ≠ .warnRaise → new ≠ .warnLower → t.calls = before.calls

/-- R97: with BOTTOM_LIMIT active a lowering or a drop takes DOWN instead. -/
def downTo (s : State) (new : CurtainState) : CurtainState := if s.pins.bottomLimit then .down else new

/-- R97: the curtain record a lowering or a drop starts from: with BOTTOM_LIMIT active p is 0 and known. -/
def fromFloor (s : State) : CurtainRecord :=
  if s.pins.bottomLimit then { s.curtain with pos := 0, known := true } else s.curtain

/-- R101, R112: what a powered lowering takes: the warning, or DROPPING with DRIVE_READY off, or DOWN at the floor. -/
def loweringTarget (s : State) : CurtainState := downTo s (if s.pins.driveReady then .warnLower else .dropping)

/-- R97, R98: a limit input has become active: the pin, and POSITION_MISMATCH where p was known and off by more than the
tolerance. -/
def limitReached (switch : LimitSwitch) (off : Nat) (pins : CurtainPins) (s : State) : State :=
  if s.curtain.known = true ∧ s.cfg.tolerance < off then
    report (.positionMismatch switch s.curtain.pos) { s with pins := pins }
  else { s with pins := pins }

/-! ## Places in a queue -/

/-- `new` is `old` with frame f in its place by class: behind every frame of a lower or equal class, ahead of every frame
of a higher class (R37). -/
def JoinedByClass (f : Payload) (old new : List Payload) : Prop :=
  ∃ before after, old = before ++ after ∧ new = before ++ f :: after ∧ (∀ g ∈ before, g.cls ≤ f.cls)
    ∧ (∀ g ∈ after, f.cls < g.cls)

/-- R40: frame f, out of the queue of s, has returned to it in u: discarded where a newer frame of its sort waits, otherwise
ahead of every frame of its class, with the youngest frame of the highest class evicted where nine would wait. -/
def Returned (f : Payload) (s u : State) : Prop :=
  ((∃ g ∈ s.line.tx, sameSort g f = true) → u = s)
  ∧ ((∀ g ∈ s.line.tx, sameSort g f = false) →
      ∃ before after, s.line.tx = before ++ after ∧ (∀ g ∈ before, g.cls < f.cls) ∧ (∀ g ∈ after, f.cls ≤ g.cls)
        ∧ (s.line.tx.length < 8 → u = { s with line := { s.line with tx := before ++ f :: after } })
        ∧ (8 ≤ s.line.tx.length → ∃ kept last, before ++ f :: after = kept ++ [last]
            ∧ u = report (.txDropped last .evicted) { s with line := { s.line with tx := kept } }))

/-- `new` is `old` with entry e in its place by class: behind every entry of its class and of higher class, ahead of every
entry of lower class (R147). -/
def JoinedByRank (e : CallEntry) (old new : List CallEntry) : Prop :=
  ∃ before after, old = before ++ after ∧ new = before ++ e :: after
    ∧ (∀ x ∈ before, e.key.cls.code ≤ x.key.cls.code) ∧ (∀ x ∈ after, x.key.cls.code < e.key.cls.code)

/-- The level and the code of a channel after a change of level (R136). -/
def Channel.atLevel (s : State) (c : Channel) : Channel :=
  { c with code := if c.enabled then outputCode (s.condition == .alarm) s.lights.master c.level else 255 }

/-- R134, R135: the channel after one step of its active fade. -/
def Channel.advanced (c : Channel) : Channel :=
  match c.active with
  | some f =>
    if f.elapsed + 1 < f.duration then
      { c with
        level := ((f.start : Int) + Int.tdiv (((f.target : Int) - f.start) * ((f.elapsed : Int) + 1)) f.duration).toNat
        active := some { f with elapsed := f.elapsed + 1 } }
    else { c with level := f.target, active := none }
  | none => c

/-- R76, R133: a start that waits is due at the boundary of beat `number`, on time or late. -/
def dueAt (number : BitVec 8) : Wait → Prop
  | .next => True
  | .beat n => (n - number).toNat = 0 ∨ 128 ≤ (n - number).toNat

/-- R132, R133: the channel after a boundary has taken its staged fade: a fade that is due starts from the present level, and
one without duration is at its target. -/
def TakesStaged (number : BitVec 8) (c after : Channel) : Prop :=
  (∀ f, c.staged = some f → dueAt number f.wait → after =
      (if f.duration = 0 then { c with level := f.target, staged := none, active := none }
       else { c with
         staged := none
         active := some { cue := f.cue, start := c.level, target := f.target, duration := f.duration, elapsed := 0 } }))
  ∧ ((∀ f, c.staged = some f → ¬dueAt number f.wait) → after = c)

/-- No fade of the channel is at its end (R134, R135). -/
def Channel.running (c : Channel) : Prop := ∀ f, c.active = some f → f.elapsed < f.duration

/-! ## A panel transfer -/

/-- The panel is free to take a request: no transfer was cut by a reset, and RESET is not held. -/
def PanelFree (s : State) : Prop := s.panel.link ≠ .void ∧ s.resetHeld = false

/-- The end of a complete transfer before its request is taken (R162): the record sent is gone. -/
def recordSent (s : State) : State :=
  match s.panel.link with
  | .sending source _ => removeSent source (setLink .idle s)
  | _ => removeSent s.panel.source s

end Sys2Proof.Machine
end

