-- ==== Sys2Proof/WellFormed.lean ====
section
/-! DEFINITION. Which terms of `Instr` are commands the outside can give: frames that the line can carry as good frames,
operands that fit their bytes, input lists of the right length. `exec` is total and needs none of this. -/

namespace Sys2Proof

/-- A byte's value. -/
def isByte (n : Nat) : Bool := decide (n ≤ 255)

/-- The value of a two-byte field. -/
def isWord (n : Nat) : Bool := decide (n ≤ 65535)

/-- A frame command is well formed when the line can carry it (R178) and it passes the checks on its fields (R32). -/
def Frame.wellFormed (f : Frame) : Bool := f.formOk && f.payload.fits

def CallArgs.wellFormed (a : CallArgs) : Bool :=
  isByte a.size && isByte a.offset && isByte a.pattern && isByte a.cls && isByte a.repeats && isByte a.startKind
    && isByte a.startBeat && isByte a.linkedFlag && isWord a.level && isByte a.duration

def CueArgs.wellFormed (a : CueArgs) : Bool :=
  isByte a.size && isByte a.offset && isWord a.level && isByte a.duration && isByte a.startKind && isByte a.startBeat

/-- Well-formed commands. -/
def Instr.wellFormed : Instr → Bool
  | .deviceReset => true
  | .resetRelease => true
  | .configReadDone .noMemory _ => true
  | .configReadDone (.bytes bs) _ => decide (bs.length = 192)
  | .sampleEvent i => decide (i.zonePins.length = 8)
  | .t1Expiry n => decide (n ≤ 7)
  | .t2Expiry n => decide (n ≤ 7)
  | .beatExpiry => true
  | .fadeStep => true
  | .fadeComplete n => decide (n ≤ 7)
  | .dimmerTransferEnd => true
  | .peerLivenessChange n => decide (1 ≤ n) && decide (n ≤ 31)
  | .alone => true
  | .statusInterval => true
  | .listenEnd => true
  | .holdLapse => true
  | .txStart => true
  | .arbitrationLost => true
  | .bitError => true
  | .frameSent => true
  | .rxFrameError bs _ => decide (bs.length ≤ 259)
  | .zoneFrame x i a z => Frame.wellFormed ⟨x, .zone i a z⟩
  | .statusFrame x r m f c zs => Frame.wellFormed ⟨x, .status r m f c zs⟩
  | .beatFrame x n => Frame.wellFormed ⟨x, .beat n⟩
  | .commandAck x t z => Frame.wellFormed ⟨x, .command (.ack z) t⟩
  | .commandReset x t => Frame.wellFormed ⟨x, .command .reset t⟩
  | .commandSilence x t => Frame.wellFormed ⟨x, .command .silence t⟩
  | .commandIsolate x t z => Frame.wellFormed ⟨x, .command (.isolate z) t⟩
  | .commandRestore x t z => Frame.wellFormed ⟨x, .command (.restore z) t⟩
  | .commandSetMode x t m => Frame.wellFormed ⟨x, .command (.setMode m) t⟩
  | .curtainLowerFrame x t => Frame.wellFormed ⟨x, .curtain .lower t⟩
  | .curtainDropFrame x t => Frame.wellFormed ⟨x, .curtain .drop t⟩
  | .curtainStopFrame x t => Frame.wellFormed ⟨x, .curtain .stop t⟩
  | .curtainRaiseHoldFrame x t => Frame.wellFormed ⟨x, .curtain .raiseHold t⟩
  | .curtainStateFrame x t st p => Frame.wellFormed ⟨x, .curtainState t st p⟩
  | .cueFrame x b l d st => Frame.wellFormed ⟨x, .cue b l d st⟩
  | .callFrame x b p c r st l => Frame.wellFormed ⟨x, .call b p c r st l⟩
  | .cadencePhase => true
  | .repetitionEnd => true
  | .evacuationPhase => true
  | .encoderCount _ => true
  | .bottomLimit _ => true
  | .topLimit _ => true
  | .driveReadyLost _ => true
  | .startTimeout => true
  | .stopTimeout => true
  | .descentStalled => true
  | .transferStart => true
  | .transferVoid => true
  | .none => true
  | .unknownRequest k tag => decide (21 ≤ k) && isByte k && isByte tag
  | .call tag a => isByte tag && a.wellFormed
  | .cue tag a => isByte tag && a.wellFormed
  | .curtainLower tag t => isByte tag && isByte t
  | .curtainDrop tag t => isByte tag && isByte t
  | .curtainStop tag t => isByte tag && isByte t
  | .curtainRaiseHold tag t => isByte tag && isByte t
  | .ack tag _ t z => isByte tag && isByte t && isByte z
  | .reset tag _ t => isByte tag && isByte t
  | .silence tag _ t => isByte tag && isByte t
  | .isolate tag _ t z => isByte tag && isByte t && isByte z
  | .restore tag _ t z => isByte tag && isByte t && isByte z
  | .setMode tag _ t m => isByte tag && isByte t && isByte m
  | .setMaster tag v => isByte tag && isWord v
  | .readZone tag n => isByte tag && isByte n
  | .readPeer tag n => isByte tag && isByte n
  | .readChannel tag n => isByte tag && isByte n
  | .readCurtain tag _ => isByte tag
  | .readCounters tag c => isByte tag && isByte c
  | .readQueue tag n => isByte tag && isByte n
  | .readBeat tag c => isByte tag && isByte c

end Sys2Proof
end

