-- ==== Sys2Proof/Certificates/Slice0/Obligations.lean ====
section
/-! DEFINITION. The statements for the provers. Each docstring names the rules it comes from. -/

open Sys2Proof Sys2Proof.Machine

/-! ## The step -/

/-- One step runs the command at the front of the queue on the state with the queue's rest. -/
def Obligations.FrontCommandIsRun : Prop :=
  ∀ (c : Instr) (rest : List Instr) (s : State), s.pending = c :: rest → step s = exec c { s with pending := rest }

/-- R62, R145, and the model's choice of log 2: with no command waiting a millisecond passes at the beat timer, the
cadence and the evacuation pattern, each of which holds at the last millisecond before its due moment; nothing else
changes but three marks of the model: of an overtaken expiry, which a millisecond of the timer clears (log 38), of a stall
and of a restarted T1, which any millisecond clears (log 36, log 43). -/
def Obligations.EmptyQueuePassesOneMillisecond : Prop :=
  ∀ s : State, s.pending = [] →
    ∃ t, step s = .next t
      ∧ t.beat = { s.beat with
          position := if s.beat.running = true ∧ s.beat.position + 1 < s.beat.period then s.beat.position + 1
            else s.beat.position
          overtaken := if s.beat.running = true ∧ s.beat.position + 1 < s.beat.period then false else s.beat.overtaken }
      ∧ (∀ k x, s.calls.chosen = some k → s.calls.position = some x →
          t.calls.position = some { x with
            time := if x.time + 1 < phaseEnd (s.pattern k.pattern) x then x.time + 1 else x.time })
      ∧ (∀ x, s.calls.evacPos = some x →
          t.calls.evacPos = some { x with
            time := if x.time + 1 < (if x.on then s.cfg.evacOn else s.cfg.evacPeriod - s.cfg.evacOn) then x.time + 1
              else x.time })
      ∧ (s.calls.position = none → t.calls.position = none) ∧ (s.calls.evacPos = none → t.calls.evacPos = none)
      ∧ t = { s with
          beat := t.beat, calls := { s.calls with position := t.calls.position, evacPos := t.calls.evacPos }
          curtain := { s.curtain with stalledNow := false }
          zones := s.zones.map (fun z => { z with restarted := false }) }

/-! ## Start-up -/

/-- R2, R42, R52, R60, R63, R95, R128, R146, R168, R169: what a device reset leaves, block by block. That no BEAT is
held aside is deduced (log 13), and the marks of an overtaken expiry, of a stall and of a restarted T1 are the model's own
(log 38, log 36, log 43). -/
def Obligations.ResetValuesOfEveryBlock : Prop :=
  State.reset.phase = .configRead ∧ State.reset.mode = .standby ∧ State.reset.config = none
    ∧ State.reset.listenCount = 0 ∧ State.reset.clampCount = 0
    ∧ State.reset.line = { tx := [], slot := none, heldBeat := none, checkCount := 0, formCount := 0, bitCount := 0
                           score := 0, good := 0, threshold := 5 }
    ∧ State.reset.peers = { table := [], anyPeer := 0, schedule := 0 }
    ∧ State.reset.condition = .quiet ∧ (∀ f, State.reset.faults.get f = false)
    ∧ State.reset.beat = { number := 0, position := 0, running := false, stepIndex := 0, sync := .track, lock := .seeking
                           run := 0, phaseError := 0, received := 0, period := 250, window := 20, overtaken := false }
    ∧ (∀ n, n ≤ 7 → State.reset.zones[n]? = some
        { enabled := false, kind := .detector, area := 0, t1 := 300, t2 := 1800, threshold := 5, state := .quiet
          history := [], reading := none, faultScore := 0, timer := none, restarted := false })
    ∧ State.reset.zones.length = 8
    ∧ State.reset.curtain = { state := none, pos := 0, known := false, movement := 0, hold := none, handshake := .idle
                              descent := none, out := { brake := false, raise := false, lower := false }, stalledNow := false }
    ∧ (∀ n, n ≤ 7 → State.reset.lights.channels[n]? = some
        { area := 0, enabled := false, level := 1000, staged := none, active := none, code := 255 })
    ∧ State.reset.lights.channels.length = 8 ∧ State.reset.lights.cues = [] ∧ State.reset.lights.master = 1000
    ∧ State.reset.lights.nextSerial = 0 ∧ State.reset.lights.sending = some [255, 255, 255, 255, 255, 255, 255, 255]
    ∧ State.reset.lights.pendingTransfer = false
    ∧ State.reset.calls.queue = [] ∧ State.reset.calls.cadence = .idle ∧ State.reset.calls.chosen = none
    ∧ State.reset.calls.position = none ∧ State.reset.calls.pause = false ∧ State.reset.calls.evacuation = false
    ∧ State.reset.calls.silence = false ∧ State.reset.calls.evacPos = none
    ∧ State.reset.calls.sounders = List.replicate 4 { area := 0, enabled := false }
    ∧ State.reset.panel.holder = none ∧ State.reset.panel.reports = [] ∧ State.reset.panel.lost = 0
    ∧ State.reset.panel.attention = false

/-- R168, R169: DEVICE_RESET puts every block at its reset values in any state, keeps RESET held and makes an open
transfer void; RESET_RELEASE ends the hold and nothing else. The input levels and the waiting commands are outside.
That the hold is a flag of the state, and what is reset of the model's own fields and of a BEAT held aside, is the model's
choice (log 1, log 13, log 21). -/
def Obligations.DeviceResetAndRelease : Prop :=
  ∀ s : State,
    (∃ t, exec .deviceReset s = .next t
      ∧ t.resetHeld = true ∧ t.pins = s.pins ∧ t.pending = s.pending
      ∧ t.panel.link = (if s.panel.link = .idle then .idle else .void)
      ∧ { t with resetHeld := State.reset.resetHeld, pins := State.reset.pins, pending := State.reset.pending
                 panel := { t.panel with link := State.reset.panel.link } } = State.reset)
    ∧ exec .resetRelease s = .next { s with resetHeld := false }

/-- R170, R173: the four findings that end a configuration read in UNCONFIGURED, in their order, each with its reason.
Beside the phase and the report nothing changes. -/
def Obligations.UnusableReadLeavesUnconfigured : Prop :=
  ∀ (s : State) (r : List Byte) (pins : CurtainPins), s.phase = .configRead → s.resetHeld = false →
    let unconfigured (reason : ConfigFailure) : State :=
      report (.phaseUnconfigured reason) { s with phase := .unconfigured }
    exec (.configReadDone .noMemory pins) s = .next (unconfigured .noMemory)
    ∧ (¬checkMatches r →
        exec (.configReadDone (.bytes r) pins) s = .next (unconfigured .check))
    ∧ (checkMatches r → byteAt r 0 = 0 ∨ 31 < byteAt r 0 →
        exec (.configReadDone (.bytes r) pins) s = .next (unconfigured .station))
    ∧ (checkMatches r → 1 ≤ byteAt r 0 → byteAt r 0 ≤ 31 → 4 < byteAt r 1 →
        exec (.configReadDone (.bytes r) pins) s = .next (unconfigured .role))

/-- R172: a usable record at a station without a curtain: each block takes its fields, CONFIG_CLAMPED comes where a field
was corrected, then PHASE_CHANGED, and the beat timer starts. -/
def Obligations.UsableReadEntersListen : Prop :=
  ∀ (s : State) (r : List Byte) (role : Role) (pins : CurtainPins),
    s.phase = .configRead → s.resetHeld = false →
    checkMatches r → 1 ≤ byteAt r 0 → byteAt r 0 ≤ 31 →
    Role.ofCode (byteAt r 1) = some role → role ≠ .curtain →
    let c := (readConfig r role).value
    let fixes := (readConfig r role).corrected
    exec (.configReadDone (.bytes r) pins) s = .next
      { s with
        phase := .listen, mode := c.startMode, config := some c, listenCount := 0, clampCount := min 255 fixes.length
        line := { s.line with threshold := c.errorThreshold }
        beat := { s.beat with number := 0, position := 0, running := true, sync := c.syncMode, period := c.period
                              window := c.window }
        zones := List.zipWith (fun (z : ZoneConfig) (x : ZoneRecord) =>
          { x with enabled := z.enabled, kind := z.kind, area := z.area, t1 := z.t1, t2 := z.t2, threshold := z.threshold })
          c.zones s.zones
        pins := pins
        lights := { s.lights with channels := List.zipWith (fun (o : OutputConfig) (x : Channel) =>
          { x with area := o.area, enabled := o.enabled }) c.channels s.lights.channels }
        calls := { s.calls with sounders := c.sounders }
        panel :=
          ((match fixes with
            | [] => s.panel
            | first :: _ => s.panel.push ⟨s.beat.number, .configClamped (min 255 fixes.length) first⟩).push
              ⟨s.beat.number, .phaseListen c.station c.role c.startMode⟩) }

/-- R95, R172: at a curtain station the completion of configuration also gives the curtain its first state, from
BOTTOM_LIMIT. -/
def Obligations.CurtainStationTakesFirstState : Prop :=
  ∀ (s : State) (r : List Byte) (pins : CurtainPins),
    s.phase = .configRead → s.resetHeld = false → s.curtain = CurtainRecord.reset →
    checkMatches r → 1 ≤ byteAt r 0 → byteAt r 0 ≤ 31 →
    Role.ofCode (byteAt r 1) = some .curtain →
    ∃ t, exec (.configReadDone (.bytes r) pins) s = .next t
      ∧ t.phase = .listen ∧ t.config = some (readConfig r .curtain).value ∧ t.line.tx = s.line.tx
      ∧ (pins.bottomLimit = true →
          t.curtain = { CurtainRecord.reset with
            state := some .down, known := true, out := { brake := true, raise := false, lower := false } })
      ∧ (pins.bottomLimit = false →
          t.curtain = { CurtainRecord.reset with
            state := some .dropping
            descent := some { t := 0, kind := .movement, readings := [0], stallCount := 0, lateReported := false } })

/-- R171, R178: the record in force, field by field, from the bytes at the places of 12 section 12.4: a value in its range
stands as it is, and any other is corrected as the table of R171 says. Every field then lies in its range. -/
def Obligations.CorrectedRecordLiesInItsRanges : Prop :=
  ∀ (r : List Byte) (role : Role), 1 ≤ byteAt r 0 → byteAt r 0 ≤ 31 →
    let c := (readConfig r role).value
    let near (lo hi x : Nat) : Nat := max lo (min hi x)
    let tens (x : Nat) : Nat := x / 10 * 10
    let block (k : Nat) : AreaBlock :=
      let size := if byteAt r k ∈ [1, 2, 4, 8, 16] then byteAt r k else 16
      { size := size, offset := min 15 (byteAt r (k + 1)) / size * size }
    let onTime (k : Nat) : Nat := tens (near 20 5000 (wordAt r k))
    let periodOf (k : Nat) : Nat :=
      if tens (min 10000 (wordAt r (k + 2))) ≤ onTime k then onTime k + 10 else tens (min 10000 (wordAt r (k + 2)))
    let output (k : Nat) : OutputConfig :=
      { area := min 15 (byteAt r k)
        enabled := decide (byteAt r (k + 1) ≠ 0) && c.served.contains (min 15 (byteAt r k)) }
    c.ok = true
    ∧ c.station = byteAt r 0 ∧ c.role = role ∧ c.served = block 2 ∧ c.concern = block 4
    ∧ (∀ n, n ≤ 15 → c.publicAreas.getLsbD n = (wordAt r 6).testBit n)
    ∧ c.startMode = (if byteAt r 8 = 1 then .inShow else .standby) ∧ c.solo = decide (byteAt r 9 ≠ 0)
    ∧ c.required = ((List.range (min 4 (byteAt r 10))).map (fun i => byteAt r (11 + i))).filter (fun n =>
        decide (1 ≤ n ∧ n ≤ 31))
    ∧ c.statusInterval = near 4 32 (byteAt r 15) ∧ c.period = tens (near 100 1000 (wordAt r 16))
    ∧ c.window = min 50 (byteAt r 18)
    ∧ c.syncMode = (if byteAt r 19 = 1 then .once else if byteAt r 19 = 2 then .monitor else .track)
    ∧ c.errorThreshold = near 1 15 (byteAt r 20)
    ∧ (∀ n, n ≤ 7 → c.zones[n]? = some
        { enabled := decide (byteAt r (21 + 8 * n) ≠ 0)
          kind := if byteAt r (22 + 8 * n) = 1 then .callPoint else .detector
          area := min 15 (byteAt r (23 + 8 * n)), t1 := min 1200 (wordAt r (24 + 8 * n))
          t2 := min 6000 (wordAt r (26 + 8 * n)), threshold := near 2 15 (byteAt r (28 + 8 * n)) })
    ∧ (∀ n, n ≤ 3 → c.sounders[n]? = some (output (85 + 2 * n)))
    ∧ (∀ n, n ≤ 7 → c.channels[n]? = some (output (93 + 2 * n)))
    ∧ (∀ n, n ≤ 7 → c.patterns[n]? = some
        { onTime := onTime (109 + 7 * n), period := periodOf (109 + 7 * n)
          cycles := near 1 32 (byteAt r (113 + 7 * n)), gap := tens (min 10000 (wordAt r (114 + 7 * n))) })
    ∧ c.evacOn = onTime 165 ∧ c.evacPeriod = periodOf 165 ∧ c.warningPattern = min 7 (byteAt r 169)
    ∧ c.pTop = near 1000 65000 (wordAt r 170) ∧ c.tolerance = min 2000 (wordAt r 172)
    ∧ c.descentLimit = near 50 600 (wordAt r 174) ∧ c.stallLimit = near 5 50 (byteAt r 176)
    ∧ c.startTimeout = near 5 50 (byteAt r 177) ∧ c.holdLapse = near 1 8 (byteAt r 178)

/-- R53, R57, R174, R176: LISTEN ends by its count. With no required station missing, the phase becomes ACTIVE with
its report, a STATUS is the first frame queued, and the Peer Monitor's counts start at 0. The listen count left
standing is the model's choice (log 22). -/
def Obligations.ListenEndsIntoActive : Prop :=
  ∀ s : State, s.phase = .listen → s.line.tx = [] → s.faults.requiredLost = false →
    (∀ n ∈ s.cfg.required, n = s.cfg.station ∨ satisfied s.peers.table n = true) →
    exec .listenEnd s = .next
      { s with
        phase := .active, listenCount := 2 * s.cfg.statusInterval
        line := { s.line with tx := [ownStatus s] }
        peers := { s.peers with anyPeer := 0, schedule := 0 }
        panel := s.panel.push ⟨s.beat.number, .phaseActive .listenEnd⟩ }

/-! ## Zones -/

/-- R4, R5: the reading is the class that two of the last three samples hold; with three different classes, and with fewer
than three samples, it keeps what it was. -/
def Obligations.ReadingIsTheMajorityOfThree : Prop :=
  ∀ (a b c d : Reading) (previous : Option Reading),
    pushHistory d [a, b, c] = [b, c, d] ∧ pushHistory c [a, b] = [a, b, c]
    ∧ formReading [] previous = previous ∧ formReading [a] previous = previous ∧ formReading [a, b] previous = previous
    ∧ formReading [a, a, c] previous = some a ∧ formReading [a, b, a] previous = some a
    ∧ formReading [b, a, a] previous = some a
    ∧ (a ≠ b → a ≠ c → b ≠ c → formReading [a, b, c] previous = previous)

/-- R4, R6, R8: a sample event at a station whose enabled zones are QUIET and read CLEAR takes the samples, lowers the
fault scores and changes nothing else but the model's marks of a stall and of a restarted T1, whose moment is past (log 36,
log 43). The drive is at rest and no descent is under way. -/
def Obligations.ClearSampleOnlyTakesReadings : Prop :=
  ∀ (s : State) (inputs : SampleInputs),
    s.working = true → s.curtain.handshake = .idle → s.curtain.descent = none →
    (∀ n, inputs.zonePins.getD n (false, false) = (false, false)) →
    (∀ z ∈ s.zones, z.enabled = true → z.state = .quiet ∧ z.timer = none ∧ z.faultScore ≤ z.threshold ∧ 0 < z.threshold
      ∧ (formReading (pushHistory .clear z.history) z.reading = none
          ∨ formReading (pushHistory .clear z.history) z.reading = some .clear)) →
    exec (.sampleEvent inputs) s = .next { s with
      curtain := { s.curtain with stalledNow := false }
      zones := s.zones.map (fun z =>
        if z.enabled then
          { z with
            history := pushHistory .clear z.history
            reading := formReading (pushHistory .clear z.history) z.reading
            restarted := false
            faultScore :=
              if formReading (pushHistory .clear z.history) z.reading = some .clear then z.faultScore - 1 else z.faultScore }
        else z) }

/-- R5 to R13: what one sample event makes of the only enabled zone of a station, in each of its states. A zone that is
latched in PRE_ALARM, INVESTIGATING or ALARM keeps its state whatever it reads, its fault score follows the reading up to
its threshold, and a running timer is counted; an ACTIVE reading in FAULT is ignored. A sample clears the model's mark of a
restarted T1 (log 43). -/
def Obligations.SampleMovesTheZoneByItsReading : Prop :=
  ∀ (s : State) (inputs : SampleInputs) (n : Nat) (z : ZoneRecord),
    s.working = true → s.zones[n]? = some z → z.enabled = true →
    (∀ m y, m ≠ n → s.zones[m]? = some y → y.enabled = false) →
    ∃ t, exec (.sampleEvent inputs) s = .next t ∧ ZoneFrame s t ∧ (∀ m, m ≠ n → t.zones[m]? = s.zones[m]?)
      ∧ (let h := pushHistory (classOf (inputs.zonePins.getD n (false, false))) z.history
         let r := formReading h z.reading
         let z1 : ZoneRecord := { z with history := h, reading := r, restarted := false }
         let score : Nat :=
           if r = some .clear then z.faultScore - 1
           else if r = some .openCircuit ∨ r = some .short then min z.threshold (z.faultScore + 1)
           else z.faultScore
         (r = none → z.timer = none → t.zones[n]? = some z1)
         ∧ (z.state = .quiet → z.timer = none → r = some .active → z.kind = .callPoint ∨ z.t1 = 0 →
              t.zones[n]? = some { z1 with state := .alarm })
         ∧ (z.state = .quiet → z.timer = none → r = some .active → z.kind = .detector → z.t1 ≠ 0 →
              t.zones[n]? = some
                (if s.concerns z.area ∧ (∃ y ∈ s.peerZones, s.concerns y.area = true ∧ inActivity y.state = true) then
                  { z1 with state := .alarm }
                else { z1 with state := .preAlarm, timer := some z.t1 }))
         ∧ (z.state = .quiet → z.timer = none → r = some .openCircuit ∨ r = some .short →
              t.zones[n]? = some { z1 with
                faultScore := min z.threshold (z.faultScore + 1)
                state := if z.threshold ≤ z.faultScore + 1 then .fault else .quiet })
         ∧ (z.state = .quiet → z.timer = none → r = some .clear → z.faultScore ≤ z.threshold → 0 < z.threshold →
              t.zones[n]? = some { z1 with faultScore := z.faultScore - 1 })
         ∧ (z.state = .fault → z.timer = none → r = some .clear →
              t.zones[n]? = some { z1 with
                faultScore := z.faultScore - 1
                state := if z.faultScore ≤ 1 then .quiet else .fault })
         ∧ (z.state = .fault → z.timer = none → r = some .active → t.zones[n]? = some z1)
         ∧ (z.state = .fault → z.timer = none → r = some .openCircuit ∨ r = some .short → 0 < z.threshold →
              t.zones[n]? = some { z1 with faultScore := min z.threshold (z.faultScore + 1) })
         ∧ (z.state = .isolated → z.timer = none → t.zones[n]? = some z1)
         ∧ (z.state = .alarm → z.timer = none → t.zones[n]? = some { z1 with faultScore := score })
         ∧ (∀ k, z.state = .preAlarm ∨ z.state = .investigating → z.timer = some k →
              t.zones[n]? = some (if 2 ≤ k then { z1 with faultScore := score, timer := some (k - 1) }
                else { z1 with faultScore := score, state := .alarm, timer := none })))

/-- R10, R11, R13, R14, R16, R20: an expiry takes its zone to ALARM, reported with its cause, and coincidence takes with it
every other participating own zone in PRE_ALARM or INVESTIGATING. The rows take the expiry as due (log 3), but for a T1
that a RESET has restarted at the same moment: it does not expire. The mark that says so is the model's own, and the row
that finds it clears it (log 43). -/
def Obligations.TimerExpiryTakesAlarm : Prop :=
  ∀ (s : State) (n : Nat) (z : ZoneRecord),
    s.working = true → s.zones[n]? = some z → z.enabled = true → z.timer.isSome = true →
    (z.state = .preAlarm → z.restarted = false → ∃ t, exec (.t1Expiry n) s = .next t
      ∧ ZonesAfter s n { z with state := .alarm, timer := none, restarted := false } t ∧ ZoneFrame s t
      ∧ FirstReport s (.zoneChanged n z.area .preAlarm .alarm .t1Expiry) t)
    ∧ (z.state = .preAlarm → z.restarted = true →
        exec (.t1Expiry n) s = .next { s with zones := s.zones.set n { z with restarted := false } })
    ∧ (z.state = .investigating → z.restarted = false → ∃ t, exec (.t2Expiry n) s = .next t
      ∧ ZonesAfter s n { z with state := .alarm, timer := none, restarted := false } t ∧ ZoneFrame s t
      ∧ FirstReport s (.zoneChanged n z.area .investigating .alarm .t2Expiry) t)

/-- R18, R21, R22, R79 to R83, R87: ACK, ISOLATE and RESTORE frames from a permitted peer. An ACK takes the PRE_ALARM zone
it names to INVESTIGATING with T2, or to ALARM when T2 is 0, with coincidence; ISOLATE is refused in ALARM; a zone that a
command does not concern is left unchanged. -/
def Obligations.ZoneCommandFrames : Prop :=
  (∀ (s : State) (x target n : Nat) (z : ZoneRecord) (r : Role),
      HearsPeer x s → roleOf x s = some r → r = .fire ∨ r = .foh ∨ r = .stage →
      target = 0 ∨ target = s.cfg.station → target ≤ 31 → n ≤ 7 → s.zones[n]? = some z → z.enabled = true →
      ∃ t, exec (.commandAck x target n) s = .next t ∧ ZoneFrame s t
        ∧ FirstReport s (.commandTaken (.ack n) x target false) t
        ∧ (z.state = .preAlarm → ZonesAfter s n
            (if z.t2 = 0 then { z with state := .alarm, timer := none, restarted := false }
             else { z with state := .investigating, timer := some z.t2, restarted := false }) t)
        ∧ (z.state ≠ .preAlarm → t.zones = s.zones))
  ∧ (∀ (s : State) (x target n : Nat) (z : ZoneRecord) (r : Role),
      HearsPeer x s → roleOf x s = some r → r = .fire ∨ r = .foh ∨ r = .stage →
      target = 0 ∨ target = s.cfg.station → target ≤ 31 → n ≤ 7 → s.zones[n]? = some z → z.enabled = true →
      (∃ t, exec (.commandIsolate x target n) s = .next t ∧ ZoneFrame s t
        ∧ FirstReport s (.commandTaken (.isolate n) x target false) t
        ∧ (z.state = .quiet ∨ z.state = .preAlarm ∨ z.state = .investigating ∨ z.state = .fault →
            t.zones = s.zones.set n { z with state := .isolated, timer := none, restarted := false })
        ∧ (z.state = .alarm → t = report (.commandRefused (.isolate n))
            (report (.commandTaken (.isolate n) x target false) (heard x s)))
        ∧ (z.state = .isolated → t = report (.commandTaken (.isolate n) x target false) (heard x s)))
      ∧ (∃ t, exec (.commandRestore x target n) s = .next t ∧ ZoneFrame s t
        ∧ FirstReport s (.commandTaken (.restore n) x target false) t
        ∧ (z.state = .isolated → t.zones = s.zones.set n
            { z with state := .quiet, timer := none, history := [], reading := none, faultScore := 0, restarted := false })
        ∧ (z.state ≠ .isolated → t = report (.commandTaken (.restore n) x target false) (heard x s))))

/-- R19, R50, R84, R158: a RESET frame from a permitted peer removes the LOST entries, gives every own zone its outcome of
the two passes, and clears the silence flag. A T1 that it restarts bears the model's mark (log 43). -/
def Obligations.ResetFrameGivesEachZoneItsOutcome : Prop :=
  ∀ (s : State) (x target : Nat) (r : Role),
    HearsPeer x s → PeerLaw s → roleOf x s = some r → r = .fire ∨ r = .foh ∨ r = .stage →
    target = 0 ∨ target = s.cfg.station → target ≤ 31 →
    ∃ t, exec (.commandReset x target) s = .next t ∧ ZoneFrame s t
      ∧ FirstReport s (.commandTaken .reset x target false) t
      ∧ t.calls.silence = false
      ∧ t.peers.table = (heard x s).peers.table.filter (fun e => e.liveness != .lost)
      ∧ (∀ (n : Nat) (z : ZoneRecord), s.zones[n]? = some z → ResetOutcome s n z t)

/-! ## The house line -/

/-- R28, R32, R34 to R36: bytes that fail the check, or the form, are counted and handed on to no block; a BIT error
empties the send slot, counts, and reports the frame as dropped. An error enters LINE_DEGRADED, with its report first,
when it takes the score to the threshold. The sixteenth good frame, here a CURTAIN STATE of a peer, lowers the score
instead of being counted, and clears LINE_DEGRADED where the score falls to 0. The order of the two reports of a BIT
error, and the judgement of LINE_DEGRADED before the frame is handed on, are the model's choices (log 14, log 34). -/
def Obligations.LineErrorsAreCounted : Prop :=
  (∀ (s : State) (bytes : List Byte) (endViolated : Bool),
      s.working = true → s.line.heldBeat = none →
      judgeBytes bytes endViolated = .checkError ∨ judgeBytes bytes endViolated = .formError →
      let counted : LineState := { s.line with
        checkCount := if judgeBytes bytes endViolated = .checkError then min 255 (s.line.checkCount + 1) else s.line.checkCount
        formCount := if judgeBytes bytes endViolated = .formError then min 255 (s.line.formCount + 1) else s.line.formCount
        score := min 15 (s.line.score + 1)
        good := 0 }
      (s.faults.lineDegraded = true ∨ min 15 (s.line.score + 1) < s.line.threshold →
          exec (.rxFrameError bytes endViolated) s = .next { s with line := counted })
      ∧ (s.faults.lineDegraded = false → s.line.threshold ≤ min 15 (s.line.score + 1) →
          ∃ t, exec (.rxFrameError bytes endViolated) s = .next t
            ∧ t.faults.lineDegraded = true ∧ t.line = { counted with tx := t.line.tx } ∧ t.peers = s.peers ∧ t.zones = s.zones
            ∧ t.beat = s.beat ∧ t.mode = s.mode
            ∧ FirstReport s (.lineDegradedChanged true (min 15 (s.line.score + 1))) t))
  ∧ (∀ (s : State) (f : Payload), s.line.slot = some f →
      let counted : LineState := { s.line with
        slot := none, bitCount := min 255 (s.line.bitCount + 1), score := min 15 (s.line.score + 1), good := 0 }
      (s.faults.lineDegraded = true ∨ min 15 (s.line.score + 1) < s.line.threshold →
          exec .bitError s = .next (report (.txDropped f .bitError) { s with line := counted }))
      ∧ (s.faults.lineDegraded = false → s.line.threshold ≤ min 15 (s.line.score + 1) →
          ∃ t, exec .bitError s = .next t ∧ t.faults.lineDegraded = true ∧ t.line = { counted with tx := t.line.tx }
            ∧ FirstReport s (.lineDegradedChanged true (min 15 (s.line.score + 1))) t))
  ∧ (∀ (s : State) (x target pos : Nat) (st : CurtainState),
      HearsPeer x { s with line := { s.line with good := 0 } } → ConditionLaw s → s.line.good = 15 → target ≤ 31 →
      let taken : State := { heard x s with
        line := { s.line with good := 0, score := s.line.score - 1 }
        peers := { (heard x s).peers with
          table := s.peers.table.map (fun e =>
            if e.station = x then { e with heard := 0, liveness := .present, curtain := some (st, pos) } else e) } }
      (s.faults.lineDegraded = false ∨ 2 ≤ s.line.score →
          exec (.curtainStateFrame x target st pos) s = .next taken)
      ∧ (s.faults.lineDegraded = true → s.line.score = 1 →
          ∃ t, exec (.curtainStateFrame x target st pos) s = .next t
            ∧ t = { taken with
                faults := { s.faults with lineDegraded := false }
                condition := t.condition, lights := t.lights, panel := t.panel }
            ∧ ConditionLaw t ∧ FirstReport s (.lineDegradedChanged false 0) t))

/-- R24, R27, R37, R38, R40, R69: with the line idle the head frame of the queue moves into the empty send slot. Of a
frame that lost arbitration: a BEAT is held aside; another frame returns ahead of every frame of its class unless a
newer frame of its sort has joined, and of nine frames the youngest of the highest class is evicted. A BEAT held
aside is discarded when the frame that won is taken as a good BEAT, and returns in the same way when it is a ZONE frame or
is discarded. That nothing begins while a BEAT is held aside, and that the BEAT returns before the frame is handed on,
are the model's choices (log 13, log 34). -/
def Obligations.SendSlotTakesAndReturnsFrames : Prop :=
  (∀ s : State,
      (∀ f rest, s.phase = .active → s.line.slot = none → s.line.heldBeat = none → s.line.tx = f :: rest →
          exec .txStart s = .next { s with line := { s.line with slot := some f, tx := rest } })
      ∧ (s.phase ≠ .active ∨ s.line.slot.isSome = true ∨ s.line.heldBeat.isSome = true ∨ s.line.tx = [] →
          exec .txStart s = .next s))
  ∧ (∀ (s : State) (f : Payload), s.line.slot = some f →
      (∀ n, f = .beat n → exec .arbitrationLost s = .next { s with line := { s.line with slot := none, heldBeat := some n } })
      ∧ (f.isBeat = false → (∃ g ∈ s.line.tx, sameSort g f = true) →
          exec .arbitrationLost s = .next { s with line := { s.line with slot := none } })
      ∧ (f.isBeat = false → (∀ g ∈ s.line.tx, sameSort g f = false) → inClassOrder s.line.tx = true →
          ∃ before after, s.line.tx = before ++ after ∧ (∀ g ∈ before, g.cls < f.cls) ∧ (∀ g ∈ after, f.cls ≤ g.cls)
            ∧ (s.line.tx.length < 8 →
                exec .arbitrationLost s = .next { s with line := { s.line with slot := none, tx := before ++ f :: after } })
            ∧ (8 ≤ s.line.tx.length →
                ∃ kept last, before ++ f :: after = kept ++ [last]
                  ∧ exec .arbitrationLost s = .next
                      (report (.txDropped last .evicted) { s with line := { s.line with slot := none, tx := kept } }))))
  ∧ (∀ (s : State) (n : BitVec 8), s.line.heldBeat = some n → inClassOrder s.line.tx = true →
      let released : State := { s with line := { s.line with heldBeat := none } }
      (∀ (x : Nat) (m : BitVec 8), HearsPeer x released → exec (.beatFrame x m) s = exec (.beatFrame x m) released)
      ∧ ∃ u, Returned (.beat n) released u
          ∧ (∀ (x i a : Nat) (z : ZoneState), HearsPeer x released → i ≤ 7 → a ≤ 15 →
              exec (.zoneFrame x i a z) s = exec (.zoneFrame x i a z) u)
          ∧ (∀ (bytes : List Byte) (endViolated : Bool), s.working = true →
              judgeBytes bytes endViolated = .checkError ∨ judgeBytes bytes endViolated = .formError →
              s.faults.lineDegraded = true ∨ min 15 (s.line.score + 1) < s.line.threshold →
              exec (.rxFrameError bytes endViolated) s = exec (.rxFrameError bytes endViolated) u))

/-- R29, R31, R67, R79 to R82, R86, R88, R100 to R102, R129, R148, R177: a frame that was sent is taken by its own sender. The
Peer Monitor takes nothing of it, and the Beat Unit measures a BEAT without following it. A CUE, a CALL and a COMMAND
that the own role may give take their effect; a COMMAND that it may not give, and a SILENCE outside ALARM, is ignored with
its reason. A LOWER or DROP that names the own station moves the curtain there, a STOP
or RAISE_HOLD is ignored for the role CURTAIN of its sender, and a request for another station is not acted on. -/
def Obligations.SentFrameIsTakenBySender : Prop :=
  ∀ (s : State) (f : Payload), s.line.slot = some f →
    let sent : State := { s with line := { s.line with slot := none } }
    let own : Nat := s.cfg.station
    let open_ : Prop := s.curtain.state = some .up ∨ s.curtain.state = some .stopped ∨ s.curtain.state = some .jammed
      ∨ s.curtain.state = some .warnRaise ∨ s.curtain.state = some .raising
    ((∃ i a z, f = .zone i a z) ∨ (∃ r m x c zs, f = .status r m x c zs) ∨ (∃ x c p, f = .curtainState x c p) →
        exec .frameSent s = .next sent)
    ∧ (∀ n, f = .beat n → exec .frameSent s = .next (measureBeat n sent))
    ∧ (∀ b l d st, f = .cue b l d st → exec .frameSent s = .next (takeCueFrame own b l d st sent))
    ∧ (∀ b p c r st q, f = .call b p c r st q →
        exec .frameSent s = .next (takeCallFrame (frameCall own b p c r st q) sent))
    ∧ (∀ k x, f = .curtain k x → s.cfg.role ≠ .curtain ∨ x ≠ own → exec .frameSent s = .next sent)
    ∧ (∀ k, f = .curtain k own → s.cfg.role = .curtain → s.working = true → ConditionLaw s →
        (k = .lower → open_ →
          ∃ t, exec .frameSent s = .next t
            ∧ CurtainTook sent (loweringTarget s) (curtainRecordAfter (loweringTarget s) (fromFloor s)) .lower t)
        ∧ (k = .lower → ¬open_ → exec .frameSent s = .next sent)
        ∧ (∀ st, k = .drop → s.curtain.state = some st → st ≠ .down → st ≠ .dropping →
          ∃ t, exec .frameSent s = .next t
            ∧ CurtainTook sent (downTo s .dropping) (curtainRecordAfter (downTo s .dropping) (fromFloor s)) .drop t)
        ∧ (k = .drop → s.curtain.state = some .down ∨ s.curtain.state = some .dropping →
          exec .frameSent s = .next sent)
        ∧ (k = .stop ∨ k = .raiseHold →
          exec .frameSent s = .next (report (.curtainIgnored k own (some .curtain) .senderRole) sent)))
    ∧ (∀ c x, f = .command c x → x ≠ 0 → x ≠ own → exec .frameSent s = .next sent)
    ∧ (∀ c x, f = .command c x → x = 0 ∨ x = own →
        s.cfg.role = .stage ∨ s.cfg.role = .foh ∨ (s.cfg.role = .fire ∧ ∀ m, c ≠ .setMode m) →
        (c = .silence → s.condition = .alarm) →
        exec .frameSent s = .next (takeCommand c own x false sent))
    ∧ (∀ c x, f = .command c x → x = 0 ∨ x = own →
        s.cfg.role = .area ∨ s.cfg.role = .curtain ∨ (s.cfg.role = .fire ∧ ∃ m, c = .setMode m) →
        exec .frameSent s = .next (report (.commandIgnored c own x (some s.cfg.role) .senderRole) sent))
    ∧ (∀ x, f = .command .silence x → x = 0 ∨ x = own →
        s.cfg.role = .stage ∨ s.cfg.role = .foh ∨ s.cfg.role = .fire → s.condition ≠ .alarm →
        exec .frameSent s = .next (report (.commandIgnored .silence own x (some s.cfg.role) .notAlarm) sent))
    ∧ (∀ m x, f = .command (.setMode m) x → x = 0 ∨ x = own → s.cfg.role = .stage ∨ s.cfg.role = .foh →
        s.mode = .standby ∨ m = .standby → m ≠ s.mode →
        exec .frameSent s = .next (report (.modeChanged s.mode m own)
          (report (.commandTaken (.setMode m) own x false) { sent with mode := m })))

/-- R17, R33, R35: a ZONE frame bearing the own number leaves the zone records unchanged, received or sent, in every
state. The first that the controller did not send sets DUPLICATE_STATION; once it is set, such a frame is counted as
good, its sixteenth lowers the score, and the Peer Monitor takes nothing of it. -/
def Obligations.OwnNumberFrameSetsDuplicate : Prop :=
  (∀ (s : State) (i a : Nat) (z : ZoneState),
    (∃ t, exec (.zoneFrame s.cfg.station i a z) s = .next t ∧ t.zones = s.zones)
    ∧ (s.line.slot = some (.zone i a z) → ∃ t, exec .frameSent s = .next t ∧ t.zones = s.zones))
  ∧ ∀ (s : State) (i a : Nat) (z : ZoneState),
    s.working = true → 1 ≤ s.cfg.station → s.cfg.station ≤ 31 → i ≤ 7 → a ≤ 15 → s.line.heldBeat = none →
    (s.faults.duplicate = true → (s.faults.lineDegraded = false → s.line.score < s.line.threshold) →
        (s.line.good < 15 → s.faults.lineDegraded = true → s.line.score ≠ 0) →
        (15 ≤ s.line.good → s.faults.lineDegraded = true → 1 < s.line.score) →
        exec (.zoneFrame s.cfg.station i a z) s = .next { s with
          line := { s.line with
            good := if s.line.good < 15 then s.line.good + 1 else 0
            score := if s.line.good < 15 then s.line.score else s.line.score - 1 } })
    ∧ (s.faults.duplicate = false → s.line.good < 15 → (s.faults.lineDegraded = false → s.line.score < s.line.threshold) →
        (s.faults.lineDegraded = true → s.line.score ≠ 0) →
        ∃ t, exec (.zoneFrame s.cfg.station i a z) s = .next t
          ∧ t.faults.duplicate = true ∧ t.line = { s.line with good := s.line.good + 1, tx := t.line.tx }
          ∧ t.peers = s.peers ∧ t.zones = s.zones ∧ t.beat = s.beat ∧ t.mode = s.mode
          ∧ FirstReport s .duplicateStation t)

/-- R25, R30, R32, R178, R179: the bytes of a frame decode to that frame. Every frame that the line can carry, written
in its bytes with its check and read by a receiver, is a good frame with the same sender and payload, whatever stands
in the bytes the manual disregards. One pad byte for all of those is the model's (log 20). -/
def Obligations.FrameBytesDecodeToTheFrame : Prop :=
  ∀ (pad : Byte) (f : Frame), f.wellFormed = true → judgeBytes (f.bytes pad) false = .good f

/-- R32, R179: the check finds every change of one byte, the length byte excepted, wherever it stands. -/
def Obligations.OneDamagedByteIsACheckError : Prop :=
  ∀ (pad : Byte) (f : Frame) (k : Nat) (b : Byte) (endViolated : Bool),
    f.wellFormed = true → k < (f.bytes pad).length → k ≠ 1 → (f.bytes pad)[k]? ≠ some b →
    judgeBytes ((f.bytes pad).set k b) endViolated = .checkError

/-! ## Peers -/

/-- R44, R47, R49, R13, R14, R58: a ZONE frame from a peer heard lately. Its zone list takes or loses the carried zone;
when a zone of the concern block enters activity by it, the own zones that coincidence can escalate go to ALARM, and when
one newly enters ALARM the silence flag is cleared. -/
def Obligations.ZoneFrameUpdatesThePeer : Prop :=
  ∀ (s : State) (x i a : Nat) (z : ZoneState),
    HearsPeer x s → PeerLaw s → i ≤ 7 → a ≤ 15 →
    ∃ e e' t, exec (.zoneFrame x i a z) s = .next t ∧ ZoneFrame s t
      ∧ findPeer x s.peers.table = some e ∧ findPeer x t.peers.table = some e'
      ∧ e' = { e with heard := 0, liveness := .present, zones := e'.zones }
      ∧ (∀ y : PeerZone, y ∈ e'.zones ↔ (z ≠ .quiet ∧ y = ⟨i, a, z⟩) ∨ (y ∈ e.zones ∧ y.index ≠ i))
      ∧ (∀ n, n ≠ x → findPeer n t.peers.table = findPeer n s.peers.table)
      ∧ t.peers.anyPeer = 0
      ∧ t.zones = s.zones.map (fun y =>
          if s.concerns a && inActivity z && !e.zones.contains ⟨i, a, z⟩ && escalates s y then
            { y with state := .alarm, timer := none, restarted := false }
          else y)
      ∧ (s.concerns a = true → z = .alarm → ⟨i, a, z⟩ ∉ e.zones → t.calls.silence = false)

/-- R13 to R15, R44, R46, R49, R58: a STATUS from a peer heard lately replaces the role, mode, fault set, curtain and zone
list of its entry with what it carries. When by it a zone of the concern block enters activity, the own zones that
coincidence can escalate go to ALARM in one pass; when one newly enters ALARM the silence flag is cleared. One that brings no
zone the entry did not hold escalates no own zone. -/
def Obligations.StatusFrameReplacesTheEntry : Prop :=
  ∀ (s : State) (x : Nat) (r : Role) (m : Mode) (f : FaultSet) (c : Option (CurtainState × Nat)) (zs : List PeerZone),
    HearsPeer x s → PeerLaw s → Frame.wellFormed ⟨x, .status r m f c zs⟩ = true →
    ∃ e e' t, exec (.statusFrame x r m f c zs) s = .next t ∧ ZoneFrame s t
      ∧ findPeer x s.peers.table = some e ∧ findPeer x t.peers.table = some e'
      ∧ e' = { station := x, role := some r, mode := some m, faults := some f, curtain := c, zones := e'.zones, heard := 0
               liveness := .present }
      ∧ zoneListOk e'.zones = true ∧ (∀ y, y ∈ e'.zones ↔ y ∈ zs)
      ∧ (∀ n, n ≠ x → findPeer n t.peers.table = findPeer n s.peers.table)
      ∧ t.peers.anyPeer = 0
      ∧ ((∀ y ∈ zs, y ∈ e.zones) → t.zones = s.zones)
      ∧ t.zones = s.zones.map (fun y =>
          if zs.any (fun p => s.concerns p.area && inActivity p.state && !e.zones.contains p) && escalates s y then
            { y with state := .alarm, timer := none, restarted := false }
          else y)
      ∧ (∀ p ∈ zs, s.concerns p.area = true → p.state = .alarm → p ∉ e.zones → t.calls.silence = false)

/-- R44, R48, R56, R57: the first frame heard from a station, here a CURTAIN STATE, creates its entry, which takes the
curtain state and position, ends ALONE, and is reported first. From a peer heard lately the same frame changes the
curtain alone. A LATE or LOST peer returns by it: PRESENT again, reported first, ALONE ended, and REQUIRED_PEER_LOST with
it where every required station is then satisfied. That PEER_CHANGED comes before the faults are judged is the model's
choice (log 12). -/
def Obligations.StateFrameGivesThePeersCurtain : Prop :=
  ∀ (s : State) (x target : Nat) (st : CurtainState) (pos : Nat), target ≤ 31 →
    (HearsPeer x s →
      exec (.curtainStateFrame x target st pos) s = .next { heard x s with
        peers := { (heard x s).peers with
          table := s.peers.table.map (fun e =>
            if e.station = x then { e with heard := 0, liveness := .present, curtain := some (st, pos) } else e) } })
    ∧ (s.working = true → 1 ≤ x → x ≤ 31 → x ≠ s.cfg.station → s.line.heldBeat = none → s.line.good < 15 →
        (s.faults.lineDegraded = false → s.line.score < s.line.threshold) →
        (s.faults.lineDegraded = true → s.line.score ≠ 0) → findPeer x s.peers.table = none →
        ∃ t, exec (.curtainStateFrame x target st pos) s = .next t
          ∧ findPeer x t.peers.table = some { station := x, role := none, mode := none, faults := none
                                              curtain := some (st, pos), zones := [], heard := 0, liveness := .present }
          ∧ (∀ n, n ≠ x → findPeer n t.peers.table = findPeer n s.peers.table)
          ∧ t.peers.anyPeer = 0 ∧ t.faults.alone = false ∧ t.zones = s.zones ∧ t.beat = s.beat ∧ t.mode = s.mode
          ∧ FirstReport s (.peerChanged x none (some .present)) t)
    ∧ (∀ e, s.working = true → 1 ≤ x → x ≤ 31 → x ≠ s.cfg.station → s.line.heldBeat = none → s.line.good < 15 →
        (s.faults.lineDegraded = false → s.line.score < s.line.threshold) →
        (s.faults.lineDegraded = true → s.line.score ≠ 0) →
        findPeer x s.peers.table = some e → e.liveness ≠ .present →
        ∃ t, exec (.curtainStateFrame x target st pos) s = .next t
          ∧ findPeer x t.peers.table = some { e with heard := 0, liveness := .present, curtain := some (st, pos) }
          ∧ (∀ n, n ≠ x → findPeer n t.peers.table = findPeer n s.peers.table)
          ∧ t.peers.anyPeer = 0 ∧ t.faults.alone = false ∧ t.zones = s.zones ∧ t.beat = s.beat ∧ t.mode = s.mode
          ∧ FirstReport s (.peerChanged x (some e.liveness) (some .present)) t
          ∧ (s.phase = .active → x ∈ s.cfg.required →
              (∀ n ∈ s.cfg.required, n = s.cfg.station ∨ n = x ∨ satisfied s.peers.table n = true) →
              t.faults.requiredLost = false))

/-- R45, R57: the beats since heard of a station reach its next threshold: PRESENT becomes LATE, LATE becomes LOST,
with the report first. For a required station that becomes LOST in ACTIVE, REQUIRED_PEER_LOST is set. That the row
finds the count at its next threshold, and does nothing for a LOST entry, is the model's choice (log 3, log 4). -/
def Obligations.LivenessFallsAtItsThreshold : Prop :=
  ∀ (s : State) (n : Nat) (e : PeerEntry),
    s.working = true → findPeer n s.peers.table = some e → 1 ≤ s.cfg.statusInterval →
    let count := if e.liveness = .present then 2 * s.cfg.statusInterval else 4 * s.cfg.statusInterval
    let new := if e.liveness = .present then Liveness.late else Liveness.lost
    (e.liveness = .lost → exec (.peerLivenessChange n) s = .next s)
    ∧ (e.liveness ≠ .lost →
        ∃ t, exec (.peerLivenessChange n) s = .next t
          ∧ findPeer n t.peers.table = some { e with heard := count, liveness := new }
          ∧ (∀ m, m ≠ n → findPeer m t.peers.table = findPeer m s.peers.table)
          ∧ FirstReport s (.peerChanged n (some e.liveness) (some new)) t
          ∧ t.zones = s.zones ∧ t.beat = s.beat ∧ t.mode = s.mode
          ∧ (n = s.cfg.station ∨ n ∉ s.cfg.required →
              t = report (.peerChanged n (some e.liveness) (some new)) { s with peers := t.peers })
          ∧ (n ≠ s.cfg.station → n ∈ s.cfg.required → s.phase = .active → e.liveness = .late →
              t.faults.requiredLost = true))

/-- R55, R56, R112: ALONE enters the fault set, with its report first, and lowers a curtain that stands open, is being
raised, or is jammed: by its warning with DRIVE_READY active, otherwise by letting it fall; with BOTTOM_LIMIT active
it takes DOWN. A curtain in another state stays. The row takes the count as having reached 4·Is (log 3). -/
def Obligations.AloneLowersTheCurtain : Prop :=
  ∀ s : State, s.phase = .active → s.cfg.solo = false → s.faults.alone = false → ConditionLaw s →
    ∃ t, exec .alone s = .next t
      ∧ t.faults.alone = true ∧ t.peers = { s.peers with anyPeer := 4 * s.cfg.statusInterval }
      ∧ FirstReport s (.stationFaultChanged .alone true) t
      ∧ t.zones = s.zones ∧ t.beat = s.beat ∧ t.mode = s.mode ∧ t.pins = s.pins
      ∧ (s.curtain.state = some .up ∨ s.curtain.state = some .stopped ∨ s.curtain.state = some .jammed
            ∨ s.curtain.state = some .warnRaise ∨ s.curtain.state = some .raising →
          t.curtain.state = some (if s.pins.bottomLimit then .down else if s.pins.driveReady then .warnLower else .dropping))
      ∧ (s.curtain.state = none ∨ s.curtain.state = some .down ∨ s.curtain.state = some .warnLower
            ∨ s.curtain.state = some .lowering ∨ s.curtain.state = some .dropping → t.curtain = s.curtain)

/-- R38, R39, R53, R54: the status schedule reaches Is. A STATUS with the role, the mode, the fault set, the curtain
of a CURTAIN station and every own zone that is not QUIET replaces a waiting STATUS in its place, or joins behind all;
in a full queue it is dropped and reported. The row takes the schedule as having reached Is (log 3). -/
def Obligations.StatusIntervalOffersStatus : Prop :=
  ∀ (s : State) (zs : List PeerZone), s.phase = .active →
    zs = (List.range s.zones.length).filterMap (fun n =>
      match s.zones[n]? with
      | some z => if z.state = .quiet then none else some ⟨n, z.area, z.state⟩
      | none => none) →
    let status : Payload := .status s.cfg.role s.mode s.faults
      (if s.cfg.role = .curtain then s.curtain.state.map (fun st => (st, s.curtain.pos)) else none) zs
    let scheduled : State := { s with peers := { s.peers with schedule := 0 } }
    ((∃ g ∈ s.line.tx, g.cls = 6) →
        exec .statusInterval s = .next { scheduled with
          line := { s.line with tx := s.line.tx.map (fun g => if g.cls = 6 then status else g) } })
    ∧ ((∀ g ∈ s.line.tx, g.cls ≠ 6) → s.line.tx.length < 8 →
        exec .statusInterval s = .next { scheduled with line := { s.line with tx := s.line.tx ++ [status] } })
    ∧ ((∀ g ∈ s.line.tx, g.cls ≠ 6) → 8 ≤ s.line.tx.length →
        exec .statusInterval s = .next (report (.txDropped status .full) scheduled))

/-! ## The beat -/

/-- R45, R64, R65, R74, R76, R105, R133, R152, R153, R174: at an expiry the beat number advances, the timer and the step index restart, every peer
entry ages, in LISTEN the boundary is counted, and in ACTIVE outside MONITOR a BEAT with the new number is queued.
Zones, mode and the lock are left alone. In a state that keeps the laws of the device, every fade makes its step and
then the staged fades that are due start (R133); a resting call queue takes up its first entry that may play, which
starts or waits, and a wait that is due ends (R152, R153); and a raise hold loses a beat, and lapses at its last (R105).
The row takes the timer as having reached P (log 3), with no followed BEAT just ahead of it (log 38). -/
def Obligations.BeatExpiryAdvancesTheBeat : Prop :=
  ∀ s : State, s.working = true → s.beat.running = true → s.beat.overtaken = false →
    let number : BitVec 8 := s.beat.number + 1
    ∃ t, exec .beatExpiry s = .next t
      ∧ t.beat = { s.beat with number := number, position := 0, stepIndex := 0 }
      ∧ t.peers.table = s.peers.table.map (fun e =>
          let heard := min 255 (e.heard + 1)
          { e with
            heard := heard
            liveness := if heard < 2 * s.cfg.statusInterval then .present
              else if heard < 4 * s.cfg.statusInterval then .late else .lost })
      ∧ (s.phase = .listen → t.listenCount = s.listenCount + 1
          ∧ t.phase = (if 2 * s.cfg.statusInterval ≤ s.listenCount + 1 then .active else .listen))
      ∧ (s.phase = .active → t.phase = .active)
      ∧ (s.phase = .active → s.beat.sync ≠ .monitor → s.curtain.state = none → s.line.tx.length ≤ 6 →
          .beat number ∈ t.line.tx)
      ∧ t.zones = s.zones ∧ t.mode = s.mode ∧ t.config = s.config ∧ t.pins = s.pins ∧ t.boundaryUnderway = false
      ∧ (DeviceLaws s → (∀ e ∈ s.calls.queue, e.linked = none) →
          ∀ (n : Nat) (c : Channel), s.lights.channels[n]? = some c →
            ∃ after, TakesStaged number c.advanced after ∧ t.lights.channels[n]? = some (Channel.atLevel s after))
      ∧ (DeviceLaws s → s.curtain.state = none →
          let first := s.calls.queue.find? (fun e => !s.calls.pause || e.key.cls == .safety)
          let rests : Prop := s.calls.cadence = .idle ∨ s.calls.cadence = .resting
          let plays (e : CallEntry) : Prop := t.calls = { s.calls with
            queue := s.calls.queue.map (fun x => if x.key = e.key then { x with started := true, playing := true } else x)
            cadence := .playing, chosen := some e.key, wait := none
            position := some { cycle := 0, phase := .on, time := 0 } }
          let awaits (e : CallEntry) (w : Wait) : Prop := t.calls = { s.calls with
            cadence := .waitingStart, chosen := some e.key, wait := some w }
          (s.calls.cadence = .playing → t.calls = s.calls)
          ∧ (rests → first = none → t.calls = { s.calls with cadence := .idle })
          ∧ (∀ e, rests → first = some e →
              (e.started = true ∨ e.start = .now ∨ e.start = .nextBoundary → plays e)
              ∧ (∀ m, e.started = false → e.start = .atBeat m →
                  (s.beat.lock = .seeking → awaits e .next)
                  ∧ (s.beat.lock = .locked → dueAt number (.beat m) → plays e)
                  ∧ (s.beat.lock = .locked → ¬dueAt number (.beat m) → awaits e (.beat m))))
          ∧ (∀ k w e, s.calls.cadence = .waitingStart → s.calls.chosen = some k → s.calls.wait = some w →
              s.calls.queue.find? (fun x => x.key == k) = some e →
              (dueAt number w → plays e) ∧ (¬dueAt number w → t.calls = s.calls)))
      ∧ (DeviceLaws s → s.cfg.solo = true → s.cfg.required = [] → ∀ h, s.curtain.hold = some h →
          (2 ≤ h.remaining → t.curtain = { s.curtain with hold := some { h with remaining := h.remaining - 1 } })
          ∧ (h.remaining = 1 → s.curtain.state = some .warnRaise → t.curtain = curtainRecordAfter h.back s.curtain)
          ∧ (h.remaining = 1 → s.curtain.state = some .raising → t.curtain = curtainRecordAfter .stopped s.curtain))

/-- R67, R71 to R73: in MONITOR a BEAT frame is measured and judged, and not followed. -/
def Obligations.MonitorMeasuresTheBeat : Prop :=
  ∀ (s : State) (x : Nat) (n : BitVec 8), HearsPeer x s → s.beat.sync = .monitor →
    let error : Int := if s.beat.position ≤ s.beat.period / 2 then (s.beat.position : Int) else s.beat.position - s.beat.period
    let near : Prop := error.natAbs ≤ s.beat.window ∧ (n = s.beat.number ∨ n = s.beat.number + 1)
    let measured : BeatState := { s.beat with phaseError := error, received := min 255 (s.beat.received + 1) }
    let after (b : BeatState) : State := { heard x s with beat := b }
    (s.beat.lock = .seeking → near → s.beat.run < 3 →
        exec (.beatFrame x n) s = .next (after { measured with run := s.beat.run + 1 }))
    ∧ (s.beat.lock = .seeking → near → s.beat.run = 3 →
        exec (.beatFrame x n) s = .next (report (.lockChanged .locked) (after { measured with lock := .locked, run := 0 })))
    ∧ (s.beat.lock = .seeking → ¬near → exec (.beatFrame x n) s = .next (after { measured with run := 0 }))
    ∧ (s.beat.lock = .locked → near → exec (.beatFrame x n) s = .next (after measured))
    ∧ (s.beat.lock = .locked → ¬near →
        exec (.beatFrame x n) s = .next (report (.lockChanged .seeking) (report (.beatSlip error n s.beat.number)
          (after { measured with lock := .seeking, run := 0 }))))

/-- R41, R66, R68, R70: in TRACK and ONCE a peer's BEAT is followed: the timer restarts, the number is adopted, a waiting
own BEAT is withdrawn, and ONCE becomes MONITOR. A BEAT of the same number is no boundary. An expiry that falls together
with the BEAT, and is taken after it, does not come, by the model's own mark (log 38). -/
def Obligations.TrackFollowsTheBeat : Prop :=
  ∀ (s : State) (x : Nat) (n : BitVec 8), HearsPeer x s → s.beat.sync ≠ .monitor →
    ∃ t, exec (.beatFrame x n) s = .next t
      ∧ t.beat.number = n ∧ t.beat.position = 0
      ∧ t.beat.stepIndex = (if n = s.beat.number then s.beat.stepIndex else 0)
      ∧ t.beat.sync = (if s.beat.sync = .once then .monitor else s.beat.sync)
      ∧ t.beat.phaseError
          = (if s.beat.position ≤ s.beat.period / 2 then (s.beat.position : Int) else s.beat.position - s.beat.period)
      ∧ t.beat.received = min 255 (s.beat.received + 1)
      ∧ t.beat.period = s.beat.period ∧ t.beat.window = s.beat.window ∧ t.beat.running = s.beat.running
      ∧ (∀ f ∈ t.line.tx, f.isBeat = false)
      ∧ t.zones = s.zones ∧ t.mode = s.mode ∧ t.config = s.config ∧ t.pins = s.pins
      ∧ exec .beatExpiry t = .next { t with beat := { t.beat with overtaken := false } }
      ∧ (n = s.beat.number →
          t = { heard x s with
            beat := t.beat, panel := t.panel
            line := { (heard x s).line with tx := s.line.tx.filter (fun f => !f.isBeat) } })

/-- R74, R126, R134 to R136: a fade step between boundaries advances every enabled channel with an active fade by one
step, by the formula of R134 or to its target, and a completed fade takes with it every running fade of its cue; the
codes follow, and a cue without a fade left leaves the table. The row FADE_COMPLETE takes the fade's last step as
made, for every running fade of its cue, and a row without its subject changes nothing: the model's choice (log 3, log
4, log 26). A fade step clears the model's mark of an overtaken expiry (log 38). -/
def Obligations.FadesStepAndComplete : Prop :=
  (∀ s : State, s.working = true → LightLaw s →
      (s.beat.running = true → s.beat.stepIndex < 9 →
        ∃ t, exec .fadeStep s = .next t
          ∧ t = { s with beat := t.beat, lights := t.lights, panel := t.panel }
          ∧ t.beat = { s.beat with
              stepIndex := s.beat.stepIndex + 1
              position := max s.beat.position ((s.beat.stepIndex + 1) * (s.beat.period / 10))
              overtaken := false }
          ∧ t.lights.channels = s.lights.channels.map (fun c => Channel.atLevel s c.advanced)
          ∧ (∀ e, e ∈ t.lights.cues ↔ e ∈ s.lights.cues
              ∧ ∃ c ∈ t.lights.channels, c.stagedKey = some e.key ∨ c.activeKey = some e.key)
          ∧ t.lights.master = s.lights.master ∧ t.lights.nextSerial = s.lights.nextSerial)
      ∧ (s.beat.running = false ∨ 9 ≤ s.beat.stepIndex → exec .fadeStep s = .next s))
  ∧ (∀ (s : State) (n : Nat) (c : Channel), s.working = true → s.lights.channels[n]? = some c →
      (∀ y ∈ s.lights.channels, y.running) →
      (c.active = none → exec (.fadeComplete n) s = .next s)
      ∧ (∀ f, c.active = some f →
          ∃ t, exec (.fadeComplete n) s = .next t
            ∧ t = { s with lights := t.lights, panel := t.panel }
            ∧ t.lights.channels = s.lights.channels.map (fun y => Channel.atLevel s
                (match y.active with
                 | some g => if g.cue = f.cue then { y with level := g.target, active := none } else y
                 | none => y))
            ∧ (∀ e, e ∈ t.lights.cues ↔ e ∈ s.lights.cues
                ∧ ∃ y ∈ t.lights.channels, y.stagedKey = some e.key ∨ y.activeKey = some e.key)
            ∧ t.lights.master = s.lights.master ∧ t.lights.nextSerial = s.lights.nextSerial))

/-- R134: the level of a fade starts at S, ends at T, lies between them at every step, and moves one way only. -/
def Obligations.FadeLevelNeverOvershoots : Prop :=
  ∀ S T D e : Nat, 0 < D → e ≤ D →
    fadeLevel S T 0 D = S ∧ fadeLevel S T D D = T
    ∧ min S T ≤ fadeLevel S T e D ∧ fadeLevel S T e D ≤ max S T
    ∧ (∀ e', e ≤ e' → e' ≤ D → (S ≤ T → fadeLevel S T e D ≤ fadeLevel S T e' D)
        ∧ (T ≤ S → fadeLevel S T e' D ≤ fadeLevel S T e D))

/-! ## The curtain -/

/-- R93, R94, R99 steps 1 to 3, R114, R117: the curtain record after a change of state: the outputs of the table, START on
entering RAISING or LOWERING, STOP on leaving them for UP, STOPPED, DOWN or WARN_LOWER, no handshake in DROPPING and
JAMMED, the hold cleared outside the two raising states, and a descent record opened on a descent and kept within one. The model's mark of a stall ends (log 36). -/
def Obligations.CurtainRecordAfterEachChange : Prop :=
  ∀ (c : CurtainRecord) (new : CurtainState),
    let r := curtainRecordAfter new c
    r.state = some new ∧ r.stalledNow = false ∧ r.pos = c.pos ∧ r.known = c.known ∧ r.movement = c.movement
    ∧ (r.out.brake = false ↔ new = .dropping) ∧ (r.out.raise = true ↔ new = .raising) ∧ (r.out.lower = true ↔ new = .lowering)
    ∧ (new = .raising ∨ new = .lowering → r.handshake = .start 0)
    ∧ (new = .dropping ∨ new = .jammed → r.handshake = .idle)
    ∧ (c.state = some .raising ∨ c.state = some .lowering →
        new = .up ∨ new = .stopped ∨ new = .down ∨ new = .warnLower → r.handshake = .stop 0)
    ∧ (c.state ≠ some .raising → c.state ≠ some .lowering →
        new = .up ∨ new = .stopped ∨ new = .down ∨ new = .warnLower ∨ new = .warnRaise → r.handshake = c.handshake)
    ∧ (c.state = some .warnRaise ∨ c.state = some .raising → new ≠ .warnRaise → new ≠ .raising → r.hold = none)
    ∧ (c.state ≠ some .warnRaise → c.state ≠ some .raising → r.hold = c.hold)
    ∧ (new = .warnRaise ∨ new = .raising → r.hold = c.hold)
    ∧ (new ≠ .lowering → new ≠ .dropping → r.descent = none)
    ∧ (new = .lowering ∨ new = .dropping → c.state = some .lowering ∨ c.state = some .dropping → r.descent = c.descent)
    ∧ (new = .lowering ∨ new = .dropping → c.state ≠ some .lowering → c.state ≠ some .dropping →
        r.descent = some (if c.known then
            { t := 0, kind := .position, readings := [c.pos], stallCount := 0, lateReported := false }
          else { t := 0, kind := .movement, readings := [c.movement.toNat], stallCount := 0, lateReported := false }))

/-- R97, R99 to R101, R106, R113: a LOWER frame of any peer, at the curtain station it names. An open, raising or jammed
curtain takes its warning, which is queued at the Call Unit, or DROPPING, or DOWN; any other is left alone. That a
jammed curtain lowered in ALARM queues its warning too is deduced, against the words of R149 and R157 (log 30). -/
def Obligations.LowerFrameStartsTheLowering : Prop :=
  ∀ (s : State) (x : Nat), HearsPeer x s → s.cfg.role = .curtain → s.cfg.station ≤ 31 → ConditionLaw s →
    (s.curtain.state = some .up ∨ s.curtain.state = some .stopped ∨ s.curtain.state = some .jammed
          ∨ s.curtain.state = some .warnRaise ∨ s.curtain.state = some .raising →
        ∃ t, exec (.curtainLowerFrame x s.cfg.station) s = .next t
          ∧ CurtainTook (heard x s) (loweringTarget s) (curtainRecordAfter (loweringTarget s) (fromFloor s)) .lower t
          ∧ (loweringTarget s = .warnLower → s.boundaryUnderway = false → s.calls.queue.length < 16 →
              ∃ e ∈ t.calls.queue, e.key = { pattern := s.cfg.warningPattern, block := s.cfg.served, cls := .safety }))
    ∧ (s.curtain.state = some .down ∨ s.curtain.state = some .warnLower ∨ s.curtain.state = some .lowering
          ∨ s.curtain.state = some .dropping →
        exec (.curtainLowerFrame x s.cfg.station) s = .next (heard x s))

/-- R97, R99, R100, R102, R103, R113: DROP and STOP frames of peers whose roles permit them. A DROP takes any curtain that
is not down or dropping to DROPPING, or DOWN at the floor; a STOP takes a warning or driven curtain to STOPPED. -/
def Obligations.DropAndStopFrames : Prop :=
  ∀ (s : State) (x : Nat), HearsPeer x s → s.cfg.role = .curtain → s.cfg.station ≤ 31 → ConditionLaw s →
    (∀ r st, roleOf x s = some r → r = .stage ∨ r = .fire ∨ r = .curtain → s.curtain.state = some st →
        (st ≠ .down → st ≠ .dropping →
          ∃ t, exec (.curtainDropFrame x s.cfg.station) s = .next t
            ∧ CurtainTook (heard x s) (downTo s .dropping) (curtainRecordAfter (downTo s .dropping) (fromFloor s)) .drop t)
        ∧ (st = .down ∨ st = .dropping → exec (.curtainDropFrame x s.cfg.station) s = .next (heard x s)))
    ∧ (∀ st, roleOf x s = some .stage → s.curtain.state = some st →
        (st = .warnRaise ∨ st = .raising ∨ st = .warnLower ∨ st = .lowering →
          ∃ t, exec (.curtainStopFrame x s.cfg.station) s = .next t
            ∧ CurtainTook (heard x s) .stopped (curtainRecordAfter .stopped s.curtain) .stop t)
        ∧ (st = .down ∨ st = .up ∨ st = .stopped ∨ st = .jammed ∨ st = .dropping →
          exec (.curtainStopFrame x s.cfg.station) s = .next (heard x s)))

/-- R93, R104, R106: a RAISE_HOLD frame of a STAGE peer. It refreshes a hold that is present, starts a raise where the
five conditions hold, and is otherwise refused with the first reason that applies. -/
def Obligations.RaiseHoldFrameRaisesOrIsRefused : Prop :=
  ∀ (s : State) (x : Nat) (st : CurtainState),
    HearsPeer x s → s.cfg.role = .curtain → s.cfg.station ≤ 31 → ConditionLaw s →
    roleOf x s = some .stage → s.curtain.state = some st →
    let refused (reason : RaiseReason) : State := report (.curtainRefused x reason) (heard x s)
    let fault : Bool := s.faults.alone || s.faults.requiredLost || s.faults.curtain
    (st = .warnRaise ∨ st = .raising → ∀ h, s.curtain.hold = some h →
        exec (.curtainRaiseHoldFrame x s.cfg.station) s = .next { heard x s with
          curtain := { s.curtain with hold := some { h with remaining := s.cfg.holdLapse } } })
    ∧ (st = .up ∨ st = .warnLower ∨ st = .lowering ∨ st = .dropping ∨ st = .jammed →
        exec (.curtainRaiseHoldFrame x s.cfg.station) s = .next (refused .state))
    ∧ (st = .down ∨ st = .stopped →
        (s.phase ≠ .active → exec (.curtainRaiseHoldFrame x s.cfg.station) s = .next (refused .listen))
        ∧ (s.phase = .active → s.curtain.known = false →
            exec (.curtainRaiseHoldFrame x s.cfg.station) s = .next (refused .positionUnknown))
        ∧ (s.phase = .active → s.curtain.known = true → s.condition = .preAlarm ∨ s.condition = .alarm →
            exec (.curtainRaiseHoldFrame x s.cfg.station) s = .next (refused .condition))
        ∧ (s.phase = .active → s.curtain.known = true → s.condition = .quiet ∨ s.condition = .fault → fault = true →
            exec (.curtainRaiseHoldFrame x s.cfg.station) s = .next (refused .stationFault))
        ∧ (s.phase = .active → s.curtain.known = true → s.condition = .quiet ∨ s.condition = .fault → fault = false →
            s.pins.driveReady = false →
            exec (.curtainRaiseHoldFrame x s.cfg.station) s = .next (refused .driveNotReady))
        ∧ (s.phase = .active → s.curtain.known = true → s.condition = .quiet ∨ s.condition = .fault → fault = false →
            s.pins.driveReady = true → s.boundaryUnderway = false → s.calls.queue.length < 16 →
            ∃ t, exec (.curtainRaiseHoldFrame x s.cfg.station) s = .next t
              ∧ CurtainTook (heard x s) .warnRaise
                  { curtainRecordAfter .warnRaise s.curtain with hold := some { remaining := s.cfg.holdLapse, back := st } }
                  .raiseHold t
              ∧ ∃ e ∈ t.calls.queue, e.key = { pattern := s.cfg.warningPattern, block := s.cfg.served, cls := .safety }))

/-- R100: a DROP, a STOP or a RAISE_HOLD from a peer whose role does not permit it is ignored with its reason; a request
that names another station, or reaches a station of another role, is not acted on and not reported. -/
def Obligations.CurtainRequestsNotPermitted : Prop :=
  ∀ (s : State) (x target : Nat), HearsPeer x s → target ≤ 31 →
    let ignored (kind : CurtainKind) : State :=
      report (.curtainIgnored kind x (roleOf x s) (if roleOf x s = none then .senderUnknown else .senderRole)) (heard x s)
    (s.cfg.role ≠ .curtain ∨ target ≠ s.cfg.station →
        exec (.curtainLowerFrame x target) s = .next (heard x s)
        ∧ exec (.curtainDropFrame x target) s = .next (heard x s)
        ∧ exec (.curtainStopFrame x target) s = .next (heard x s)
        ∧ exec (.curtainRaiseHoldFrame x target) s = .next (heard x s))
    ∧ (s.cfg.role = .curtain → target = s.cfg.station → roleOf x s ≠ some .stage →
        exec (.curtainStopFrame x target) s = .next (ignored .stop)
        ∧ exec (.curtainRaiseHoldFrame x target) s = .next (ignored .raiseHold)
        ∧ (roleOf x s ≠ some .fire → roleOf x s ≠ some .curtain →
            exec (.curtainDropFrame x target) s = .next (ignored .drop)))

/-- R97: BOTTOM_LIMIT. Becoming active it sets p to 0 and known, with POSITION_MISMATCH where p was off, and takes any
state to DOWN; becoming inactive it changes nothing else. The operand gives the level, the model's choice (log 6). -/
def Obligations.BottomLimitTakesDown : Prop :=
  ∀ (s : State) (st : CurtainState), s.working = true → s.curtain.state = some st → ConditionLaw s →
    let reached : State := limitReached .bottom s.curtain.pos { s.pins with bottomLimit := true } s
    let floor : CurtainRecord := { s.curtain with pos := 0, known := true }
    (st = .down → exec (.bottomLimit true) s = .next { reached with curtain := floor })
    ∧ (st ≠ .down → ∃ t, exec (.bottomLimit true) s = .next t
        ∧ CurtainTook reached .down (curtainRecordAfter .down floor) .bottomLimit t)
    ∧ exec (.bottomLimit false) s = .next { s with pins := { s.pins with bottomLimit := false } }

/-- R96, R98, R123: TOP_LIMIT and the encoder. TOP_LIMIT sets p to Ptop and known; a count moves p within its ends and
the movement total without end. Either, on reaching the top, takes RAISING and STOPPED to UP. The operand gives the
level, the model's choice (log 6). -/
def Obligations.TopLimitAndEncoderReachTheTop : Prop :=
  ∀ (s : State) (st : CurtainState) (up : Bool), s.working = true → s.curtain.state = some st → ConditionLaw s →
    let off : Nat := if s.curtain.pos ≤ s.cfg.pTop then s.cfg.pTop - s.curtain.pos else s.curtain.pos - s.cfg.pTop
    let reached : State := limitReached .top off { s.pins with topLimit := true } s
    let top : CurtainRecord := { s.curtain with
      pos := s.cfg.pTop, known := true
      descent := s.curtain.descent.map (fun d => { d with kind := .position, readings := [s.cfg.pTop] }) }
    let p : Nat := if up then min 65535 (s.curtain.pos + 1) else s.curtain.pos - 1
    let counted : CurtainRecord := { s.curtain with
      pos := p, movement := if up then s.curtain.movement + 1 else s.curtain.movement - 1 }
    let crosses : Prop := s.curtain.known = true ∧ s.curtain.pos < s.cfg.pTop ∧ s.cfg.pTop ≤ p
    (st ≠ .raising → st ≠ .stopped → exec (.topLimit true) s = .next { reached with curtain := top })
    ∧ (st = .raising ∨ st = .stopped → ∃ t, exec (.topLimit true) s = .next t
        ∧ CurtainTook { reached with curtain := top } .up (curtainRecordAfter .up top) .top t)
    ∧ exec (.topLimit false) s = .next { s with pins := { s.pins with topLimit := false } }
    ∧ (¬crosses ∨ (st ≠ .raising ∧ st ≠ .stopped) → exec (.encoderCount up) s = .next { s with curtain := counted })
    ∧ (crosses → st = .raising ∨ st = .stopped → ∃ t, exec (.encoderCount up) s = .next t
        ∧ CurtainTook { s with curtain := counted } .up (curtainRecordAfter .up counted) .top t)

/-- R108, R109: the drive handshake, by its two timeouts and at a sample event of a station without an enabled zone
whose curtain has no descent record. The timeout rows take their count as reached, and do nothing outside their
handshake: the model's choice (log 3, log 4). A sample event clears the model's mark of a stall (log 36). -/
def Obligations.DriveHandshakeIsJudged : Prop :=
  ∀ (s : State) (inputs : SampleInputs) (n : Nat), s.working = true → ConditionLaw s →
    let jams (c : Instr) (cause : CurtainCause) : Prop :=
      ∃ t, exec c s = .next t ∧ CurtainTook s .jammed (curtainRecordAfter .jammed s.curtain) cause t
    let becomes (h : Handshake) : Prop :=
      exec (.sampleEvent inputs) s = .next { s with
        curtain := { s.curtain with handshake := h, stalledNow := false } }
    (s.curtain.handshake = .start n → jams .startTimeout .startTimeout ∧ exec .stopTimeout s = .next s)
    ∧ (s.curtain.handshake = .stop n → jams .stopTimeout .stopTimeout ∧ exec .startTimeout s = .next s)
    ∧ ((∀ z ∈ s.zones, z.enabled = false) → s.curtain.descent = none →
        (s.curtain.handshake = .start n → inputs.driveMoving = true → becomes .running)
        ∧ (s.curtain.handshake = .start n → inputs.driveMoving = false → n + 1 < s.cfg.startTimeout →
            becomes (.start (n + 1)))
        ∧ (s.curtain.handshake = .start n → inputs.driveMoving = false → s.cfg.startTimeout ≤ n + 1 →
            jams (.sampleEvent inputs) .startTimeout)
        ∧ (s.curtain.handshake = .running → inputs.driveMoving = false →
            s.curtain.state = some .raising ∨ s.curtain.state = some .lowering →
            jams (.sampleEvent inputs) .driveStopped)
        ∧ (s.curtain.handshake = .running → inputs.driveMoving = true → becomes .running)
        ∧ (s.curtain.handshake = .stop n → inputs.driveMoving = false → becomes .idle)
        ∧ (s.curtain.handshake = .stop n → inputs.driveMoving = true → n + 1 < s.cfg.startTimeout →
            becomes (.stop (n + 1)))
        ∧ (s.curtain.handshake = .stop n → inputs.driveMoving = true → s.cfg.startTimeout ≤ n + 1 →
            jams (.sampleEvent inputs) .stopTimeout))

/-- R97, R105, R110, R124: the hold lapses: in WARN_RAISE the curtain returns to the state the hold records, in RAISING it
takes STOPPED. DRIVE_READY lost jams a raise, drops a lowering, and ends a warning before a raise; in the other
states, and on its return, only the input changes. The row HOLD_LAPSE takes the count as having reached 0, and the
operand of DRIVE_READY_LOST gives the level: the model's choice (log 3, log 4, log 6). A jammed curtain stays, as R110
says, but for one that a stall has jammed at the same moment, which goes on to DROPPING, or DOWN at the floor, with a
fresh descent record, as the row of R124 on a loss taken after the judgement says. The mark that tells the two apart is
the model's own (log 36). -/
def Obligations.HoldLapseAndDriveLoss : Prop :=
  (∀ (s : State) (h : Hold), s.working = true → ConditionLaw s →
      let lapsed : State := { s with curtain := { s.curtain with hold := some { h with remaining := 0 } } }
      (s.curtain.hold = none → exec .holdLapse s = .next s)
      ∧ (s.curtain.hold = some h → s.curtain.state = some .warnRaise → h.back = .down ∨ h.back = .stopped →
          ∃ t, exec .holdLapse s = .next t
            ∧ CurtainTook lapsed h.back (curtainRecordAfter h.back s.curtain) .holdLapse t)
      ∧ (s.curtain.hold = some h → s.curtain.state = some .raising →
          ∃ t, exec .holdLapse s = .next t
            ∧ CurtainTook lapsed .stopped (curtainRecordAfter .stopped s.curtain) .holdLapse t))
  ∧ (∀ (s : State) (st : CurtainState), s.working = true → s.curtain.state = some st → ConditionLaw s →
      let lost : State := { s with pins := { s.pins with driveReady := false } }
      exec (.driveReadyLost true) s = .next { s with pins := { s.pins with driveReady := true } }
      ∧ (st = .raising → ∃ t, exec (.driveReadyLost false) s = .next t
          ∧ CurtainTook lost .jammed (curtainRecordAfter .jammed s.curtain) .driveReadyLost t)
      ∧ (st = .lowering ∨ st = .warnLower → ∃ t, exec (.driveReadyLost false) s = .next t
          ∧ CurtainTook lost (downTo s .dropping) (curtainRecordAfter (downTo s .dropping) (fromFloor s)) .driveReadyLost t)
      ∧ (∀ h, st = .warnRaise → s.curtain.hold = some h → h.back = .down ∨ h.back = .stopped →
          ∃ t, exec (.driveReadyLost false) s = .next t
            ∧ CurtainTook lost h.back (curtainRecordAfter h.back s.curtain) .driveReadyLost t)
      ∧ (st = .jammed → s.curtain.stalledNow = true → ∃ t, exec (.driveReadyLost false) s = .next t
          ∧ CurtainTook lost (downTo s .dropping) (curtainRecordAfter (downTo s .dropping) (fromFloor s)) .driveReadyLost t
          ∧ (s.pins.bottomLimit = false → t.curtain.state = some .dropping ∧ t.curtain.descent = some (openDescent s.curtain)))
      ∧ (st = .jammed → s.curtain.stalledNow = false → exec (.driveReadyLost false) s = .next lost)
      ∧ (st = .down ∨ st = .up ∨ st = .stopped ∨ st = .dropping → exec (.driveReadyLost false) s = .next lost))

/-- R97, R108, R118 to R122: a descent at a sample event of a station without an enabled zone, with a drive handshake that
makes no fault at that sample: none, RUNNING with DRIVE_MOVING on, or START. The record takes the reading; without
downward travel the stall count rises and, on reaching its limit, is reported; with downward travel in position units the
projected time is judged. LOWERING is jammed by a stall and, when late, dropped, or down at the floor; DROPPING goes on. A
handshake judged first that does make a fault jams the lowering before its record is judged: the operand gives the order,
which is open (log 10). The row DESCENT_STALLED is the judgement at which the stall count reaches its limit. That the row
is that judgement alone and does nothing on downward travel is the model's choice (log 3, log 27). A stall that jams sets
the model's mark of R124, which a later sample event clears (log 36). -/
def Obligations.DescentIsSupervised : Prop :=
  ∀ (s : State) (inputs : SampleInputs) (st : CurtainState) (d : Descent),
    s.working = true → ConditionLaw s → (∀ z ∈ s.zones, z.enabled = false) →
    s.curtain.state = some st → st = .lowering ∨ st = .dropping → s.curtain.descent = some d →
    let calm : Prop := match s.curtain.handshake with
      | .idle => True
      | .running => inputs.driveMoving = true
      | .start n => inputs.driveMoving = true ∨ n + 1 < s.cfg.startTimeout
      | .stop _ => False
    let shaken : Handshake := match s.curtain.handshake with
      | .start n => if inputs.driveMoving then .running else .start (n + 1)
      | h => h
    let reading : Nat := match d.kind with | .position => s.curtain.pos | .movement => s.curtain.movement.toNat
    let list := if d.readings.length < 5 then d.readings ++ [reading] else d.readings.drop (d.readings.length - 4) ++ [reading]
    let span : Nat := list.length - 1
    let travelled : Int :=
      match d.kind with
      | .position => ((list.headD 0 : Nat) : Int) - reading
      | .movement => Int.bmod (((list.headD 0 : Nat) : Int) - reading) 65536
    let sampled : Descent := { d with t := min 65535 (d.t + 1), readings := list }
    let stalled : Descent := { sampled with stallCount := s.cfg.stallLimit }
    let moving : Descent := { sampled with stallCount := 0 }
    let need : Nat := (reading * span + travelled.toNat - 1) / travelled.toNat
    let judged : CurtainRecord := { s.curtain with handshake := shaken, stalledNow := false }
    let holds (x : Descent) : Prop := exec (.sampleEvent inputs) s = .next { s with
      curtain := { judged with descent := some x } }
    let stallReported (c : Instr) (r : CurtainRecord) : Prop :=
      ∃ t, exec c s = .next t
        ∧ FirstReport s (.descentStalled st sampled.t d.kind reading travelled span s.cfg.stallLimit) t
        ∧ t.faults = { s.faults with curtain := true }
        ∧ t.curtain = (if st = .lowering then { curtainRecordAfter .jammed s.curtain with stalledNow := true }
            else { r with descent := some stalled })
        ∧ t.zones = s.zones ∧ t.beat = s.beat ∧ t.mode = s.mode ∧ t.pins = s.pins
    let jams (cause : CurtainCause) : Prop :=
      ∃ t, exec (.sampleEvent inputs) s = .next t
        ∧ CurtainTook s .jammed (curtainRecordAfter .jammed s.curtain) cause t
    (calm → travelled ≤ 0 → d.stallCount + 1 < s.cfg.stallLimit → holds { sampled with stallCount := d.stallCount + 1 })
    ∧ (calm → travelled ≤ 0 → d.stallCount < s.cfg.stallLimit → s.cfg.stallLimit ≤ d.stallCount + 1 →
        stallReported (.sampleEvent inputs) judged)
    ∧ (calm → travelled ≤ 0 → d.stallCount = s.cfg.stallLimit → holds stalled)
    ∧ (calm → 0 < travelled → d.kind = .movement → holds moving)
    ∧ (calm → 0 < travelled → d.kind = .position →
        sampled.t + need ≤ s.cfg.descentLimit ∨ d.lateReported = true → holds moving)
    ∧ (calm → 0 < travelled → d.kind = .position → s.cfg.descentLimit < sampled.t + need → d.lateReported = false →
        ∃ t, exec (.sampleEvent inputs) s = .next t
          ∧ FirstReport s (.descentLate st sampled.t reading span travelled need) t
          ∧ t.faults = { s.faults with curtain := true }
          ∧ (st = .dropping → t.curtain = { judged with descent := some { moving with lateReported := true } })
          ∧ (st = .lowering → s.pins.bottomLimit = false → t.curtain = { curtainRecordAfter .dropping s.curtain with
              descent := some { moving with lateReported := true } })
          ∧ (st = .lowering → s.pins.bottomLimit = true → 2 ≤ s.cfg.startTimeout → t.curtain.state = some .down ∧ t.curtain.pos = 0
              ∧ t.curtain.known = true ∧ t.curtain.descent = none)
          ∧ t.zones = s.zones ∧ t.beat = s.beat ∧ t.mode = s.mode ∧ t.pins = s.pins)
    ∧ (st = .lowering → inputs.handshakeFirst = true → inputs.driveMoving = false →
        (s.curtain.handshake = .running → jams .driveStopped)
        ∧ (∀ n, s.curtain.handshake = .start n → s.cfg.startTimeout ≤ n + 1 → jams .startTimeout))
    ∧ (travelled ≤ 0 → d.stallCount < s.cfg.stallLimit → stallReported .descentStalled s.curtain)
    ∧ (0 < travelled ∨ s.cfg.stallLimit ≤ d.stallCount → exec .descentStalled s = .next s)

/-! ## Lights -/

/-- R127, R129, R130, R132, R135, R136: a CUE frame. Where it applies to no channel nothing is taken of it. Started at once
it becomes the active fade from the present level of every channel it applies to and removes a staged one, and one without
duration is at its target in the same event; waiting, it becomes the staged fade. It takes the next serial. -/
def Obligations.CueFrameStartsOrStages : Prop :=
  ∀ (s : State) (x : Nat) (b : AreaBlock) (level duration : Nat) (start : Start),
    HearsPeer x s → b.named = true → (∀ c ∈ s.lights.channels, c.running) →
    let applies (c : Channel) : Bool := c.enabled && b.aligned.contains c.area
    let target := min 1000 level
    let steps := 10 * min 240 duration
    let ahead := (match start with | .atBeat n => n | _ => 0) - s.beat.number
    let atOnce : Prop := start = .now
      ∨ (∃ n, start = .atBeat n ∧ s.beat.lock = .locked ∧ (ahead.toNat = 0 ∨ 128 ≤ ahead.toNat))
    ((∀ c ∈ s.lights.channels, applies c = false) →
        exec (.cueFrame x b level duration start) s = .next (heard x s))
    ∧ ((∃ c ∈ s.lights.channels, applies c = true) →
        ∃ t, exec (.cueFrame x b level duration start) s = .next t
          ∧ t = { heard x s with lights := t.lights, panel := t.panel }
          ∧ t.lights.nextSerial = s.lights.nextSerial + 1 ∧ t.lights.master = s.lights.master
          ∧ (atOnce → t.lights.channels = s.lights.channels.map (fun c => Channel.atLevel s
              (if applies c then
                (if steps = 0 then { c with level := target, staged := none, active := none }
                 else { c with
                  staged := none
                  active := some { cue := s.lights.nextKey, start := c.level, target := target, duration := steps
                                   elapsed := 0 } })
               else c)))
          ∧ (∀ w, (start = .nextBoundary ∧ w = .next) ∨ (∃ n, start = .atBeat n ∧
                ((s.beat.lock = .seeking ∧ w = .next)
                  ∨ (s.beat.lock = .locked ∧ 1 ≤ ahead.toNat ∧ ahead.toNat ≤ 127 ∧ w = .beat n))) →
              t.lights.channels = s.lights.channels.map (fun c =>
                if applies c then
                  { c with staged := some { cue := s.lights.nextKey, target := target, duration := steps, wait := w } }
                else c))
          ∧ (¬atOnce ∨ 0 < steps → { key := s.lights.nextKey, serial := s.lights.nextSerial, source := .line
                                     origin := .station x, block := b.aligned, level := target
                                     duration := min 240 duration, start := start } ∈ t.lights.cues)
          ∧ (∀ n, start = .atBeat n → s.beat.lock = .locked → ahead.toNat = 0 ∨ 128 ≤ ahead.toNat →
              FirstReport s (.cueLate s.lights.nextSerial (.station x) n s.beat.number) t)
          ∧ (∀ n, start = .atBeat n → s.beat.lock = .seeking →
              FirstReport s (.unaligned (.cue s.lights.nextSerial (.station x)) n s.beat.number) t))

/-- R136 to R138, R164: a dimmer transfer puts its codes on LDATA in order, each most significant bit first; its end begins
a pending one with the codes that stand; SET_MASTER stores the clamped master level, gives every enabled channel its
code and requests a transfer where a code changed. That an end without a transfer does nothing (log 4), and that a
request at an idle link is a whole transfer (log 5), are the model's choices. -/
def Obligations.DimmerTransferAndMaster : Prop :=
  ∀ (s : State) (tag value : Nat),
    let codes := s.lights.channels.map (fun c => c.code)
    (∀ sent, s.lights.sending = some sent → ∃ bits, s.lights.ldata = some bits ∧ bits.length = 8 * sent.length
        ∧ ∀ (n i code : Nat), sent[n]? = some code → i ≤ 7 → bits[8 * n + i]? = some (code.testBit (7 - i)))
    ∧ (s.resetHeld = false → s.lights.sending = none → exec .dimmerTransferEnd s = .next s)
    ∧ (∀ sent, s.resetHeld = false → s.lights.sending = some sent → s.lights.pendingTransfer = false →
        exec .dimmerTransferEnd s = .next { s with lights := { s.lights with sending := none } })
    ∧ (∀ sent, s.resetHeld = false → s.lights.sending = some sent → s.lights.pendingTransfer = true →
        exec .dimmerTransferEnd s = .next { s with lights := { s.lights with sending := some codes, pendingTransfer := false } })
    ∧ (PanelFree s → s.working = true →
        ∃ t, exec (.setMaster tag value) s = .next t
          ∧ t = { recordSent s with
              lights := t.lights, panel := { (recordSent s).panel with holder := some (.taken .setMaster tag) } }
          ∧ t.lights.master = min 1000 value
          ∧ t.lights.channels = s.lights.channels.map (fun c => { c with
              code := if c.enabled then outputCode (s.condition == .alarm) (min 1000 value) c.level else 255 })
          ∧ t.lights.cues = s.lights.cues ∧ t.lights.nextSerial = s.lights.nextSerial
          ∧ (t.lights.channels.map (fun c => c.code) = codes →
              t.lights.sending = s.lights.sending ∧ t.lights.pendingTransfer = s.lights.pendingTransfer)
          ∧ (t.lights.channels.map (fun c => c.code) ≠ codes →
              if s.lights.sending = none then
                t.lights.sending = some (t.lights.channels.map (fun c => c.code))
                  ∧ t.lights.pendingTransfer = s.lights.pendingTransfer
              else t.lights.sending = s.lights.sending ∧ t.lights.pendingTransfer = true))

/-! ## Calls -/

/-- R147, R148, R150, R151, R153, R154: a CALL frame, in the order of its judgement: disregarded where its block does not
meet the served block, ignored in ALARM and in STANDBY, merged into an equal entry, joined by class, dropped by a full
queue, or joined in the place of the youngest entry of the lowest class not playing, where that class is below its own; and
an idle Call Unit that may play starts a call given NOW in the same event. -/
def Obligations.CallFrameIsJudgedInOrder : Prop :=
  ∀ (s : State) (x : Nat) (b : AreaBlock) (pattern : Nat) (cls : CallClass) (repeats : Nat) (start : Start)
    (linked : Option LinkedCue),
    HearsPeer x s → b.named = true → pattern ≤ 7 → cls ≠ .safety →
    let key : CallKey := { pattern := pattern, block := b.aligned, cls := cls }
    let count := max 1 (min 16 repeats)
    let entry : CallEntry :=
      { key := key, repeats := count, origin := .station x, start := start
        linked := linked.map (fun q => { level := min 1000 q.level, duration := min 240 q.duration })
        started := false, playing := false }
    let command : Instr := .callFrame x b pattern cls repeats start linked
    let accepted : Prop := b.aligned.intersects s.cfg.served = true ∧ s.condition ≠ .alarm ∧ s.mode ≠ .standby
    let equals (y : CallEntry) : Bool := y.key == key
    (b.aligned.intersects s.cfg.served = false → exec command s = .next (heard x s))
    ∧ (b.aligned.intersects s.cfg.served = true → s.condition = .alarm →
        exec command s = .next (report (.callIgnored key (.station x) .condition) (heard x s)))
    ∧ (b.aligned.intersects s.cfg.served = true → s.condition ≠ .alarm → s.mode = .standby →
        exec command s = .next (report (.callIgnored key (.station x) .mode) (heard x s)))
    ∧ (∀ y, accepted → s.calls.cadence = .playing → s.calls.queue.find? equals = some y →
        exec command s = .next (report (.callMerged key (.station x) (min 16 (y.repeats + count))) { heard x s with
          calls := { s.calls with queue := s.calls.queue.map (fun e =>
            if equals e then { e with repeats := min 16 (y.repeats + count) } else e) } }))
    ∧ (accepted → s.calls.cadence = .playing → s.calls.queue.find? equals = none → s.calls.queue.length < 16 →
        callOrder s.calls.queue = true →
        ∃ q, JoinedByRank entry s.calls.queue q
          ∧ exec command s = .next { heard x s with calls := { s.calls with queue := q } })
    ∧ (accepted → s.calls.queue.find? equals = none → 16 ≤ s.calls.queue.length →
        (∀ e ∈ s.calls.queue, e.playing = true ∨ cls.code ≤ e.key.cls.code) →
        exec command s = .next (report (.callDropped key (.station x) .full) (heard x s)))
    ∧ (∀ older v younger, accepted → s.calls.cadence = .playing → s.calls.queue.find? equals = none →
        s.calls.queue = older ++ v :: younger → 16 ≤ s.calls.queue.length → callOrder s.calls.queue = true →
        v.playing = false → s.calls.chosen ≠ some v.key → v.key.cls.code < cls.code →
        (∀ e ∈ older, e.key ≠ v.key ∧ (e.playing = true ∨ v.key.cls.code ≤ e.key.cls.code)) →
        (∀ e ∈ younger, e.key ≠ v.key ∧ (e.playing = true ∨ v.key.cls.code < e.key.cls.code)) →
        ∃ q, JoinedByRank entry (older ++ younger) q
          ∧ exec command s = .next (report (.callDropped v.key v.origin .evicted) { heard x s with
              calls := { s.calls with queue := q } }))
    ∧ (accepted → s.calls.cadence = .idle → s.calls.queue = [] → s.calls.pause = false → start = .now → linked = none →
        exec command s = .next (report (.callStarted key (.station x) count) { heard x s with
          calls := { s.calls with
            queue := [{ entry with started := true, playing := true }]
            cadence := .playing, chosen := some key, wait := none
            position := some { cycle := 0, phase := .on, time := 0 } } }))

/-- R145, R154, R155, R157: the cadence of a playing entry passes from ON to OFF, through its n cycles, to the gap;
the evacuation pattern passes between its phases; and the end of a repetition takes one repeat, removes an entry
without repeats with CALL_DONE, and rests the cadence. The rows take their moment as come and do nothing without their
subject: the model's choice (log 3, log 4). That the position keeps the last cycle's index in the gap is the model's choice
too, which R145 does not give (log 42). -/
def Obligations.CadenceRunsItsPattern : Prop :=
  ∀ (s : State) (k : CallKey) (x : RepPosition) (e : CallEntry), s.working = true →
    let p := s.pattern k.pattern
    let moved (y : RepPosition) : Prop :=
      exec .cadencePhase s = .next { s with calls := { s.calls with position := some y } }
    (s.calls.cadence = .playing → s.calls.chosen = some k → s.calls.position = some x →
        (x.phase = .on → moved { cycle := x.cycle, phase := .off, time := x.cycle * p.period + p.onTime })
        ∧ (x.phase = .off → x.cycle + 1 < p.cycles →
            moved { cycle := x.cycle + 1, phase := .on, time := (x.cycle + 1) * p.period })
        ∧ (x.phase = .off → p.cycles ≤ x.cycle + 1 → 0 < p.gap →
            moved { cycle := x.cycle, phase := .gap, time := (x.cycle + 1) * p.period }))
    ∧ (∀ y, s.calls.evacPos = some y →
        exec .evacuationPhase s = .next { s with calls := { s.calls with evacPos := some { on := !y.on, time := 0 } } })
    ∧ (s.calls.evacPos = none → exec .evacuationPhase s = .next s)
    ∧ (s.calls.cadence = .playing → s.calls.chosen = some k → s.calls.queue.find? (fun y => y.key == k) = some e →
        k.cls ≠ .safety →
        let rested (q : List CallEntry) : State := { s with
          calls := { s.calls with queue := q, cadence := .resting, chosen := none, wait := none, position := none } }
        (2 ≤ e.repeats → exec .repetitionEnd s = .next (rested (s.calls.queue.map (fun y =>
            if y.key = k then { y with repeats := y.repeats - 1, playing := false } else y))))
        ∧ (e.repeats = 1 → exec .repetitionEnd s = .next
            (report (.callDone k e.origin) (rested (s.calls.queue.filter (fun y => y.key != k))))))
    ∧ (s.calls.cadence ≠ .playing → exec .repetitionEnd s = .next s ∧ exec .cadencePhase s = .next s)

/-- R106, R107, R154: the end of a repetition of the warning call starts the curtain that waited for it, when DRIVE_READY is
on: LOWERING from WARN_LOWER, RAISING from WARN_RAISE with its hold. -/
def Obligations.WarningDoneStartsTheDrive : Prop :=
  ∀ (s : State) (k : CallKey), s.working = true → ConditionLaw s →
    s.calls.cadence = .playing → s.calls.chosen = some k → k.cls = .safety → s.pins.driveReady = true →
    (s.curtain.state = some .warnLower →
        ∃ t, exec .repetitionEnd s = .next t ∧ t.calls.cadence = .resting ∧ t.calls.chosen = none
          ∧ t.curtain = curtainRecordAfter (downTo s .lowering) (fromFloor s)
          ∧ FirstReport s (.curtainChanged (some .warnLower) (downTo s .lowering) .warningDone t.curtain.pos t.curtain.known) t
          ∧ t.zones = s.zones ∧ t.beat = s.beat ∧ t.mode = s.mode ∧ t.peers = s.peers)
    ∧ (s.curtain.state = some .warnRaise → s.curtain.hold.isSome = true →
        ∃ t, exec .repetitionEnd s = .next t ∧ t.calls.cadence = .resting ∧ t.calls.chosen = none
          ∧ t.curtain = curtainRecordAfter .raising s.curtain
          ∧ FirstReport s (.curtainChanged (some .warnRaise) .raising .warningDone s.curtain.pos s.curtain.known) t
          ∧ t.zones = s.zones ∧ t.beat = s.beat ∧ t.mode = s.mode ∧ t.peers = s.peers ∧ t.faults = s.faults)

/-- R78 to R82, R86, R88, R158, R177: a COMMAND frame of a peer, of any of the six kinds, is not acted on when it is
addressed elsewhere, and is ignored with the reason from a sender whose role is UNKNOWN, AREA or CURTAIN. SILENCE and
SET_MODE frames are taken in the order of the checks, or ignored with the reason. -/
def Obligations.SilenceAndModeFrames : Prop :=
  ∀ (s : State) (x target : Nat) (m : Mode), HearsPeer x s → target ≤ 31 →
    let ignored (c : Command) (reason : IgnoreReason) : State :=
      report (.commandIgnored c x target (roleOf x s) reason) (heard x s)
    let taken (c : Command) : State := report (.commandTaken c x target false) (heard x s)
    let row (c : Command) : Instr :=
      match c with
      | .ack n => .commandAck x target n
      | .reset => .commandReset x target
      | .silence => .commandSilence x target
      | .isolate n => .commandIsolate x target n
      | .restore n => .commandRestore x target n
      | .setMode k => .commandSetMode x target k
    (∀ c : Command, c.zoneOk = true →
        (target ≠ 0 → target ≠ s.cfg.station → exec (row c) s = .next (heard x s))
        ∧ (target = 0 ∨ target = s.cfg.station →
            (roleOf x s = none → exec (row c) s = .next (ignored c .senderUnknown))
            ∧ (roleOf x s = some .area ∨ roleOf x s = some .curtain → exec (row c) s = .next (ignored c .senderRole))))
    ∧ (target ≠ 0 → target ≠ s.cfg.station →
        exec (.commandSilence x target) s = .next (heard x s) ∧ exec (.commandSetMode x target m) s = .next (heard x s))
    ∧ (target = 0 ∨ target = s.cfg.station →
        (roleOf x s = none →
            exec (.commandSilence x target) s = .next (ignored .silence .senderUnknown)
            ∧ exec (.commandSetMode x target m) s = .next (ignored (.setMode m) .senderUnknown))
        ∧ (roleOf x s = some .area ∨ roleOf x s = some .curtain →
            exec (.commandSilence x target) s = .next (ignored .silence .senderRole))
        ∧ (roleOf x s = some .area ∨ roleOf x s = some .curtain ∨ roleOf x s = some .fire →
            exec (.commandSetMode x target m) s = .next (ignored (.setMode m) .senderRole))
        ∧ (roleOf x s = some .fire ∨ roleOf x s = some .foh ∨ roleOf x s = some .stage →
            (s.condition ≠ .alarm → exec (.commandSilence x target) s = .next (ignored .silence .notAlarm))
            ∧ (s.condition = .alarm → s.calls.silence = true → exec (.commandSilence x target) s = .next (taken .silence))
            ∧ (s.condition = .alarm → s.calls.silence = false →
                exec (.commandSilence x target) s = .next (report (.silenceChanged true .silence)
                  { taken .silence with calls := { s.calls with silence := true, evacPos := none } })))
        ∧ (roleOf x s = some .foh ∨ roleOf x s = some .stage →
            (m = s.mode → exec (.commandSetMode x target m) s = .next (taken (.setMode m)))
            ∧ (m ≠ s.mode → s.mode = .standby ∨ m = .standby →
                exec (.commandSetMode x target m) s = .next
                  (report (.modeChanged s.mode m x) { taken (.setMode m) with mode := m }))
            ∧ (m ≠ s.mode → s.mode ≠ .standby → m ≠ .standby →
                exec (.commandSetMode x target m) s = .next (report (.modeRefused s.mode m x) (taken (.setMode m))))))

/-- R58, R59, R111, R136, R139, R140, R156, R157, R159: an own zone of the concern block that goes to ALARM takes the house with it, in the
same event: the condition is ALARM, every enabled channel is driven full, calls are flushed and the evacuation tone starts,
and a curtain that is not down or falling is let fall, or is down at the floor. A ZONE frame of a peer that ends the ALARM
cancels every fade, holds the lights at full level and ends the tone and the silence (R140, R159); one that brings
PRE_ALARM pauses the calls, and one that ends it lets them go on (R156). -/
def Obligations.AlarmTakesTheHouse : Prop :=
  (∀ (s : State) (n : Nat) (z : ZoneRecord),
    s.working = true → s.condition ≠ .alarm → s.zones[n]? = some z → z.enabled = true → z.state = .preAlarm →
    z.timer.isSome = true → z.restarted = false → s.concerns z.area = true →
    ∃ t, exec (.t1Expiry n) s = .next t
      ∧ t.condition = .alarm
      ∧ (∀ c ∈ t.lights.channels, c.code = 255)
      ∧ t.calls.evacuation = true ∧ t.calls.silence = false ∧ t.calls.pause = false
      ∧ (s.curtain.state = none → t.calls.queue = [] ∧ t.calls.cadence = .idle ∧ t.calls.chosen = none)
      ∧ t.curtain.state = s.curtain.state.map (fun st =>
          if st = .down ∨ st = .dropping then st else if s.pins.bottomLimit then .down else .dropping)
      ∧ (s.phase = .listen → t.phase = .active))
  ∧ (∀ (s : State) (x i a : Nat) (z : ZoneState),
    HearsPeer x s → PeerLaw s → ConditionLaw s → i ≤ 7 → a ≤ 15 →
    ∃ t, exec (.zoneFrame x i a z) s = .next t
      ∧ (s.condition = .alarm → t.condition ≠ .alarm →
          t.lights.channels = s.lights.channels.map (fun c => { c with
              staged := none, active := none, level := if c.enabled then 1000 else c.level
              code := if c.enabled then outputCode false s.lights.master 1000 else 255 })
          ∧ t.lights.cues = [] ∧ t.lights.master = s.lights.master
          ∧ (if s.lights.sending = none then t.lights.sending = some (t.lights.channels.map (fun c => c.code))
             else t.lights.sending = s.lights.sending ∧ t.lights.pendingTransfer = true)
          ∧ (s.lights.cues ≠ [] → s.panel.reports.length ≤ 24 →
              ⟨s.beat.number, .cuesCancelled s.lights.cues.length⟩ ∈ t.panel.reports)
          ∧ t.calls.evacuation = false ∧ t.calls.evacPos = none ∧ t.calls.silence = false
          ∧ t.calls.pause = (t.condition == .preAlarm) ∧ t.calls.queue = s.calls.queue)
      ∧ (s.condition = .quiet ∨ s.condition = .fault → t.condition = .preAlarm →
          t.calls.pause = true
          ∧ (s.calls.cadence = .playing ∨ s.calls.cadence = .resting → t.calls = { s.calls with pause := true })
          ∧ (s.calls.cadence = .idle ∨ s.calls.cadence = .waitingStart → (∀ e ∈ s.calls.queue, e.key.cls ≠ .safety) →
              t.calls = { s.calls with pause := true, cadence := .idle, chosen := none, wait := none }))
      ∧ (s.condition = .preAlarm → t.condition = .quiet ∨ t.condition = .fault →
          t.calls.pause = false
          ∧ (s.calls.cadence = .idle → t.calls = { s.calls with pause := false, cadence := .resting })
          ∧ (s.calls.cadence = .playing ∨ s.calls.cadence = .resting → t.calls = { s.calls with pause := false })))

/-! ## The panel -/

/-- R162, R163, R166 to R168, R178, R180: a transfer opens with the record that PCS finds, from the holder, the head of the
report queue, or a NONE record of zeros; every record has 64 bytes, sent in order with zero bytes after them. At its
complete end that record is gone, with REPORTS_LOST in the freed place where reports were lost; a void transfer removes
nothing; a transfer cut by a reset, or begun in it, takes no request and sends bytes that are left open (log 32, log 39).
Fewer than 64 bytes clocked in are a void transfer; of more, the first 64 are the request, its kind, its tag and its
arguments at the places of 12 section 12.3. That NONE ends the transfer under way, and that the rows of the table carry
what is read from these bytes, are the model's choices (log 5, log 40). -/
def Obligations.TransferSendsOneRecord : Prop :=
  ∀ s : State,
    (s.resetHeld = false → s.panel.link = .idle →
        exec .transferStart s = .next { s with panel := { s.panel with link :=
          match s.panel.holder, s.panel.reports with
          | some a, _ => .sending .holder a.bytes
          | none, r :: _ => .sending .report r.bytes
          | none, [] => .sending .empty (List.replicate 64 0) } })
    ∧ (s.resetHeld = true → s.panel.link = .idle →
        exec .transferStart s = .next { s with panel := { s.panel with link := .void } })
    ∧ (s.panel.link ≠ .idle → exec .transferStart s = .next s)
    ∧ (∀ (a : Answer) (r : ReportRecord), a.bytes.length = 64 ∧ r.bytes.length = 64)
    ∧ (∀ source bs k, s.panel.link = .sending source bs →
        (∀ b, bs[k]? = some b → s.panel.link.psdo k = some b) ∧ (bs.length ≤ k → s.panel.link.psdo k = some 0))
    ∧ (s.panel.link = .void → ∀ k, (s.panel.link.psdo k).isSome = true)
    ∧ exec .transferVoid s = .next { s with panel := { s.panel with link := .idle } }
    ∧ (s.panel.link = .void → exec .none s = .next { s with panel := { s.panel with link := .idle } })
    ∧ (∀ bs, s.panel.link = .sending .holder bs →
        exec .none s = .next { s with panel := { s.panel with link := .idle, holder := none } })
    ∧ (∀ bs, s.panel.link = .sending .empty bs → exec .none s = .next { s with panel := { s.panel with link := .idle } })
    ∧ (∀ bs r rest, s.panel.link = .sending .report bs → s.panel.reports = r :: rest →
        (rest.length < 31 ∨ s.panel.lost = 0 → exec .none s = .next { s with
          panel := { s.panel with link := .idle, reports := rest, attention := !rest.isEmpty } })
        ∧ (31 ≤ rest.length → 0 < s.panel.lost → exec .none s = .next { s with
          panel := { s.panel with
            link := .idle, reports := rest ++ [⟨s.beat.number, .reportsLost s.panel.lost⟩], lost := 0, attention := true } }))
    ∧ (∀ (keysw moving : Bool) (clocked : List Byte),
        (clocked.length < 64 → transferCommand keysw moving clocked = .transferVoid)
        ∧ (64 ≤ clocked.length → transferCommand keysw moving clocked = readRequest keysw moving (clocked.take 64)))
    ∧ (∀ (keysw moving : Bool) (r : List Byte),
        let b (k : Nat) : Nat := (r.getD k 0).toNat
        let read : Instr := readRequest keysw moving r
        read.wellFormed = true
        ∧ (b 0 = 0 → read = .none)
        ∧ (b 0 = 1 → read = .call (b 1)
            { size := b 2, offset := b 3, pattern := b 4, cls := b 5, repeats := b 6, startKind := b 7, startBeat := b 8
              linkedFlag := b 9, level := 256 * b 10 + b 11, duration := b 12 })
        ∧ (b 0 = 2 → read = .cue (b 1)
            { size := b 2, offset := b 3, level := 256 * b 4 + b 5, duration := b 6, startKind := b 7, startBeat := b 8 })
        ∧ (b 0 = 3 → read = .curtainLower (b 1) (b 2)) ∧ (b 0 = 4 → read = .curtainDrop (b 1) (b 2))
        ∧ (b 0 = 5 → read = .curtainStop (b 1) (b 2)) ∧ (b 0 = 6 → read = .curtainRaiseHold (b 1) (b 2))
        ∧ (b 0 = 7 → read = .ack (b 1) keysw (b 2) (b 3)) ∧ (b 0 = 8 → read = .reset (b 1) keysw (b 2))
        ∧ (b 0 = 9 → read = .silence (b 1) keysw (b 2)) ∧ (b 0 = 10 → read = .isolate (b 1) keysw (b 2) (b 3))
        ∧ (b 0 = 11 → read = .restore (b 1) keysw (b 2) (b 3)) ∧ (b 0 = 12 → read = .setMode (b 1) keysw (b 2) (b 3))
        ∧ (b 0 = 13 → read = .setMaster (b 1) (256 * b 2 + b 3)) ∧ (b 0 = 14 → read = .readZone (b 1) (b 2))
        ∧ (b 0 = 15 → read = .readPeer (b 1) (b 2)) ∧ (b 0 = 16 → read = .readChannel (b 1) (b 2))
        ∧ (b 0 = 17 → read = .readCurtain (b 1) moving) ∧ (b 0 = 18 → read = .readCounters (b 1) (b 2))
        ∧ (b 0 = 19 → read = .readQueue (b 1) (b 2)) ∧ (b 0 = 20 → read = .readBeat (b 1) (b 2))
        ∧ (21 ≤ b 0 → read = .unknownRequest (b 0) (b 1)))

/-- R23, R34, R51, R77, R116, R143, R161, R162, R164: the seven READ requests and a request of unknown kind. Each places its
answer in the holder, with the copy taken before a clear flag acts, and changes nothing else but what the clear flag
names; a number out of range is refused BAD_VALUE. That a request at an idle link is a whole transfer (log 5) is the
model's choice, and that an unknown kind is refused BAD_VALUE in every phase is deduced (log 33). -/
def Obligations.ReadsAnswerWithACopy : Prop :=
  ∀ (s : State) (tag n : Nat) (moving : Bool), PanelFree s →
    let before := recordSent s
    let answered (a : Answer) : State := { before with panel := { before.panel with holder := some a } }
    (∀ z, n ≤ 7 → s.zones[n]? = some z → exec (.readZone tag n) s = .next (answered (.result .readZone tag (.zone z))))
    ∧ (8 ≤ n → exec (.readZone tag n) s = .next (answered (.refused .readZone tag .badValue))
        ∧ exec (.readChannel tag n) s = .next (answered (.refused .readChannel tag .badValue)))
    ∧ (1 ≤ n → n ≤ 31 →
        exec (.readPeer tag n) s = .next (answered (.result .readPeer tag (.peer n (findPeer n s.peers.table)))))
    ∧ (n = 0 ∨ 32 ≤ n → exec (.readPeer tag n) s = .next (answered (.refused .readPeer tag .badValue)))
    ∧ (∀ c, n ≤ 7 → s.lights.channels[n]? = some c →
        exec (.readChannel tag n) s = .next (answered (.result .readChannel tag (.channel
          { channel := c
            stagedCue := c.staged.bind (fun f => s.lights.cues.find? (fun e => e.key == f.cue))
            activeCue := c.active.bind (fun f => s.lights.cues.find? (fun e => e.key == f.cue))
            master := s.lights.master, floor := s.condition == .alarm, entries := s.lights.cues.length }))))
    ∧ (s.curtain.state.isSome = true →
        exec (.readCurtain tag moving) s = .next (answered (.result .readCurtain tag (.curtain (some
          { record := s.curtain, driveReady := s.pins.driveReady, driveMoving := moving, topLimit := s.pins.topLimit
            bottomLimit := s.pins.bottomLimit, fault := s.faults.curtain })))))
    ∧ (s.curtain.state = none → exec (.readCurtain tag moving) s = .next (answered (.result .readCurtain tag (.curtain none))))
    ∧ (∃ a, a = Answer.result .readCounters tag (.counters
          { checkCount := s.line.checkCount, formCount := s.line.formCount, bitCount := s.line.bitCount
            score := s.line.score, good := s.line.good, threshold := s.line.threshold
            lineDegraded := s.faults.lineDegraded, duplicate := s.faults.duplicate, waiting := s.line.tx.length })
        ∧ exec (.readCounters tag 0) s = .next (answered a)
        ∧ (n ≠ 0 → exec (.readCounters tag n) s = .next { answered a with
            line := { s.line with checkCount := 0, formCount := 0, bitCount := 0 } }))
    ∧ (n ≤ 15 → ∃ r, exec (.readQueue tag n) s = .next (answered (.result .readQueue tag (.queue r)))
        ∧ r.entry = s.calls.queue[n]? ∧ r.count = s.calls.queue.length ∧ r.cadence = s.calls.cadence
        ∧ r.pause = s.calls.pause ∧ r.evacuation = s.calls.evacuation ∧ r.silence = s.calls.silence
        ∧ r.wait = s.calls.wait ∧ r.position = s.calls.position ∧ r.evacPos = s.calls.evacPos
        ∧ r.sounders = s.calls.sounders.map (fun o => (o, sounderLevel s o)))
    ∧ (16 ≤ n → exec (.readQueue tag n) s = .next (answered (.refused .readQueue tag .badValue)))
    ∧ exec (.readBeat tag 0) s = .next (answered (.result .readBeat tag (.beat s.beat)))
    ∧ (n ≠ 0 → exec (.readBeat tag n) s = .next
        { answered (.result .readBeat tag (.beat s.beat)) with beat := { s.beat with received := 0 } })
    ∧ (21 ≤ n → exec (.unknownRequest n tag) s = .next (answered (.refused (.unknown n) tag .badValue)))

/-- R38, R115, R142, R160, R162, R164: the CALL, CUE and curtain requests. Each is refused with the first reason that
applies, in the order of its checks, or its frame, with its values aligned and clamped, joins the transmit queue and the
answer is REQUEST_TAKEN; a RAISE_HOLD takes the place of one that waits. That a request at an idle link is a whole
transfer is the model's choice (log 5). -/
def Obligations.FrameRequestsAreJudgedInOrder : Prop :=
  ∀ (s : State) (tag target : Nat) (call : CallArgs) (cue : CueArgs), PanelFree s →
    let before := recordSent s
    let answered (a : Answer) : State := { before with panel := { before.panel with holder := some a } }
    let sends (c : Instr) (k : RequestKind) (f : Payload) : Prop :=
      ∃ q, JoinedByClass f s.line.tx q
        ∧ exec c s = .next { answered (.taken k tag) with line := { s.line with tx := q } }
    let refuses (c : Instr) (k : RequestKind) (r : RefusalReason) : Prop := exec c s = .next (answered (.refused k tag r))
    let curtainRefuses (r : RefusalReason) : Prop :=
      refuses (.curtainStop tag target) .curtainStop r ∧ refuses (.curtainRaiseHold tag target) .curtainRaiseHold r
    let allRefuse (r : RefusalReason) : Prop :=
      refuses (.call tag call) .call r ∧ refuses (.cue tag cue) .cue r
      ∧ refuses (.curtainLower tag target) .curtainLower r ∧ refuses (.curtainDrop tag target) .curtainDrop r
      ∧ curtainRefuses r
    let ordered : Prop := inClassOrder s.line.tx = true
    let room : Prop := s.line.tx.length < 8
    let mayDrop : Prop := s.cfg.role = .stage ∨ s.cfg.role = .fire ∨ s.cfg.role = .curtain
    let holdWaits : Prop := ∃ g ∈ s.line.tx, ∃ y, g = .curtain .raiseHold y
    (s.phase = .unconfigured → allRefuse .unconfigured)
    ∧ (s.phase = .configRead ∨ s.phase = .listen → allRefuse .notReady)
    ∧ (s.phase = .active →
        (∀ start, Start.ofCodes cue.startKind cue.startBeat = some start →
            AreaBlock.named ⟨cue.size, cue.offset⟩ = true →
            (ordered → room → sends (.cue tag cue) .cue
              (.cue ⟨cue.size, cue.offset - cue.offset % cue.size⟩ (min 1000 cue.level) (min 240 cue.duration) start))
            ∧ (¬room → refuses (.cue tag cue) .cue .txFull))
        ∧ (Start.ofCodes cue.startKind cue.startBeat = none ∨ AreaBlock.named ⟨cue.size, cue.offset⟩ = false →
            refuses (.cue tag cue) .cue .badValue)
        ∧ (CallClass.ofCode call.cls = none ∨ Start.ofCodes call.startKind call.startBeat = none
            ∨ AreaBlock.named ⟨call.size, call.offset⟩ = false ∨ 8 ≤ call.pattern ∨ 2 ≤ call.linkedFlag →
            refuses (.call tag call) .call .badValue)
        ∧ (∀ cls start, CallClass.ofCode call.cls = some cls → Start.ofCodes call.startKind call.startBeat = some start →
            AreaBlock.named ⟨call.size, call.offset⟩ = true → call.pattern ≤ 7 → call.linkedFlag ≤ 1 →
            (s.mode = .standby → refuses (.call tag call) .call .wrongMode)
            ∧ (s.mode ≠ .standby → s.condition = .alarm → refuses (.call tag call) .call .condition)
            ∧ (s.mode ≠ .standby → s.condition ≠ .alarm → ¬room → refuses (.call tag call) .call .txFull)
            ∧ (s.mode ≠ .standby → s.condition ≠ .alarm → ordered → room →
                sends (.call tag call) .call
                  (.call ⟨call.size, call.offset - call.offset % call.size⟩ call.pattern cls (max 1 (min 16 call.repeats)) start
                    (if call.linkedFlag = 1 then
                      some { level := min 1000 call.level, duration := min 240 call.duration } else none))))
        ∧ (1 ≤ target → target ≤ 31 → ordered → room →
            sends (.curtainLower tag target) .curtainLower (.curtain .lower target)
            ∧ (mayDrop → sends (.curtainDrop tag target) .curtainDrop (.curtain .drop target))
            ∧ (s.cfg.role = .stage → sends (.curtainStop tag target) .curtainStop (.curtain .stop target))
            ∧ (s.cfg.role = .stage → satisfied s.peers.table target = true → ¬holdWaits →
                sends (.curtainRaiseHold tag target) .curtainRaiseHold (.curtain .raiseHold target)))
        ∧ (1 ≤ target → target ≤ 31 → ¬room →
            refuses (.curtainLower tag target) .curtainLower .txFull
            ∧ (mayDrop → refuses (.curtainDrop tag target) .curtainDrop .txFull)
            ∧ (s.cfg.role = .stage → refuses (.curtainStop tag target) .curtainStop .txFull)
            ∧ (s.cfg.role = .stage → satisfied s.peers.table target = true → ¬holdWaits →
                refuses (.curtainRaiseHold tag target) .curtainRaiseHold .txFull))
        ∧ (1 ≤ target → target ≤ 31 → s.cfg.role = .stage →
            (satisfied s.peers.table target = false →
                refuses (.curtainRaiseHold tag target) .curtainRaiseHold .notPresent)
            ∧ (satisfied s.peers.table target = true → holdWaits →
                exec (.curtainRaiseHold tag target) s = .next { answered (.taken .curtainRaiseHold tag) with
                  line := { s.line with tx := s.line.tx.map (fun g =>
                    match g with | .curtain .raiseHold _ => .curtain .raiseHold target | g => g) } }))
        ∧ (target = 0 ∨ 32 ≤ target →
            refuses (.curtainLower tag target) .curtainLower .badValue
            ∧ (mayDrop → refuses (.curtainDrop tag target) .curtainDrop .badValue)
            ∧ (s.cfg.role = .stage → curtainRefuses .badValue))
        ∧ (s.cfg.role ≠ .stage → curtainRefuses .noAuthority)
        ∧ (¬mayDrop → refuses (.curtainDrop tag target) .curtainDrop .noAuthority))

/-- R81, R89, R91, R164: a command request for another station, SET_MODE for any, and SILENCE for any, the own in ALARM
alone, sends its COMMAND frame in ACTIVE with the key switch on and a role that may give it. Before that it is refused
with the first reason that applies: the phase, the key switch or the role, a value out of range, a SILENCE of the own
station outside ALARM, LISTEN, and a full transmit queue. That a request at an idle link is a whole transfer is the
model's choice (log 5). -/
def Obligations.CommandRequestsSendTheirFrame : Prop :=
  ∀ (s : State) (tag target zone : Nat) (m : Mode) (key : Bool), PanelFree s →
    let before := recordSent s
    let answered (a : Answer) : State := { before with panel := { before.panel with holder := some a } }
    let sends (c : Instr) (k : RequestKind) (cmd : Command) : Prop :=
      ∃ q, JoinedByClass (.command cmd target) s.line.tx q
        ∧ exec c s = .next { answered (.taken k tag) with line := { s.line with tx := q } }
    let refuses (c : Instr) (k : RequestKind) (r : RefusalReason) : Prop := exec c s = .next (answered (.refused k tag r))
    let mayCommand : Prop := s.cfg.role = .fire ∨ s.cfg.role = .foh ∨ s.cfg.role = .stage
    let maySetMode : Prop := s.cfg.role = .foh ∨ s.cfg.role = .stage
    let zoneRefuse (key : Bool) (r : RefusalReason) : Prop :=
      refuses (.ack tag key target zone) .ack r ∧ refuses (.reset tag key target) .reset r
      ∧ refuses (.isolate tag key target zone) .isolate r ∧ refuses (.restore tag key target zone) .restore r
    let silenceRefuses (key : Bool) (r : RefusalReason) : Prop := refuses (.silence tag key target) .silence r
    let modeRefuses (key : Bool) (r : RefusalReason) : Prop := refuses (.setMode tag key target m.code) .setMode r
    let mayLeave (r : RefusalReason) : Prop :=
      (mayCommand → target ≠ s.cfg.station → zone ≤ 7 → zoneRefuse true r)
      ∧ (mayCommand → target ≠ s.cfg.station ∨ s.condition = .alarm → silenceRefuses true r)
      ∧ (maySetMode → modeRefuses true r)
    (s.phase = .active → inClassOrder s.line.tx = true → s.line.tx.length < 8 → target ≤ 31 →
        (mayCommand → target ≠ s.cfg.station →
          (zone ≤ 8 → sends (.ack tag true target zone) .ack (.ack zone))
          ∧ sends (.reset tag true target) .reset .reset
          ∧ (zone ≤ 7 → sends (.isolate tag true target zone) .isolate (.isolate zone)
              ∧ sends (.restore tag true target zone) .restore (.restore zone)))
        ∧ (mayCommand → target ≠ s.cfg.station ∨ s.condition = .alarm → sends (.silence tag true target) .silence .silence)
        ∧ (maySetMode → sends (.setMode tag true target m.code) .setMode (.setMode m)))
    ∧ (s.phase = .active → 8 ≤ s.line.tx.length → target ≤ 31 → mayLeave .txFull)
    ∧ (s.phase = .listen → target ≤ 31 → mayLeave .notReady)
    ∧ (s.phase = .unconfigured →
        zoneRefuse key .unconfigured ∧ silenceRefuses key .unconfigured ∧ modeRefuses key .unconfigured)
    ∧ (s.phase = .configRead → zoneRefuse key .notReady ∧ silenceRefuses key .notReady ∧ modeRefuses key .notReady)
    ∧ (s.working = true →
        (key = false ∨ ¬mayCommand → zoneRefuse key .noAuthority ∧ silenceRefuses key .noAuthority)
        ∧ (key = false ∨ ¬maySetMode → modeRefuses key .noAuthority)
        ∧ (mayCommand →
            (9 ≤ zone ∨ 32 ≤ target → refuses (.ack tag true target zone) .ack .badValue)
            ∧ (8 ≤ zone ∨ 32 ≤ target → refuses (.isolate tag true target zone) .isolate .badValue
                ∧ refuses (.restore tag true target zone) .restore .badValue)
            ∧ (32 ≤ target → refuses (.reset tag true target) .reset .badValue ∧ silenceRefuses true .badValue)
            ∧ (target = s.cfg.station → target ≤ 31 → s.condition ≠ .alarm → silenceRefuses true .condition))
        ∧ (maySetMode →
            (4 ≤ zone ∨ 32 ≤ target → refuses (.setMode tag true target zone) .setMode .badValue)))

/-- R18, R19, R21, R22, R82 to R84, R87, R90: an ACK, ISOLATE, RESTORE or RESET request that names the own station, from a
role that may give it with the key switch on, is carried out at once, in LISTEN too, reported first as taken, and
answered. An ACK for all zones does to the only zone in PRE_ALARM what an ACK of that zone does. That a request at an idle
link is a whole transfer is the model's choice (log 5). -/
def Obligations.LocalCommandsActAtOnce : Prop :=
  ∀ (s : State) (tag n : Nat) (z : ZoneRecord),
    PanelFree s → PeerLaw s → s.working = true → s.cfg.role = .fire ∨ s.cfg.role = .foh ∨ s.cfg.role = .stage →
    s.cfg.station ≤ 31 → n ≤ 7 → s.zones[n]? = some z → z.enabled = true →
    let own := s.cfg.station
    let done (c : Instr) (k : RequestKind) (cmd : Command) (t : State) : Prop :=
      exec c s = .next t ∧ t.panel.holder = some (.taken k tag) ∧ ZoneFrame s t
        ∧ FirstReport (recordSent s) (.commandTaken cmd own own true) t
    let acked : ZoneRecord :=
      if z.t2 = 0 then { z with state := .alarm, timer := none, restarted := false }
      else { z with state := .investigating, timer := some z.t2, restarted := false }
    let others : Prop := ∀ m y, m ≠ n → s.zones[m]? = some y → y.enabled = true → y.state ≠ .preAlarm
    (∃ t, done (.ack tag true own n) .ack (.ack n) t
      ∧ (z.state = .preAlarm → ZonesAfter s n acked t)
      ∧ (z.state ≠ .preAlarm → t.zones = s.zones))
    ∧ (∃ t, done (.ack tag true own 8) .ack (.ack 8) t
      ∧ (z.state = .preAlarm → others → ZonesAfter s n acked t)
      ∧ (z.state ≠ .preAlarm → others → t.zones = s.zones))
    ∧ (∃ t, done (.isolate tag true own n) .isolate (.isolate n) t
      ∧ (z.state ≠ .alarm → z.state ≠ .isolated →
          t.zones = s.zones.set n { z with state := .isolated, timer := none, restarted := false })
      ∧ (z.state = .alarm ∨ z.state = .isolated → t.zones = s.zones))
    ∧ (∃ t, done (.restore tag true own n) .restore (.restore n) t
      ∧ (z.state = .isolated → t.zones = s.zones.set n
          { z with state := .quiet, timer := none, history := [], reading := none, faultScore := 0, restarted := false })
      ∧ (z.state ≠ .isolated → t.zones = s.zones))
    ∧ (∃ t, done (.reset tag true own) .reset .reset t
      ∧ t.calls.silence = false
      ∧ t.peers.table = s.peers.table.filter (fun e => e.liveness != .lost)
      ∧ (∀ (m : Nat) (y : ZoneRecord), s.zones[m]? = some y → ResetOutcome s m y t))

/-! ## Invariants -/

/-- The laws of the device hold right after a device reset. -/
def Obligations.LawsHoldAtReset : Prop := DeviceLaws State.reset

/-- R1, R34 to R37, R42, R43, R45, R62, R166, R167, R169, R171, R172: every step keeps the laws of the configuration,
the line, the peer table, the zones, the beat and the report queue. The marks of RestLaw, those of an overtaken
expiry and of a restarted T1, are the model's own (log 21, log 38, log 43). -/
def Obligations.StepKeepsLineAndRecords : Prop :=
  ∀ s t : State, DeviceLaws s → step s = .next t →
    ConfigLaw t ∧ FreshLaw t ∧ RestLaw t ∧ ScoreLaw t ∧ TxLaw t ∧ SilentLaw t ∧ PeerLaw t ∧ LivenessLaw t ∧ ZoneLaw t
      ∧ BeatLaw t ∧ ReportLaw t

/-- R58, R59: after every step the effective condition is the one its inputs give. -/
def Obligations.StepKeepsTheCondition : Prop :=
  ∀ s t : State, DeviceLaws s → step s = .next t → ConditionLaw t

/-- R93, R94, R105, R108, R109, R111, R117: every step keeps the laws of the curtain: the two drive outputs are never on
together nor with the brake released, a hold stands only in a raise, a raise only under QUIET or FAULT, and the curtain
enters RAISING from WARN_RAISE alone and LOWERING from WARN_LOWER alone. That the mark of a stall stands in JAMMED alone is
the model's own law (log 36). -/
def Obligations.StepKeepsTheCurtain : Prop :=
  ∀ s t : State, DeviceLaws s → step s = .next t →
    OutputsLaw t ∧ HoldLaw t ∧ HandshakeLaw t ∧ RaiseLaw t ∧ DescentLaw t ∧ StallLaw t
      ∧ ¬(t.curtain.out.raise = true ∧ t.curtain.out.lower = true)
      ∧ (t.curtain.out.raise = true ∨ t.curtain.out.lower = true → t.curtain.out.brake = true)
      ∧ (t.curtain.state = some .raising → s.curtain.state = some .raising ∨ s.curtain.state = some .warnRaise)
      ∧ (t.curtain.state = some .lowering → s.curtain.state = some .lowering ∨ s.curtain.state = some .warnLower)

/-- R126, R127, R133, R134, R136, R137: every step keeps the laws of the lights: levels within 0..1000 and within a running fade,
the codes of R136, 255 on every channel in ALARM, one transfer with the codes that stand, a cue table that holds exactly
the cues of the fades, and one wait for the staged fades of a cue. -/
def Obligations.StepKeepsTheLights : Prop :=
  ∀ s t : State, DeviceLaws s → step s = .next t → LightLaw t ∧ CodeLaw t ∧ TransferLaw t ∧ CueLaw t

/-- R144, R147, R156 to R158: every step keeps the laws of the Call Unit: the call queue in order without equals, its
flags with the condition, and what each cadence state has. The law of R157 is stated for a station without a curtain
(log 30). -/
def Obligations.StepKeepsTheCalls : Prop :=
  ∀ s t : State, DeviceLaws s → step s = .next t →
    CallQueueLaw t ∧ CallFlagLaw t ∧ CadenceLaw t ∧ AlarmQueueLaw t
end

