-- ==== Sys2Proof/Laws/Exec.lean ====
section
/-! SUPPORT. What each arm of `exec` answers, by the shared operation its meaning calls: one lemma a row. -/

namespace Sys2Proof.Machine

variable (s : State)

@[simp] theorem exec_deviceReset :
    exec (.deviceReset) s = .next (deviceReset s) := rfl

@[simp] theorem exec_resetRelease :
    exec (.resetRelease) s = .next (s.setResetHeld false) := rfl

@[simp] theorem exec_configReadDone (read : ConfigRead) (pins : CurtainPins) :
    exec (.configReadDone read pins) s = .next (endConfigRead read pins s) := rfl

@[simp] theorem exec_listenEnd :
    exec (.listenEnd) s = .next (endListen s) := rfl

@[simp] theorem exec_sampleEvent (inputs : SampleInputs) :
    exec (.sampleEvent inputs) s = .next (whileWorking (sampleEvent inputs) s) := rfl

@[simp] theorem exec_t1Expiry (n : Nat) :
    exec (.t1Expiry n) s = .next (whileWorking (expireFrom .preAlarm n) s) := rfl

@[simp] theorem exec_t2Expiry (n : Nat) :
    exec (.t2Expiry n) s = .next (whileWorking (expireFrom .investigating n) s) := rfl

@[simp] theorem exec_beatExpiry :
    exec (.beatExpiry) s = .next (whileWorking beatDue s) := rfl

@[simp] theorem exec_fadeStep :
    exec (.fadeStep) s = .next (whileWorking fadeStepDue s) := rfl

@[simp] theorem exec_fadeComplete (n : Nat) :
    exec (.fadeComplete n) s = .next (whileWorking (completeFade n) s) := rfl

@[simp] theorem exec_dimmerTransferEnd :
    exec (.dimmerTransferEnd) s = .next (if s.resetHeld then s else s.setLights (endTransfer s.lights)) := rfl

@[simp] theorem exec_peerLivenessChange (n : Nat) :
    exec (.peerLivenessChange n) s = .next (whileWorking (ageToThreshold n) s) := rfl

@[simp] theorem exec_alone :
    exec (.alone) s = .next (aloneDue s) := rfl

@[simp] theorem exec_statusInterval :
    exec (.statusInterval) s = .next (statusDue s) := rfl

@[simp] theorem exec_cadencePhase :
    exec (.cadencePhase) s = .next (whileWorking cadencePhase s) := rfl

@[simp] theorem exec_repetitionEnd :
    exec (.repetitionEnd) s = .next (whileWorking endRepetition s) := rfl

@[simp] theorem exec_evacuationPhase :
    exec (.evacuationPhase) s = .next (whileWorking evacuationPhase s) := rfl

@[simp] theorem exec_holdLapse :
    exec (.holdLapse) s = .next (whileWorking holdDue s) := rfl

@[simp] theorem exec_encoderCount (up : Bool) :
    exec (.encoderCount up) s = .next (whileWorking (encoderCount up) s) := rfl

@[simp] theorem exec_bottomLimit (active : Bool) :
    exec (.bottomLimit active) s = .next (whileWorking (bottomLimit active) s) := rfl

@[simp] theorem exec_topLimit (active : Bool) :
    exec (.topLimit active) s = .next (whileWorking (topLimit active) s) := rfl

@[simp] theorem exec_driveReadyLost (ready : Bool) :
    exec (.driveReadyLost ready) s = .next (whileWorking (driveReadyChange ready) s) := rfl

@[simp] theorem exec_startTimeout :
    exec (.startTimeout) s = .next (whileWorking startDue s) := rfl

@[simp] theorem exec_stopTimeout :
    exec (.stopTimeout) s = .next (whileWorking stopDue s) := rfl

@[simp] theorem exec_descentStalled :
    exec (.descentStalled) s = .next (whileWorking stallNow s) := rfl

@[simp] theorem exec_txStart :
    exec (.txStart) s = .next (beginFrame s) := rfl

@[simp] theorem exec_arbitrationLost :
    exec (.arbitrationLost) s = .next (loseArbitration s) := rfl

@[simp] theorem exec_bitError :
    exec (.bitError) s = .next (abandonFrame s) := rfl

@[simp] theorem exec_frameSent :
    exec (.frameSent) s = .next (reflectFrame s) := rfl

@[simp] theorem exec_rxFrameError (bytes : List Byte) (endViolated : Bool) :
    exec (.rxFrameError bytes endViolated) s = .next (receiveBytes bytes endViolated s) := rfl

@[simp] theorem exec_zoneFrame (sender zone area : Nat) (state : ZoneState) :
    exec (.zoneFrame sender zone area state) s = .next (receive { sender := sender, payload := .zone zone area state } s) := rfl

@[simp] theorem exec_statusFrame (sender : Nat) (role : Role) (mode : Mode) (faults : FaultSet) (curtain : Option (CurtainState × Nat)) (zones : List PeerZone) :
    exec (.statusFrame sender role mode faults curtain zones) s = .next (receive { sender := sender, payload := .status role mode faults curtain zones } s) := rfl

@[simp] theorem exec_beatFrame (sender : Nat) (number : BitVec 8) :
    exec (.beatFrame sender number) s = .next (receive { sender := sender, payload := .beat number } s) := rfl

@[simp] theorem exec_commandAck (sender target zone : Nat) :
    exec (.commandAck sender target zone) s = .next (receive { sender := sender, payload := .command (.ack zone) target } s) := rfl

@[simp] theorem exec_commandReset (sender target : Nat) :
    exec (.commandReset sender target) s = .next (receive { sender := sender, payload := .command .reset target } s) := rfl

@[simp] theorem exec_commandSilence (sender target : Nat) :
    exec (.commandSilence sender target) s = .next (receive { sender := sender, payload := .command .silence target } s) := rfl

@[simp] theorem exec_commandIsolate (sender target zone : Nat) :
    exec (.commandIsolate sender target zone) s = .next (receive { sender := sender, payload := .command (.isolate zone) target } s) := rfl

@[simp] theorem exec_commandRestore (sender target zone : Nat) :
    exec (.commandRestore sender target zone) s = .next (receive { sender := sender, payload := .command (.restore zone) target } s) := rfl

@[simp] theorem exec_commandSetMode (sender target : Nat) (mode : Mode) :
    exec (.commandSetMode sender target mode) s = .next (receive { sender := sender, payload := .command (.setMode mode) target } s) := rfl

@[simp] theorem exec_curtainLowerFrame (sender target : Nat) :
    exec (.curtainLowerFrame sender target) s = .next (receive { sender := sender, payload := .curtain .lower target } s) := rfl

@[simp] theorem exec_curtainDropFrame (sender target : Nat) :
    exec (.curtainDropFrame sender target) s = .next (receive { sender := sender, payload := .curtain .drop target } s) := rfl

@[simp] theorem exec_curtainStopFrame (sender target : Nat) :
    exec (.curtainStopFrame sender target) s = .next (receive { sender := sender, payload := .curtain .stop target } s) := rfl

@[simp] theorem exec_curtainRaiseHoldFrame (sender target : Nat) :
    exec (.curtainRaiseHoldFrame sender target) s = .next (receive { sender := sender, payload := .curtain .raiseHold target } s) := rfl

@[simp] theorem exec_curtainStateFrame (sender target : Nat) (state : CurtainState) (pos : Nat) :
    exec (.curtainStateFrame sender target state pos) s = .next (receive { sender := sender, payload := .curtainState target state pos } s) := rfl

@[simp] theorem exec_cueFrame (sender : Nat) (block : AreaBlock) (level duration : Nat) (start : Start) :
    exec (.cueFrame sender block level duration start) s = .next (receive { sender := sender, payload := .cue block level duration start } s) := rfl

@[simp] theorem exec_callFrame (sender : Nat) (block : AreaBlock) (pattern : Nat) (cls : CallClass) (repeats : Nat) (start : Start) (linked : Option LinkedCue) :
    exec (.callFrame sender block pattern cls repeats start linked) s = .next (receive { sender := sender, payload := .call block pattern cls repeats start linked } s) := rfl

@[simp] theorem exec_transferStart :
    exec (.transferStart) s = .next (beginTransfer s) := rfl

@[simp] theorem exec_transferVoid :
    exec (.transferVoid) s = .next (voidTransfer s) := rfl

@[simp] theorem exec_none :
    exec (.none) s = .next (completeTransfer id s) := rfl

@[simp] theorem exec_unknownRequest (kind tag : Nat) :
    exec (.unknownRequest kind tag) s = .next (completeTransfer (refuse (.unknown kind) tag .badValue) s) := rfl

@[simp] theorem exec_call (tag : Nat) (args : CallArgs) :
    exec (.call tag args) s = .next (completeTransfer (callRequest tag args) s) := rfl

@[simp] theorem exec_cue (tag : Nat) (args : CueArgs) :
    exec (.cue tag args) s = .next (completeTransfer (cueRequest tag args) s) := rfl

@[simp] theorem exec_curtainLower (tag target : Nat) :
    exec (.curtainLower tag target) s = .next (completeTransfer (curtainRequest .curtainLower tag .lower target) s) := rfl

@[simp] theorem exec_curtainDrop (tag target : Nat) :
    exec (.curtainDrop tag target) s = .next (completeTransfer (curtainRequest .curtainDrop tag .drop target) s) := rfl

@[simp] theorem exec_curtainStop (tag target : Nat) :
    exec (.curtainStop tag target) s = .next (completeTransfer (curtainRequest .curtainStop tag .stop target) s) := rfl

@[simp] theorem exec_curtainRaiseHold (tag target : Nat) :
    exec (.curtainRaiseHold tag target) s = .next (completeTransfer (curtainRequest .curtainRaiseHold tag .raiseHold target) s) := rfl

@[simp] theorem exec_ack (tag : Nat) (keysw : Bool) (target zone : Nat) :
    exec (.ack tag keysw target zone) s = .next (completeTransfer (commandRequest .ack tag keysw (decide (zone ≤ 8)) (.ack zone) target) s) := rfl

@[simp] theorem exec_reset (tag : Nat) (keysw : Bool) (target : Nat) :
    exec (.reset tag keysw target) s = .next (completeTransfer (commandRequest .reset tag keysw true .reset target) s) := rfl

@[simp] theorem exec_silence (tag : Nat) (keysw : Bool) (target : Nat) :
    exec (.silence tag keysw target) s = .next (completeTransfer (commandRequest .silence tag keysw true .silence target) s) := rfl

@[simp] theorem exec_isolate (tag : Nat) (keysw : Bool) (target zone : Nat) :
    exec (.isolate tag keysw target zone) s = .next (completeTransfer (commandRequest .isolate tag keysw (decide (zone ≤ 7)) (.isolate zone) target) s) := rfl

@[simp] theorem exec_restore (tag : Nat) (keysw : Bool) (target zone : Nat) :
    exec (.restore tag keysw target zone) s = .next (completeTransfer (commandRequest .restore tag keysw (decide (zone ≤ 7)) (.restore zone) target) s) := rfl

@[simp] theorem exec_setMode (tag : Nat) (keysw : Bool) (target mode : Nat) :
    exec (.setMode tag keysw target mode) s = .next (completeTransfer (setModeRequest tag keysw target mode) s) := rfl

@[simp] theorem exec_setMaster (tag value : Nat) :
    exec (.setMaster tag value) s = .next (completeTransfer (setMasterRequest tag value) s) := rfl

@[simp] theorem exec_readZone (tag zone : Nat) :
    exec (.readZone tag zone) s = .next (completeTransfer (readZone tag zone) s) := rfl

@[simp] theorem exec_readPeer (tag station : Nat) :
    exec (.readPeer tag station) s = .next (completeTransfer (readPeer tag station) s) := rfl

@[simp] theorem exec_readChannel (tag channel : Nat) :
    exec (.readChannel tag channel) s = .next (completeTransfer (readChannel tag channel) s) := rfl

@[simp] theorem exec_readCurtain (tag : Nat) (driveMoving : Bool) :
    exec (.readCurtain tag driveMoving) s = .next (completeTransfer (readCurtainRequest tag driveMoving) s) := rfl

@[simp] theorem exec_readCounters (tag clearFlag : Nat) :
    exec (.readCounters tag clearFlag) s = .next (completeTransfer (readCounters tag clearFlag) s) := rfl

@[simp] theorem exec_readQueue (tag position : Nat) :
    exec (.readQueue tag position) s = .next (completeTransfer (readQueue tag position) s) := rfl

@[simp] theorem exec_readBeat (tag clearFlag : Nat) :
    exec (.readBeat tag clearFlag) s = .next (completeTransfer (readBeat tag clearFlag) s) := rfl

end Sys2Proof.Machine
end

