-- ==== Sys2Proof/Laws/State.lean ====
section
/-! SUPPORT. One lemma for each field and each named update of State, true by rfl; the same for the small named updates of
the blocks. -/

namespace Sys2Proof.Machine

variable (s : State)

/-! ### setPhase -/

@[simp] theorem setPhase_phase (x : Phase) : (s.setPhase x).phase = x := rfl
@[simp] theorem setPhase_mode (x : Phase) : (s.setPhase x).mode = s.mode := rfl
@[simp] theorem setPhase_config (x : Phase) : (s.setPhase x).config = s.config := rfl
@[simp] theorem setPhase_listenCount (x : Phase) : (s.setPhase x).listenCount = s.listenCount := rfl
@[simp] theorem setPhase_clampCount (x : Phase) : (s.setPhase x).clampCount = s.clampCount := rfl
@[simp] theorem setPhase_resetHeld (x : Phase) : (s.setPhase x).resetHeld = s.resetHeld := rfl
@[simp] theorem setPhase_line (x : Phase) : (s.setPhase x).line = s.line := rfl
@[simp] theorem setPhase_peers (x : Phase) : (s.setPhase x).peers = s.peers := rfl
@[simp] theorem setPhase_condition (x : Phase) : (s.setPhase x).condition = s.condition := rfl
@[simp] theorem setPhase_faults (x : Phase) : (s.setPhase x).faults = s.faults := rfl
@[simp] theorem setPhase_beat (x : Phase) : (s.setPhase x).beat = s.beat := rfl
@[simp] theorem setPhase_zones (x : Phase) : (s.setPhase x).zones = s.zones := rfl
@[simp] theorem setPhase_curtain (x : Phase) : (s.setPhase x).curtain = s.curtain := rfl
@[simp] theorem setPhase_pins (x : Phase) : (s.setPhase x).pins = s.pins := rfl
@[simp] theorem setPhase_lights (x : Phase) : (s.setPhase x).lights = s.lights := rfl
@[simp] theorem setPhase_calls (x : Phase) : (s.setPhase x).calls = s.calls := rfl
@[simp] theorem setPhase_panel (x : Phase) : (s.setPhase x).panel = s.panel := rfl
@[simp] theorem setPhase_boundaryUnderway (x : Phase) : (s.setPhase x).boundaryUnderway = s.boundaryUnderway := rfl
@[simp] theorem setPhase_placementHeld (x : Phase) : (s.setPhase x).placementHeld = s.placementHeld := rfl
@[simp] theorem setPhase_pending (x : Phase) : (s.setPhase x).pending = s.pending := rfl

/-! ### setMode -/

@[simp] theorem setMode_phase (x : Mode) : (s.setMode x).phase = s.phase := rfl
@[simp] theorem setMode_mode (x : Mode) : (s.setMode x).mode = x := rfl
@[simp] theorem setMode_config (x : Mode) : (s.setMode x).config = s.config := rfl
@[simp] theorem setMode_listenCount (x : Mode) : (s.setMode x).listenCount = s.listenCount := rfl
@[simp] theorem setMode_clampCount (x : Mode) : (s.setMode x).clampCount = s.clampCount := rfl
@[simp] theorem setMode_resetHeld (x : Mode) : (s.setMode x).resetHeld = s.resetHeld := rfl
@[simp] theorem setMode_line (x : Mode) : (s.setMode x).line = s.line := rfl
@[simp] theorem setMode_peers (x : Mode) : (s.setMode x).peers = s.peers := rfl
@[simp] theorem setMode_condition (x : Mode) : (s.setMode x).condition = s.condition := rfl
@[simp] theorem setMode_faults (x : Mode) : (s.setMode x).faults = s.faults := rfl
@[simp] theorem setMode_beat (x : Mode) : (s.setMode x).beat = s.beat := rfl
@[simp] theorem setMode_zones (x : Mode) : (s.setMode x).zones = s.zones := rfl
@[simp] theorem setMode_curtain (x : Mode) : (s.setMode x).curtain = s.curtain := rfl
@[simp] theorem setMode_pins (x : Mode) : (s.setMode x).pins = s.pins := rfl
@[simp] theorem setMode_lights (x : Mode) : (s.setMode x).lights = s.lights := rfl
@[simp] theorem setMode_calls (x : Mode) : (s.setMode x).calls = s.calls := rfl
@[simp] theorem setMode_panel (x : Mode) : (s.setMode x).panel = s.panel := rfl
@[simp] theorem setMode_boundaryUnderway (x : Mode) : (s.setMode x).boundaryUnderway = s.boundaryUnderway := rfl
@[simp] theorem setMode_placementHeld (x : Mode) : (s.setMode x).placementHeld = s.placementHeld := rfl
@[simp] theorem setMode_pending (x : Mode) : (s.setMode x).pending = s.pending := rfl

/-! ### setConfig -/

@[simp] theorem setConfig_phase (x : Option ConfigRecord) : (s.setConfig x).phase = s.phase := rfl
@[simp] theorem setConfig_mode (x : Option ConfigRecord) : (s.setConfig x).mode = s.mode := rfl
@[simp] theorem setConfig_config (x : Option ConfigRecord) : (s.setConfig x).config = x := rfl
@[simp] theorem setConfig_listenCount (x : Option ConfigRecord) : (s.setConfig x).listenCount = s.listenCount := rfl
@[simp] theorem setConfig_clampCount (x : Option ConfigRecord) : (s.setConfig x).clampCount = s.clampCount := rfl
@[simp] theorem setConfig_resetHeld (x : Option ConfigRecord) : (s.setConfig x).resetHeld = s.resetHeld := rfl
@[simp] theorem setConfig_line (x : Option ConfigRecord) : (s.setConfig x).line = s.line := rfl
@[simp] theorem setConfig_peers (x : Option ConfigRecord) : (s.setConfig x).peers = s.peers := rfl
@[simp] theorem setConfig_condition (x : Option ConfigRecord) : (s.setConfig x).condition = s.condition := rfl
@[simp] theorem setConfig_faults (x : Option ConfigRecord) : (s.setConfig x).faults = s.faults := rfl
@[simp] theorem setConfig_beat (x : Option ConfigRecord) : (s.setConfig x).beat = s.beat := rfl
@[simp] theorem setConfig_zones (x : Option ConfigRecord) : (s.setConfig x).zones = s.zones := rfl
@[simp] theorem setConfig_curtain (x : Option ConfigRecord) : (s.setConfig x).curtain = s.curtain := rfl
@[simp] theorem setConfig_pins (x : Option ConfigRecord) : (s.setConfig x).pins = s.pins := rfl
@[simp] theorem setConfig_lights (x : Option ConfigRecord) : (s.setConfig x).lights = s.lights := rfl
@[simp] theorem setConfig_calls (x : Option ConfigRecord) : (s.setConfig x).calls = s.calls := rfl
@[simp] theorem setConfig_panel (x : Option ConfigRecord) : (s.setConfig x).panel = s.panel := rfl
@[simp] theorem setConfig_boundaryUnderway (x : Option ConfigRecord) : (s.setConfig x).boundaryUnderway = s.boundaryUnderway := rfl
@[simp] theorem setConfig_placementHeld (x : Option ConfigRecord) : (s.setConfig x).placementHeld = s.placementHeld := rfl
@[simp] theorem setConfig_pending (x : Option ConfigRecord) : (s.setConfig x).pending = s.pending := rfl

/-! ### setListenCount -/

@[simp] theorem setListenCount_phase (x : Nat) : (s.setListenCount x).phase = s.phase := rfl
@[simp] theorem setListenCount_mode (x : Nat) : (s.setListenCount x).mode = s.mode := rfl
@[simp] theorem setListenCount_config (x : Nat) : (s.setListenCount x).config = s.config := rfl
@[simp] theorem setListenCount_listenCount (x : Nat) : (s.setListenCount x).listenCount = x := rfl
@[simp] theorem setListenCount_clampCount (x : Nat) : (s.setListenCount x).clampCount = s.clampCount := rfl
@[simp] theorem setListenCount_resetHeld (x : Nat) : (s.setListenCount x).resetHeld = s.resetHeld := rfl
@[simp] theorem setListenCount_line (x : Nat) : (s.setListenCount x).line = s.line := rfl
@[simp] theorem setListenCount_peers (x : Nat) : (s.setListenCount x).peers = s.peers := rfl
@[simp] theorem setListenCount_condition (x : Nat) : (s.setListenCount x).condition = s.condition := rfl
@[simp] theorem setListenCount_faults (x : Nat) : (s.setListenCount x).faults = s.faults := rfl
@[simp] theorem setListenCount_beat (x : Nat) : (s.setListenCount x).beat = s.beat := rfl
@[simp] theorem setListenCount_zones (x : Nat) : (s.setListenCount x).zones = s.zones := rfl
@[simp] theorem setListenCount_curtain (x : Nat) : (s.setListenCount x).curtain = s.curtain := rfl
@[simp] theorem setListenCount_pins (x : Nat) : (s.setListenCount x).pins = s.pins := rfl
@[simp] theorem setListenCount_lights (x : Nat) : (s.setListenCount x).lights = s.lights := rfl
@[simp] theorem setListenCount_calls (x : Nat) : (s.setListenCount x).calls = s.calls := rfl
@[simp] theorem setListenCount_panel (x : Nat) : (s.setListenCount x).panel = s.panel := rfl
@[simp] theorem setListenCount_boundaryUnderway (x : Nat) : (s.setListenCount x).boundaryUnderway = s.boundaryUnderway := rfl
@[simp] theorem setListenCount_placementHeld (x : Nat) : (s.setListenCount x).placementHeld = s.placementHeld := rfl
@[simp] theorem setListenCount_pending (x : Nat) : (s.setListenCount x).pending = s.pending := rfl

/-! ### setClampCount -/

@[simp] theorem setClampCount_phase (x : Nat) : (s.setClampCount x).phase = s.phase := rfl
@[simp] theorem setClampCount_mode (x : Nat) : (s.setClampCount x).mode = s.mode := rfl
@[simp] theorem setClampCount_config (x : Nat) : (s.setClampCount x).config = s.config := rfl
@[simp] theorem setClampCount_listenCount (x : Nat) : (s.setClampCount x).listenCount = s.listenCount := rfl
@[simp] theorem setClampCount_clampCount (x : Nat) : (s.setClampCount x).clampCount = x := rfl
@[simp] theorem setClampCount_resetHeld (x : Nat) : (s.setClampCount x).resetHeld = s.resetHeld := rfl
@[simp] theorem setClampCount_line (x : Nat) : (s.setClampCount x).line = s.line := rfl
@[simp] theorem setClampCount_peers (x : Nat) : (s.setClampCount x).peers = s.peers := rfl
@[simp] theorem setClampCount_condition (x : Nat) : (s.setClampCount x).condition = s.condition := rfl
@[simp] theorem setClampCount_faults (x : Nat) : (s.setClampCount x).faults = s.faults := rfl
@[simp] theorem setClampCount_beat (x : Nat) : (s.setClampCount x).beat = s.beat := rfl
@[simp] theorem setClampCount_zones (x : Nat) : (s.setClampCount x).zones = s.zones := rfl
@[simp] theorem setClampCount_curtain (x : Nat) : (s.setClampCount x).curtain = s.curtain := rfl
@[simp] theorem setClampCount_pins (x : Nat) : (s.setClampCount x).pins = s.pins := rfl
@[simp] theorem setClampCount_lights (x : Nat) : (s.setClampCount x).lights = s.lights := rfl
@[simp] theorem setClampCount_calls (x : Nat) : (s.setClampCount x).calls = s.calls := rfl
@[simp] theorem setClampCount_panel (x : Nat) : (s.setClampCount x).panel = s.panel := rfl
@[simp] theorem setClampCount_boundaryUnderway (x : Nat) : (s.setClampCount x).boundaryUnderway = s.boundaryUnderway := rfl
@[simp] theorem setClampCount_placementHeld (x : Nat) : (s.setClampCount x).placementHeld = s.placementHeld := rfl
@[simp] theorem setClampCount_pending (x : Nat) : (s.setClampCount x).pending = s.pending := rfl

/-! ### setResetHeld -/

@[simp] theorem setResetHeld_phase (x : Bool) : (s.setResetHeld x).phase = s.phase := rfl
@[simp] theorem setResetHeld_mode (x : Bool) : (s.setResetHeld x).mode = s.mode := rfl
@[simp] theorem setResetHeld_config (x : Bool) : (s.setResetHeld x).config = s.config := rfl
@[simp] theorem setResetHeld_listenCount (x : Bool) : (s.setResetHeld x).listenCount = s.listenCount := rfl
@[simp] theorem setResetHeld_clampCount (x : Bool) : (s.setResetHeld x).clampCount = s.clampCount := rfl
@[simp] theorem setResetHeld_resetHeld (x : Bool) : (s.setResetHeld x).resetHeld = x := rfl
@[simp] theorem setResetHeld_line (x : Bool) : (s.setResetHeld x).line = s.line := rfl
@[simp] theorem setResetHeld_peers (x : Bool) : (s.setResetHeld x).peers = s.peers := rfl
@[simp] theorem setResetHeld_condition (x : Bool) : (s.setResetHeld x).condition = s.condition := rfl
@[simp] theorem setResetHeld_faults (x : Bool) : (s.setResetHeld x).faults = s.faults := rfl
@[simp] theorem setResetHeld_beat (x : Bool) : (s.setResetHeld x).beat = s.beat := rfl
@[simp] theorem setResetHeld_zones (x : Bool) : (s.setResetHeld x).zones = s.zones := rfl
@[simp] theorem setResetHeld_curtain (x : Bool) : (s.setResetHeld x).curtain = s.curtain := rfl
@[simp] theorem setResetHeld_pins (x : Bool) : (s.setResetHeld x).pins = s.pins := rfl
@[simp] theorem setResetHeld_lights (x : Bool) : (s.setResetHeld x).lights = s.lights := rfl
@[simp] theorem setResetHeld_calls (x : Bool) : (s.setResetHeld x).calls = s.calls := rfl
@[simp] theorem setResetHeld_panel (x : Bool) : (s.setResetHeld x).panel = s.panel := rfl
@[simp] theorem setResetHeld_boundaryUnderway (x : Bool) : (s.setResetHeld x).boundaryUnderway = s.boundaryUnderway := rfl
@[simp] theorem setResetHeld_placementHeld (x : Bool) : (s.setResetHeld x).placementHeld = s.placementHeld := rfl
@[simp] theorem setResetHeld_pending (x : Bool) : (s.setResetHeld x).pending = s.pending := rfl

/-! ### setLine -/

@[simp] theorem setLine_phase (x : LineState) : (s.setLine x).phase = s.phase := rfl
@[simp] theorem setLine_mode (x : LineState) : (s.setLine x).mode = s.mode := rfl
@[simp] theorem setLine_config (x : LineState) : (s.setLine x).config = s.config := rfl
@[simp] theorem setLine_listenCount (x : LineState) : (s.setLine x).listenCount = s.listenCount := rfl
@[simp] theorem setLine_clampCount (x : LineState) : (s.setLine x).clampCount = s.clampCount := rfl
@[simp] theorem setLine_resetHeld (x : LineState) : (s.setLine x).resetHeld = s.resetHeld := rfl
@[simp] theorem setLine_line (x : LineState) : (s.setLine x).line = x := rfl
@[simp] theorem setLine_peers (x : LineState) : (s.setLine x).peers = s.peers := rfl
@[simp] theorem setLine_condition (x : LineState) : (s.setLine x).condition = s.condition := rfl
@[simp] theorem setLine_faults (x : LineState) : (s.setLine x).faults = s.faults := rfl
@[simp] theorem setLine_beat (x : LineState) : (s.setLine x).beat = s.beat := rfl
@[simp] theorem setLine_zones (x : LineState) : (s.setLine x).zones = s.zones := rfl
@[simp] theorem setLine_curtain (x : LineState) : (s.setLine x).curtain = s.curtain := rfl
@[simp] theorem setLine_pins (x : LineState) : (s.setLine x).pins = s.pins := rfl
@[simp] theorem setLine_lights (x : LineState) : (s.setLine x).lights = s.lights := rfl
@[simp] theorem setLine_calls (x : LineState) : (s.setLine x).calls = s.calls := rfl
@[simp] theorem setLine_panel (x : LineState) : (s.setLine x).panel = s.panel := rfl
@[simp] theorem setLine_boundaryUnderway (x : LineState) : (s.setLine x).boundaryUnderway = s.boundaryUnderway := rfl
@[simp] theorem setLine_placementHeld (x : LineState) : (s.setLine x).placementHeld = s.placementHeld := rfl
@[simp] theorem setLine_pending (x : LineState) : (s.setLine x).pending = s.pending := rfl

/-! ### setPeers -/

@[simp] theorem setPeers_phase (x : PeerState) : (s.setPeers x).phase = s.phase := rfl
@[simp] theorem setPeers_mode (x : PeerState) : (s.setPeers x).mode = s.mode := rfl
@[simp] theorem setPeers_config (x : PeerState) : (s.setPeers x).config = s.config := rfl
@[simp] theorem setPeers_listenCount (x : PeerState) : (s.setPeers x).listenCount = s.listenCount := rfl
@[simp] theorem setPeers_clampCount (x : PeerState) : (s.setPeers x).clampCount = s.clampCount := rfl
@[simp] theorem setPeers_resetHeld (x : PeerState) : (s.setPeers x).resetHeld = s.resetHeld := rfl
@[simp] theorem setPeers_line (x : PeerState) : (s.setPeers x).line = s.line := rfl
@[simp] theorem setPeers_peers (x : PeerState) : (s.setPeers x).peers = x := rfl
@[simp] theorem setPeers_condition (x : PeerState) : (s.setPeers x).condition = s.condition := rfl
@[simp] theorem setPeers_faults (x : PeerState) : (s.setPeers x).faults = s.faults := rfl
@[simp] theorem setPeers_beat (x : PeerState) : (s.setPeers x).beat = s.beat := rfl
@[simp] theorem setPeers_zones (x : PeerState) : (s.setPeers x).zones = s.zones := rfl
@[simp] theorem setPeers_curtain (x : PeerState) : (s.setPeers x).curtain = s.curtain := rfl
@[simp] theorem setPeers_pins (x : PeerState) : (s.setPeers x).pins = s.pins := rfl
@[simp] theorem setPeers_lights (x : PeerState) : (s.setPeers x).lights = s.lights := rfl
@[simp] theorem setPeers_calls (x : PeerState) : (s.setPeers x).calls = s.calls := rfl
@[simp] theorem setPeers_panel (x : PeerState) : (s.setPeers x).panel = s.panel := rfl
@[simp] theorem setPeers_boundaryUnderway (x : PeerState) : (s.setPeers x).boundaryUnderway = s.boundaryUnderway := rfl
@[simp] theorem setPeers_placementHeld (x : PeerState) : (s.setPeers x).placementHeld = s.placementHeld := rfl
@[simp] theorem setPeers_pending (x : PeerState) : (s.setPeers x).pending = s.pending := rfl

/-! ### setCondition -/

@[simp] theorem setCondition_phase (x : Condition) : (s.setCondition x).phase = s.phase := rfl
@[simp] theorem setCondition_mode (x : Condition) : (s.setCondition x).mode = s.mode := rfl
@[simp] theorem setCondition_config (x : Condition) : (s.setCondition x).config = s.config := rfl
@[simp] theorem setCondition_listenCount (x : Condition) : (s.setCondition x).listenCount = s.listenCount := rfl
@[simp] theorem setCondition_clampCount (x : Condition) : (s.setCondition x).clampCount = s.clampCount := rfl
@[simp] theorem setCondition_resetHeld (x : Condition) : (s.setCondition x).resetHeld = s.resetHeld := rfl
@[simp] theorem setCondition_line (x : Condition) : (s.setCondition x).line = s.line := rfl
@[simp] theorem setCondition_peers (x : Condition) : (s.setCondition x).peers = s.peers := rfl
@[simp] theorem setCondition_condition (x : Condition) : (s.setCondition x).condition = x := rfl
@[simp] theorem setCondition_faults (x : Condition) : (s.setCondition x).faults = s.faults := rfl
@[simp] theorem setCondition_beat (x : Condition) : (s.setCondition x).beat = s.beat := rfl
@[simp] theorem setCondition_zones (x : Condition) : (s.setCondition x).zones = s.zones := rfl
@[simp] theorem setCondition_curtain (x : Condition) : (s.setCondition x).curtain = s.curtain := rfl
@[simp] theorem setCondition_pins (x : Condition) : (s.setCondition x).pins = s.pins := rfl
@[simp] theorem setCondition_lights (x : Condition) : (s.setCondition x).lights = s.lights := rfl
@[simp] theorem setCondition_calls (x : Condition) : (s.setCondition x).calls = s.calls := rfl
@[simp] theorem setCondition_panel (x : Condition) : (s.setCondition x).panel = s.panel := rfl
@[simp] theorem setCondition_boundaryUnderway (x : Condition) : (s.setCondition x).boundaryUnderway = s.boundaryUnderway := rfl
@[simp] theorem setCondition_placementHeld (x : Condition) : (s.setCondition x).placementHeld = s.placementHeld := rfl
@[simp] theorem setCondition_pending (x : Condition) : (s.setCondition x).pending = s.pending := rfl

/-! ### setFaults -/

@[simp] theorem setFaults_phase (x : FaultSet) : (s.setFaults x).phase = s.phase := rfl
@[simp] theorem setFaults_mode (x : FaultSet) : (s.setFaults x).mode = s.mode := rfl
@[simp] theorem setFaults_config (x : FaultSet) : (s.setFaults x).config = s.config := rfl
@[simp] theorem setFaults_listenCount (x : FaultSet) : (s.setFaults x).listenCount = s.listenCount := rfl
@[simp] theorem setFaults_clampCount (x : FaultSet) : (s.setFaults x).clampCount = s.clampCount := rfl
@[simp] theorem setFaults_resetHeld (x : FaultSet) : (s.setFaults x).resetHeld = s.resetHeld := rfl
@[simp] theorem setFaults_line (x : FaultSet) : (s.setFaults x).line = s.line := rfl
@[simp] theorem setFaults_peers (x : FaultSet) : (s.setFaults x).peers = s.peers := rfl
@[simp] theorem setFaults_condition (x : FaultSet) : (s.setFaults x).condition = s.condition := rfl
@[simp] theorem setFaults_faults (x : FaultSet) : (s.setFaults x).faults = x := rfl
@[simp] theorem setFaults_beat (x : FaultSet) : (s.setFaults x).beat = s.beat := rfl
@[simp] theorem setFaults_zones (x : FaultSet) : (s.setFaults x).zones = s.zones := rfl
@[simp] theorem setFaults_curtain (x : FaultSet) : (s.setFaults x).curtain = s.curtain := rfl
@[simp] theorem setFaults_pins (x : FaultSet) : (s.setFaults x).pins = s.pins := rfl
@[simp] theorem setFaults_lights (x : FaultSet) : (s.setFaults x).lights = s.lights := rfl
@[simp] theorem setFaults_calls (x : FaultSet) : (s.setFaults x).calls = s.calls := rfl
@[simp] theorem setFaults_panel (x : FaultSet) : (s.setFaults x).panel = s.panel := rfl
@[simp] theorem setFaults_boundaryUnderway (x : FaultSet) : (s.setFaults x).boundaryUnderway = s.boundaryUnderway := rfl
@[simp] theorem setFaults_placementHeld (x : FaultSet) : (s.setFaults x).placementHeld = s.placementHeld := rfl
@[simp] theorem setFaults_pending (x : FaultSet) : (s.setFaults x).pending = s.pending := rfl

/-! ### setBeat -/

@[simp] theorem setBeat_phase (x : BeatState) : (s.setBeat x).phase = s.phase := rfl
@[simp] theorem setBeat_mode (x : BeatState) : (s.setBeat x).mode = s.mode := rfl
@[simp] theorem setBeat_config (x : BeatState) : (s.setBeat x).config = s.config := rfl
@[simp] theorem setBeat_listenCount (x : BeatState) : (s.setBeat x).listenCount = s.listenCount := rfl
@[simp] theorem setBeat_clampCount (x : BeatState) : (s.setBeat x).clampCount = s.clampCount := rfl
@[simp] theorem setBeat_resetHeld (x : BeatState) : (s.setBeat x).resetHeld = s.resetHeld := rfl
@[simp] theorem setBeat_line (x : BeatState) : (s.setBeat x).line = s.line := rfl
@[simp] theorem setBeat_peers (x : BeatState) : (s.setBeat x).peers = s.peers := rfl
@[simp] theorem setBeat_condition (x : BeatState) : (s.setBeat x).condition = s.condition := rfl
@[simp] theorem setBeat_faults (x : BeatState) : (s.setBeat x).faults = s.faults := rfl
@[simp] theorem setBeat_beat (x : BeatState) : (s.setBeat x).beat = x := rfl
@[simp] theorem setBeat_zones (x : BeatState) : (s.setBeat x).zones = s.zones := rfl
@[simp] theorem setBeat_curtain (x : BeatState) : (s.setBeat x).curtain = s.curtain := rfl
@[simp] theorem setBeat_pins (x : BeatState) : (s.setBeat x).pins = s.pins := rfl
@[simp] theorem setBeat_lights (x : BeatState) : (s.setBeat x).lights = s.lights := rfl
@[simp] theorem setBeat_calls (x : BeatState) : (s.setBeat x).calls = s.calls := rfl
@[simp] theorem setBeat_panel (x : BeatState) : (s.setBeat x).panel = s.panel := rfl
@[simp] theorem setBeat_boundaryUnderway (x : BeatState) : (s.setBeat x).boundaryUnderway = s.boundaryUnderway := rfl
@[simp] theorem setBeat_placementHeld (x : BeatState) : (s.setBeat x).placementHeld = s.placementHeld := rfl
@[simp] theorem setBeat_pending (x : BeatState) : (s.setBeat x).pending = s.pending := rfl

/-! ### setZones -/

@[simp] theorem setZones_phase (x : List ZoneRecord) : (s.setZones x).phase = s.phase := rfl
@[simp] theorem setZones_mode (x : List ZoneRecord) : (s.setZones x).mode = s.mode := rfl
@[simp] theorem setZones_config (x : List ZoneRecord) : (s.setZones x).config = s.config := rfl
@[simp] theorem setZones_listenCount (x : List ZoneRecord) : (s.setZones x).listenCount = s.listenCount := rfl
@[simp] theorem setZones_clampCount (x : List ZoneRecord) : (s.setZones x).clampCount = s.clampCount := rfl
@[simp] theorem setZones_resetHeld (x : List ZoneRecord) : (s.setZones x).resetHeld = s.resetHeld := rfl
@[simp] theorem setZones_line (x : List ZoneRecord) : (s.setZones x).line = s.line := rfl
@[simp] theorem setZones_peers (x : List ZoneRecord) : (s.setZones x).peers = s.peers := rfl
@[simp] theorem setZones_condition (x : List ZoneRecord) : (s.setZones x).condition = s.condition := rfl
@[simp] theorem setZones_faults (x : List ZoneRecord) : (s.setZones x).faults = s.faults := rfl
@[simp] theorem setZones_beat (x : List ZoneRecord) : (s.setZones x).beat = s.beat := rfl
@[simp] theorem setZones_zones (x : List ZoneRecord) : (s.setZones x).zones = x := rfl
@[simp] theorem setZones_curtain (x : List ZoneRecord) : (s.setZones x).curtain = s.curtain := rfl
@[simp] theorem setZones_pins (x : List ZoneRecord) : (s.setZones x).pins = s.pins := rfl
@[simp] theorem setZones_lights (x : List ZoneRecord) : (s.setZones x).lights = s.lights := rfl
@[simp] theorem setZones_calls (x : List ZoneRecord) : (s.setZones x).calls = s.calls := rfl
@[simp] theorem setZones_panel (x : List ZoneRecord) : (s.setZones x).panel = s.panel := rfl
@[simp] theorem setZones_boundaryUnderway (x : List ZoneRecord) : (s.setZones x).boundaryUnderway = s.boundaryUnderway := rfl
@[simp] theorem setZones_placementHeld (x : List ZoneRecord) : (s.setZones x).placementHeld = s.placementHeld := rfl
@[simp] theorem setZones_pending (x : List ZoneRecord) : (s.setZones x).pending = s.pending := rfl

/-! ### setCurtain -/

@[simp] theorem setCurtain_phase (x : CurtainRecord) : (s.setCurtain x).phase = s.phase := rfl
@[simp] theorem setCurtain_mode (x : CurtainRecord) : (s.setCurtain x).mode = s.mode := rfl
@[simp] theorem setCurtain_config (x : CurtainRecord) : (s.setCurtain x).config = s.config := rfl
@[simp] theorem setCurtain_listenCount (x : CurtainRecord) : (s.setCurtain x).listenCount = s.listenCount := rfl
@[simp] theorem setCurtain_clampCount (x : CurtainRecord) : (s.setCurtain x).clampCount = s.clampCount := rfl
@[simp] theorem setCurtain_resetHeld (x : CurtainRecord) : (s.setCurtain x).resetHeld = s.resetHeld := rfl
@[simp] theorem setCurtain_line (x : CurtainRecord) : (s.setCurtain x).line = s.line := rfl
@[simp] theorem setCurtain_peers (x : CurtainRecord) : (s.setCurtain x).peers = s.peers := rfl
@[simp] theorem setCurtain_condition (x : CurtainRecord) : (s.setCurtain x).condition = s.condition := rfl
@[simp] theorem setCurtain_faults (x : CurtainRecord) : (s.setCurtain x).faults = s.faults := rfl
@[simp] theorem setCurtain_beat (x : CurtainRecord) : (s.setCurtain x).beat = s.beat := rfl
@[simp] theorem setCurtain_zones (x : CurtainRecord) : (s.setCurtain x).zones = s.zones := rfl
@[simp] theorem setCurtain_curtain (x : CurtainRecord) : (s.setCurtain x).curtain = x := rfl
@[simp] theorem setCurtain_pins (x : CurtainRecord) : (s.setCurtain x).pins = s.pins := rfl
@[simp] theorem setCurtain_lights (x : CurtainRecord) : (s.setCurtain x).lights = s.lights := rfl
@[simp] theorem setCurtain_calls (x : CurtainRecord) : (s.setCurtain x).calls = s.calls := rfl
@[simp] theorem setCurtain_panel (x : CurtainRecord) : (s.setCurtain x).panel = s.panel := rfl
@[simp] theorem setCurtain_boundaryUnderway (x : CurtainRecord) : (s.setCurtain x).boundaryUnderway = s.boundaryUnderway := rfl
@[simp] theorem setCurtain_placementHeld (x : CurtainRecord) : (s.setCurtain x).placementHeld = s.placementHeld := rfl
@[simp] theorem setCurtain_pending (x : CurtainRecord) : (s.setCurtain x).pending = s.pending := rfl

/-! ### setPins -/

@[simp] theorem setPins_phase (x : CurtainPins) : (s.setPins x).phase = s.phase := rfl
@[simp] theorem setPins_mode (x : CurtainPins) : (s.setPins x).mode = s.mode := rfl
@[simp] theorem setPins_config (x : CurtainPins) : (s.setPins x).config = s.config := rfl
@[simp] theorem setPins_listenCount (x : CurtainPins) : (s.setPins x).listenCount = s.listenCount := rfl
@[simp] theorem setPins_clampCount (x : CurtainPins) : (s.setPins x).clampCount = s.clampCount := rfl
@[simp] theorem setPins_resetHeld (x : CurtainPins) : (s.setPins x).resetHeld = s.resetHeld := rfl
@[simp] theorem setPins_line (x : CurtainPins) : (s.setPins x).line = s.line := rfl
@[simp] theorem setPins_peers (x : CurtainPins) : (s.setPins x).peers = s.peers := rfl
@[simp] theorem setPins_condition (x : CurtainPins) : (s.setPins x).condition = s.condition := rfl
@[simp] theorem setPins_faults (x : CurtainPins) : (s.setPins x).faults = s.faults := rfl
@[simp] theorem setPins_beat (x : CurtainPins) : (s.setPins x).beat = s.beat := rfl
@[simp] theorem setPins_zones (x : CurtainPins) : (s.setPins x).zones = s.zones := rfl
@[simp] theorem setPins_curtain (x : CurtainPins) : (s.setPins x).curtain = s.curtain := rfl
@[simp] theorem setPins_pins (x : CurtainPins) : (s.setPins x).pins = x := rfl
@[simp] theorem setPins_lights (x : CurtainPins) : (s.setPins x).lights = s.lights := rfl
@[simp] theorem setPins_calls (x : CurtainPins) : (s.setPins x).calls = s.calls := rfl
@[simp] theorem setPins_panel (x : CurtainPins) : (s.setPins x).panel = s.panel := rfl
@[simp] theorem setPins_boundaryUnderway (x : CurtainPins) : (s.setPins x).boundaryUnderway = s.boundaryUnderway := rfl
@[simp] theorem setPins_placementHeld (x : CurtainPins) : (s.setPins x).placementHeld = s.placementHeld := rfl
@[simp] theorem setPins_pending (x : CurtainPins) : (s.setPins x).pending = s.pending := rfl

/-! ### setLights -/

@[simp] theorem setLights_phase (x : LightState) : (s.setLights x).phase = s.phase := rfl
@[simp] theorem setLights_mode (x : LightState) : (s.setLights x).mode = s.mode := rfl
@[simp] theorem setLights_config (x : LightState) : (s.setLights x).config = s.config := rfl
@[simp] theorem setLights_listenCount (x : LightState) : (s.setLights x).listenCount = s.listenCount := rfl
@[simp] theorem setLights_clampCount (x : LightState) : (s.setLights x).clampCount = s.clampCount := rfl
@[simp] theorem setLights_resetHeld (x : LightState) : (s.setLights x).resetHeld = s.resetHeld := rfl
@[simp] theorem setLights_line (x : LightState) : (s.setLights x).line = s.line := rfl
@[simp] theorem setLights_peers (x : LightState) : (s.setLights x).peers = s.peers := rfl
@[simp] theorem setLights_condition (x : LightState) : (s.setLights x).condition = s.condition := rfl
@[simp] theorem setLights_faults (x : LightState) : (s.setLights x).faults = s.faults := rfl
@[simp] theorem setLights_beat (x : LightState) : (s.setLights x).beat = s.beat := rfl
@[simp] theorem setLights_zones (x : LightState) : (s.setLights x).zones = s.zones := rfl
@[simp] theorem setLights_curtain (x : LightState) : (s.setLights x).curtain = s.curtain := rfl
@[simp] theorem setLights_pins (x : LightState) : (s.setLights x).pins = s.pins := rfl
@[simp] theorem setLights_lights (x : LightState) : (s.setLights x).lights = x := rfl
@[simp] theorem setLights_calls (x : LightState) : (s.setLights x).calls = s.calls := rfl
@[simp] theorem setLights_panel (x : LightState) : (s.setLights x).panel = s.panel := rfl
@[simp] theorem setLights_boundaryUnderway (x : LightState) : (s.setLights x).boundaryUnderway = s.boundaryUnderway := rfl
@[simp] theorem setLights_placementHeld (x : LightState) : (s.setLights x).placementHeld = s.placementHeld := rfl
@[simp] theorem setLights_pending (x : LightState) : (s.setLights x).pending = s.pending := rfl

/-! ### setCalls -/

@[simp] theorem setCalls_phase (x : CallState) : (s.setCalls x).phase = s.phase := rfl
@[simp] theorem setCalls_mode (x : CallState) : (s.setCalls x).mode = s.mode := rfl
@[simp] theorem setCalls_config (x : CallState) : (s.setCalls x).config = s.config := rfl
@[simp] theorem setCalls_listenCount (x : CallState) : (s.setCalls x).listenCount = s.listenCount := rfl
@[simp] theorem setCalls_clampCount (x : CallState) : (s.setCalls x).clampCount = s.clampCount := rfl
@[simp] theorem setCalls_resetHeld (x : CallState) : (s.setCalls x).resetHeld = s.resetHeld := rfl
@[simp] theorem setCalls_line (x : CallState) : (s.setCalls x).line = s.line := rfl
@[simp] theorem setCalls_peers (x : CallState) : (s.setCalls x).peers = s.peers := rfl
@[simp] theorem setCalls_condition (x : CallState) : (s.setCalls x).condition = s.condition := rfl
@[simp] theorem setCalls_faults (x : CallState) : (s.setCalls x).faults = s.faults := rfl
@[simp] theorem setCalls_beat (x : CallState) : (s.setCalls x).beat = s.beat := rfl
@[simp] theorem setCalls_zones (x : CallState) : (s.setCalls x).zones = s.zones := rfl
@[simp] theorem setCalls_curtain (x : CallState) : (s.setCalls x).curtain = s.curtain := rfl
@[simp] theorem setCalls_pins (x : CallState) : (s.setCalls x).pins = s.pins := rfl
@[simp] theorem setCalls_lights (x : CallState) : (s.setCalls x).lights = s.lights := rfl
@[simp] theorem setCalls_calls (x : CallState) : (s.setCalls x).calls = x := rfl
@[simp] theorem setCalls_panel (x : CallState) : (s.setCalls x).panel = s.panel := rfl
@[simp] theorem setCalls_boundaryUnderway (x : CallState) : (s.setCalls x).boundaryUnderway = s.boundaryUnderway := rfl
@[simp] theorem setCalls_placementHeld (x : CallState) : (s.setCalls x).placementHeld = s.placementHeld := rfl
@[simp] theorem setCalls_pending (x : CallState) : (s.setCalls x).pending = s.pending := rfl

/-! ### setPanel -/

@[simp] theorem setPanel_phase (x : PanelState) : (s.setPanel x).phase = s.phase := rfl
@[simp] theorem setPanel_mode (x : PanelState) : (s.setPanel x).mode = s.mode := rfl
@[simp] theorem setPanel_config (x : PanelState) : (s.setPanel x).config = s.config := rfl
@[simp] theorem setPanel_listenCount (x : PanelState) : (s.setPanel x).listenCount = s.listenCount := rfl
@[simp] theorem setPanel_clampCount (x : PanelState) : (s.setPanel x).clampCount = s.clampCount := rfl
@[simp] theorem setPanel_resetHeld (x : PanelState) : (s.setPanel x).resetHeld = s.resetHeld := rfl
@[simp] theorem setPanel_line (x : PanelState) : (s.setPanel x).line = s.line := rfl
@[simp] theorem setPanel_peers (x : PanelState) : (s.setPanel x).peers = s.peers := rfl
@[simp] theorem setPanel_condition (x : PanelState) : (s.setPanel x).condition = s.condition := rfl
@[simp] theorem setPanel_faults (x : PanelState) : (s.setPanel x).faults = s.faults := rfl
@[simp] theorem setPanel_beat (x : PanelState) : (s.setPanel x).beat = s.beat := rfl
@[simp] theorem setPanel_zones (x : PanelState) : (s.setPanel x).zones = s.zones := rfl
@[simp] theorem setPanel_curtain (x : PanelState) : (s.setPanel x).curtain = s.curtain := rfl
@[simp] theorem setPanel_pins (x : PanelState) : (s.setPanel x).pins = s.pins := rfl
@[simp] theorem setPanel_lights (x : PanelState) : (s.setPanel x).lights = s.lights := rfl
@[simp] theorem setPanel_calls (x : PanelState) : (s.setPanel x).calls = s.calls := rfl
@[simp] theorem setPanel_panel (x : PanelState) : (s.setPanel x).panel = x := rfl
@[simp] theorem setPanel_boundaryUnderway (x : PanelState) : (s.setPanel x).boundaryUnderway = s.boundaryUnderway := rfl
@[simp] theorem setPanel_placementHeld (x : PanelState) : (s.setPanel x).placementHeld = s.placementHeld := rfl
@[simp] theorem setPanel_pending (x : PanelState) : (s.setPanel x).pending = s.pending := rfl

/-! ### setBoundaryUnderway -/

@[simp] theorem setBoundaryUnderway_phase (x : Bool) : (s.setBoundaryUnderway x).phase = s.phase := rfl
@[simp] theorem setBoundaryUnderway_mode (x : Bool) : (s.setBoundaryUnderway x).mode = s.mode := rfl
@[simp] theorem setBoundaryUnderway_config (x : Bool) : (s.setBoundaryUnderway x).config = s.config := rfl
@[simp] theorem setBoundaryUnderway_listenCount (x : Bool) : (s.setBoundaryUnderway x).listenCount = s.listenCount := rfl
@[simp] theorem setBoundaryUnderway_clampCount (x : Bool) : (s.setBoundaryUnderway x).clampCount = s.clampCount := rfl
@[simp] theorem setBoundaryUnderway_resetHeld (x : Bool) : (s.setBoundaryUnderway x).resetHeld = s.resetHeld := rfl
@[simp] theorem setBoundaryUnderway_line (x : Bool) : (s.setBoundaryUnderway x).line = s.line := rfl
@[simp] theorem setBoundaryUnderway_peers (x : Bool) : (s.setBoundaryUnderway x).peers = s.peers := rfl
@[simp] theorem setBoundaryUnderway_condition (x : Bool) : (s.setBoundaryUnderway x).condition = s.condition := rfl
@[simp] theorem setBoundaryUnderway_faults (x : Bool) : (s.setBoundaryUnderway x).faults = s.faults := rfl
@[simp] theorem setBoundaryUnderway_beat (x : Bool) : (s.setBoundaryUnderway x).beat = s.beat := rfl
@[simp] theorem setBoundaryUnderway_zones (x : Bool) : (s.setBoundaryUnderway x).zones = s.zones := rfl
@[simp] theorem setBoundaryUnderway_curtain (x : Bool) : (s.setBoundaryUnderway x).curtain = s.curtain := rfl
@[simp] theorem setBoundaryUnderway_pins (x : Bool) : (s.setBoundaryUnderway x).pins = s.pins := rfl
@[simp] theorem setBoundaryUnderway_lights (x : Bool) : (s.setBoundaryUnderway x).lights = s.lights := rfl
@[simp] theorem setBoundaryUnderway_calls (x : Bool) : (s.setBoundaryUnderway x).calls = s.calls := rfl
@[simp] theorem setBoundaryUnderway_panel (x : Bool) : (s.setBoundaryUnderway x).panel = s.panel := rfl
@[simp] theorem setBoundaryUnderway_boundaryUnderway (x : Bool) : (s.setBoundaryUnderway x).boundaryUnderway = x := rfl
@[simp] theorem setBoundaryUnderway_placementHeld (x : Bool) : (s.setBoundaryUnderway x).placementHeld = s.placementHeld := rfl
@[simp] theorem setBoundaryUnderway_pending (x : Bool) : (s.setBoundaryUnderway x).pending = s.pending := rfl

/-! ### setPlacementHeld -/

@[simp] theorem setPlacementHeld_phase (x : Bool) : (s.setPlacementHeld x).phase = s.phase := rfl
@[simp] theorem setPlacementHeld_mode (x : Bool) : (s.setPlacementHeld x).mode = s.mode := rfl
@[simp] theorem setPlacementHeld_config (x : Bool) : (s.setPlacementHeld x).config = s.config := rfl
@[simp] theorem setPlacementHeld_listenCount (x : Bool) : (s.setPlacementHeld x).listenCount = s.listenCount := rfl
@[simp] theorem setPlacementHeld_clampCount (x : Bool) : (s.setPlacementHeld x).clampCount = s.clampCount := rfl
@[simp] theorem setPlacementHeld_resetHeld (x : Bool) : (s.setPlacementHeld x).resetHeld = s.resetHeld := rfl
@[simp] theorem setPlacementHeld_line (x : Bool) : (s.setPlacementHeld x).line = s.line := rfl
@[simp] theorem setPlacementHeld_peers (x : Bool) : (s.setPlacementHeld x).peers = s.peers := rfl
@[simp] theorem setPlacementHeld_condition (x : Bool) : (s.setPlacementHeld x).condition = s.condition := rfl
@[simp] theorem setPlacementHeld_faults (x : Bool) : (s.setPlacementHeld x).faults = s.faults := rfl
@[simp] theorem setPlacementHeld_beat (x : Bool) : (s.setPlacementHeld x).beat = s.beat := rfl
@[simp] theorem setPlacementHeld_zones (x : Bool) : (s.setPlacementHeld x).zones = s.zones := rfl
@[simp] theorem setPlacementHeld_curtain (x : Bool) : (s.setPlacementHeld x).curtain = s.curtain := rfl
@[simp] theorem setPlacementHeld_pins (x : Bool) : (s.setPlacementHeld x).pins = s.pins := rfl
@[simp] theorem setPlacementHeld_lights (x : Bool) : (s.setPlacementHeld x).lights = s.lights := rfl
@[simp] theorem setPlacementHeld_calls (x : Bool) : (s.setPlacementHeld x).calls = s.calls := rfl
@[simp] theorem setPlacementHeld_panel (x : Bool) : (s.setPlacementHeld x).panel = s.panel := rfl
@[simp] theorem setPlacementHeld_boundaryUnderway (x : Bool) : (s.setPlacementHeld x).boundaryUnderway = s.boundaryUnderway := rfl
@[simp] theorem setPlacementHeld_placementHeld (x : Bool) : (s.setPlacementHeld x).placementHeld = x := rfl
@[simp] theorem setPlacementHeld_pending (x : Bool) : (s.setPlacementHeld x).pending = s.pending := rfl

/-! ### setPending -/

@[simp] theorem setPending_phase (x : List Instr) : (s.setPending x).phase = s.phase := rfl
@[simp] theorem setPending_mode (x : List Instr) : (s.setPending x).mode = s.mode := rfl
@[simp] theorem setPending_config (x : List Instr) : (s.setPending x).config = s.config := rfl
@[simp] theorem setPending_listenCount (x : List Instr) : (s.setPending x).listenCount = s.listenCount := rfl
@[simp] theorem setPending_clampCount (x : List Instr) : (s.setPending x).clampCount = s.clampCount := rfl
@[simp] theorem setPending_resetHeld (x : List Instr) : (s.setPending x).resetHeld = s.resetHeld := rfl
@[simp] theorem setPending_line (x : List Instr) : (s.setPending x).line = s.line := rfl
@[simp] theorem setPending_peers (x : List Instr) : (s.setPending x).peers = s.peers := rfl
@[simp] theorem setPending_condition (x : List Instr) : (s.setPending x).condition = s.condition := rfl
@[simp] theorem setPending_faults (x : List Instr) : (s.setPending x).faults = s.faults := rfl
@[simp] theorem setPending_beat (x : List Instr) : (s.setPending x).beat = s.beat := rfl
@[simp] theorem setPending_zones (x : List Instr) : (s.setPending x).zones = s.zones := rfl
@[simp] theorem setPending_curtain (x : List Instr) : (s.setPending x).curtain = s.curtain := rfl
@[simp] theorem setPending_pins (x : List Instr) : (s.setPending x).pins = s.pins := rfl
@[simp] theorem setPending_lights (x : List Instr) : (s.setPending x).lights = s.lights := rfl
@[simp] theorem setPending_calls (x : List Instr) : (s.setPending x).calls = s.calls := rfl
@[simp] theorem setPending_panel (x : List Instr) : (s.setPending x).panel = s.panel := rfl
@[simp] theorem setPending_boundaryUnderway (x : List Instr) : (s.setPending x).boundaryUnderway = s.boundaryUnderway := rfl
@[simp] theorem setPending_placementHeld (x : List Instr) : (s.setPending x).placementHeld = s.placementHeld := rfl
@[simp] theorem setPending_pending (x : List Instr) : (s.setPending x).pending = x := rfl

/-! ### Reports and the small updates -/

@[simp] theorem report_phase (r : Report) : (report r s).phase = s.phase := rfl
@[simp] theorem report_mode (r : Report) : (report r s).mode = s.mode := rfl
@[simp] theorem report_config (r : Report) : (report r s).config = s.config := rfl
@[simp] theorem report_listenCount (r : Report) : (report r s).listenCount = s.listenCount := rfl
@[simp] theorem report_clampCount (r : Report) : (report r s).clampCount = s.clampCount := rfl
@[simp] theorem report_resetHeld (r : Report) : (report r s).resetHeld = s.resetHeld := rfl
@[simp] theorem report_line (r : Report) : (report r s).line = s.line := rfl
@[simp] theorem report_peers (r : Report) : (report r s).peers = s.peers := rfl
@[simp] theorem report_condition (r : Report) : (report r s).condition = s.condition := rfl
@[simp] theorem report_faults (r : Report) : (report r s).faults = s.faults := rfl
@[simp] theorem report_beat (r : Report) : (report r s).beat = s.beat := rfl
@[simp] theorem report_zones (r : Report) : (report r s).zones = s.zones := rfl
@[simp] theorem report_curtain (r : Report) : (report r s).curtain = s.curtain := rfl
@[simp] theorem report_pins (r : Report) : (report r s).pins = s.pins := rfl
@[simp] theorem report_lights (r : Report) : (report r s).lights = s.lights := rfl
@[simp] theorem report_calls (r : Report) : (report r s).calls = s.calls := rfl
@[simp] theorem report_panel (r : Report) : (report r s).panel = s.panel.push ⟨s.beat.number, r⟩ := rfl
@[simp] theorem report_boundaryUnderway (r : Report) : (report r s).boundaryUnderway = s.boundaryUnderway := rfl
@[simp] theorem report_placementHeld (r : Report) : (report r s).placementHeld = s.placementHeld := rfl
@[simp] theorem report_pending (r : Report) : (report r s).pending = s.pending := rfl

@[simp] theorem setTx_phase (q : List Payload) : (setTx q s).phase = s.phase := rfl
@[simp] theorem setTx_mode (q : List Payload) : (setTx q s).mode = s.mode := rfl
@[simp] theorem setTx_config (q : List Payload) : (setTx q s).config = s.config := rfl
@[simp] theorem setTx_listenCount (q : List Payload) : (setTx q s).listenCount = s.listenCount := rfl
@[simp] theorem setTx_clampCount (q : List Payload) : (setTx q s).clampCount = s.clampCount := rfl
@[simp] theorem setTx_resetHeld (q : List Payload) : (setTx q s).resetHeld = s.resetHeld := rfl
@[simp] theorem setTx_line (q : List Payload) : (setTx q s).line = { s.line with tx := q } := rfl
@[simp] theorem setTx_peers (q : List Payload) : (setTx q s).peers = s.peers := rfl
@[simp] theorem setTx_condition (q : List Payload) : (setTx q s).condition = s.condition := rfl
@[simp] theorem setTx_faults (q : List Payload) : (setTx q s).faults = s.faults := rfl
@[simp] theorem setTx_beat (q : List Payload) : (setTx q s).beat = s.beat := rfl
@[simp] theorem setTx_zones (q : List Payload) : (setTx q s).zones = s.zones := rfl
@[simp] theorem setTx_curtain (q : List Payload) : (setTx q s).curtain = s.curtain := rfl
@[simp] theorem setTx_pins (q : List Payload) : (setTx q s).pins = s.pins := rfl
@[simp] theorem setTx_lights (q : List Payload) : (setTx q s).lights = s.lights := rfl
@[simp] theorem setTx_calls (q : List Payload) : (setTx q s).calls = s.calls := rfl
@[simp] theorem setTx_panel (q : List Payload) : (setTx q s).panel = s.panel := rfl
@[simp] theorem setTx_boundaryUnderway (q : List Payload) : (setTx q s).boundaryUnderway = s.boundaryUnderway := rfl
@[simp] theorem setTx_placementHeld (q : List Payload) : (setTx q s).placementHeld = s.placementHeld := rfl
@[simp] theorem setTx_pending (q : List Payload) : (setTx q s).pending = s.pending := rfl

@[simp] theorem setSlot_phase (f : Option Payload) : (setSlot f s).phase = s.phase := rfl
@[simp] theorem setSlot_mode (f : Option Payload) : (setSlot f s).mode = s.mode := rfl
@[simp] theorem setSlot_config (f : Option Payload) : (setSlot f s).config = s.config := rfl
@[simp] theorem setSlot_listenCount (f : Option Payload) : (setSlot f s).listenCount = s.listenCount := rfl
@[simp] theorem setSlot_clampCount (f : Option Payload) : (setSlot f s).clampCount = s.clampCount := rfl
@[simp] theorem setSlot_resetHeld (f : Option Payload) : (setSlot f s).resetHeld = s.resetHeld := rfl
@[simp] theorem setSlot_line (f : Option Payload) : (setSlot f s).line = { s.line with slot := f } := rfl
@[simp] theorem setSlot_peers (f : Option Payload) : (setSlot f s).peers = s.peers := rfl
@[simp] theorem setSlot_condition (f : Option Payload) : (setSlot f s).condition = s.condition := rfl
@[simp] theorem setSlot_faults (f : Option Payload) : (setSlot f s).faults = s.faults := rfl
@[simp] theorem setSlot_beat (f : Option Payload) : (setSlot f s).beat = s.beat := rfl
@[simp] theorem setSlot_zones (f : Option Payload) : (setSlot f s).zones = s.zones := rfl
@[simp] theorem setSlot_curtain (f : Option Payload) : (setSlot f s).curtain = s.curtain := rfl
@[simp] theorem setSlot_pins (f : Option Payload) : (setSlot f s).pins = s.pins := rfl
@[simp] theorem setSlot_lights (f : Option Payload) : (setSlot f s).lights = s.lights := rfl
@[simp] theorem setSlot_calls (f : Option Payload) : (setSlot f s).calls = s.calls := rfl
@[simp] theorem setSlot_panel (f : Option Payload) : (setSlot f s).panel = s.panel := rfl
@[simp] theorem setSlot_boundaryUnderway (f : Option Payload) : (setSlot f s).boundaryUnderway = s.boundaryUnderway := rfl
@[simp] theorem setSlot_placementHeld (f : Option Payload) : (setSlot f s).placementHeld = s.placementHeld := rfl
@[simp] theorem setSlot_pending (f : Option Payload) : (setSlot f s).pending = s.pending := rfl

@[simp] theorem setChannels_phase (cs : List Channel) : (setChannels cs s).phase = s.phase := rfl
@[simp] theorem setChannels_mode (cs : List Channel) : (setChannels cs s).mode = s.mode := rfl
@[simp] theorem setChannels_config (cs : List Channel) : (setChannels cs s).config = s.config := rfl
@[simp] theorem setChannels_listenCount (cs : List Channel) : (setChannels cs s).listenCount = s.listenCount := rfl
@[simp] theorem setChannels_clampCount (cs : List Channel) : (setChannels cs s).clampCount = s.clampCount := rfl
@[simp] theorem setChannels_resetHeld (cs : List Channel) : (setChannels cs s).resetHeld = s.resetHeld := rfl
@[simp] theorem setChannels_line (cs : List Channel) : (setChannels cs s).line = s.line := rfl
@[simp] theorem setChannels_peers (cs : List Channel) : (setChannels cs s).peers = s.peers := rfl
@[simp] theorem setChannels_condition (cs : List Channel) : (setChannels cs s).condition = s.condition := rfl
@[simp] theorem setChannels_faults (cs : List Channel) : (setChannels cs s).faults = s.faults := rfl
@[simp] theorem setChannels_beat (cs : List Channel) : (setChannels cs s).beat = s.beat := rfl
@[simp] theorem setChannels_zones (cs : List Channel) : (setChannels cs s).zones = s.zones := rfl
@[simp] theorem setChannels_curtain (cs : List Channel) : (setChannels cs s).curtain = s.curtain := rfl
@[simp] theorem setChannels_pins (cs : List Channel) : (setChannels cs s).pins = s.pins := rfl
@[simp] theorem setChannels_lights (cs : List Channel) : (setChannels cs s).lights = { s.lights with channels := cs } := rfl
@[simp] theorem setChannels_calls (cs : List Channel) : (setChannels cs s).calls = s.calls := rfl
@[simp] theorem setChannels_panel (cs : List Channel) : (setChannels cs s).panel = s.panel := rfl
@[simp] theorem setChannels_boundaryUnderway (cs : List Channel) : (setChannels cs s).boundaryUnderway = s.boundaryUnderway := rfl
@[simp] theorem setChannels_placementHeld (cs : List Channel) : (setChannels cs s).placementHeld = s.placementHeld := rfl
@[simp] theorem setChannels_pending (cs : List Channel) : (setChannels cs s).pending = s.pending := rfl

@[simp] theorem setCues_phase (cs : List CueEntry) : (setCues cs s).phase = s.phase := rfl
@[simp] theorem setCues_mode (cs : List CueEntry) : (setCues cs s).mode = s.mode := rfl
@[simp] theorem setCues_config (cs : List CueEntry) : (setCues cs s).config = s.config := rfl
@[simp] theorem setCues_listenCount (cs : List CueEntry) : (setCues cs s).listenCount = s.listenCount := rfl
@[simp] theorem setCues_clampCount (cs : List CueEntry) : (setCues cs s).clampCount = s.clampCount := rfl
@[simp] theorem setCues_resetHeld (cs : List CueEntry) : (setCues cs s).resetHeld = s.resetHeld := rfl
@[simp] theorem setCues_line (cs : List CueEntry) : (setCues cs s).line = s.line := rfl
@[simp] theorem setCues_peers (cs : List CueEntry) : (setCues cs s).peers = s.peers := rfl
@[simp] theorem setCues_condition (cs : List CueEntry) : (setCues cs s).condition = s.condition := rfl
@[simp] theorem setCues_faults (cs : List CueEntry) : (setCues cs s).faults = s.faults := rfl
@[simp] theorem setCues_beat (cs : List CueEntry) : (setCues cs s).beat = s.beat := rfl
@[simp] theorem setCues_zones (cs : List CueEntry) : (setCues cs s).zones = s.zones := rfl
@[simp] theorem setCues_curtain (cs : List CueEntry) : (setCues cs s).curtain = s.curtain := rfl
@[simp] theorem setCues_pins (cs : List CueEntry) : (setCues cs s).pins = s.pins := rfl
@[simp] theorem setCues_lights (cs : List CueEntry) : (setCues cs s).lights = { s.lights with cues := cs } := rfl
@[simp] theorem setCues_calls (cs : List CueEntry) : (setCues cs s).calls = s.calls := rfl
@[simp] theorem setCues_panel (cs : List CueEntry) : (setCues cs s).panel = s.panel := rfl
@[simp] theorem setCues_boundaryUnderway (cs : List CueEntry) : (setCues cs s).boundaryUnderway = s.boundaryUnderway := rfl
@[simp] theorem setCues_placementHeld (cs : List CueEntry) : (setCues cs s).placementHeld = s.placementHeld := rfl
@[simp] theorem setCues_pending (cs : List CueEntry) : (setCues cs s).pending = s.pending := rfl

@[simp] theorem refreshLights_phase (always : Bool) : (refreshLights always s).phase = s.phase := rfl
@[simp] theorem refreshLights_mode (always : Bool) : (refreshLights always s).mode = s.mode := rfl
@[simp] theorem refreshLights_config (always : Bool) : (refreshLights always s).config = s.config := rfl
@[simp] theorem refreshLights_listenCount (always : Bool) : (refreshLights always s).listenCount = s.listenCount := rfl
@[simp] theorem refreshLights_clampCount (always : Bool) : (refreshLights always s).clampCount = s.clampCount := rfl
@[simp] theorem refreshLights_resetHeld (always : Bool) : (refreshLights always s).resetHeld = s.resetHeld := rfl
@[simp] theorem refreshLights_line (always : Bool) : (refreshLights always s).line = s.line := rfl
@[simp] theorem refreshLights_peers (always : Bool) : (refreshLights always s).peers = s.peers := rfl
@[simp] theorem refreshLights_condition (always : Bool) : (refreshLights always s).condition = s.condition := rfl
@[simp] theorem refreshLights_faults (always : Bool) : (refreshLights always s).faults = s.faults := rfl
@[simp] theorem refreshLights_beat (always : Bool) : (refreshLights always s).beat = s.beat := rfl
@[simp] theorem refreshLights_zones (always : Bool) : (refreshLights always s).zones = s.zones := rfl
@[simp] theorem refreshLights_curtain (always : Bool) : (refreshLights always s).curtain = s.curtain := rfl
@[simp] theorem refreshLights_pins (always : Bool) : (refreshLights always s).pins = s.pins := rfl
@[simp] theorem refreshLights_lights (always : Bool) : (refreshLights always s).lights = s.lights.refresh (s.condition == .alarm) always := rfl
@[simp] theorem refreshLights_calls (always : Bool) : (refreshLights always s).calls = s.calls := rfl
@[simp] theorem refreshLights_panel (always : Bool) : (refreshLights always s).panel = s.panel := rfl
@[simp] theorem refreshLights_boundaryUnderway (always : Bool) : (refreshLights always s).boundaryUnderway = s.boundaryUnderway := rfl
@[simp] theorem refreshLights_placementHeld (always : Bool) : (refreshLights always s).placementHeld = s.placementHeld := rfl
@[simp] theorem refreshLights_pending (always : Bool) : (refreshLights always s).pending = s.pending := rfl

@[simp] theorem setQueue_phase (q : List CallEntry) : (setQueue q s).phase = s.phase := rfl
@[simp] theorem setQueue_mode (q : List CallEntry) : (setQueue q s).mode = s.mode := rfl
@[simp] theorem setQueue_config (q : List CallEntry) : (setQueue q s).config = s.config := rfl
@[simp] theorem setQueue_listenCount (q : List CallEntry) : (setQueue q s).listenCount = s.listenCount := rfl
@[simp] theorem setQueue_clampCount (q : List CallEntry) : (setQueue q s).clampCount = s.clampCount := rfl
@[simp] theorem setQueue_resetHeld (q : List CallEntry) : (setQueue q s).resetHeld = s.resetHeld := rfl
@[simp] theorem setQueue_line (q : List CallEntry) : (setQueue q s).line = s.line := rfl
@[simp] theorem setQueue_peers (q : List CallEntry) : (setQueue q s).peers = s.peers := rfl
@[simp] theorem setQueue_condition (q : List CallEntry) : (setQueue q s).condition = s.condition := rfl
@[simp] theorem setQueue_faults (q : List CallEntry) : (setQueue q s).faults = s.faults := rfl
@[simp] theorem setQueue_beat (q : List CallEntry) : (setQueue q s).beat = s.beat := rfl
@[simp] theorem setQueue_zones (q : List CallEntry) : (setQueue q s).zones = s.zones := rfl
@[simp] theorem setQueue_curtain (q : List CallEntry) : (setQueue q s).curtain = s.curtain := rfl
@[simp] theorem setQueue_pins (q : List CallEntry) : (setQueue q s).pins = s.pins := rfl
@[simp] theorem setQueue_lights (q : List CallEntry) : (setQueue q s).lights = s.lights := rfl
@[simp] theorem setQueue_calls (q : List CallEntry) : (setQueue q s).calls = { s.calls with queue := q } := rfl
@[simp] theorem setQueue_panel (q : List CallEntry) : (setQueue q s).panel = s.panel := rfl
@[simp] theorem setQueue_boundaryUnderway (q : List CallEntry) : (setQueue q s).boundaryUnderway = s.boundaryUnderway := rfl
@[simp] theorem setQueue_placementHeld (q : List CallEntry) : (setQueue q s).placementHeld = s.placementHeld := rfl
@[simp] theorem setQueue_pending (q : List CallEntry) : (setQueue q s).pending = s.pending := rfl

@[simp] theorem setTable_phase (t : List PeerEntry) : (setTable t s).phase = s.phase := rfl
@[simp] theorem setTable_mode (t : List PeerEntry) : (setTable t s).mode = s.mode := rfl
@[simp] theorem setTable_config (t : List PeerEntry) : (setTable t s).config = s.config := rfl
@[simp] theorem setTable_listenCount (t : List PeerEntry) : (setTable t s).listenCount = s.listenCount := rfl
@[simp] theorem setTable_clampCount (t : List PeerEntry) : (setTable t s).clampCount = s.clampCount := rfl
@[simp] theorem setTable_resetHeld (t : List PeerEntry) : (setTable t s).resetHeld = s.resetHeld := rfl
@[simp] theorem setTable_line (t : List PeerEntry) : (setTable t s).line = s.line := rfl
@[simp] theorem setTable_peers (t : List PeerEntry) : (setTable t s).peers = { s.peers with table := t } := rfl
@[simp] theorem setTable_condition (t : List PeerEntry) : (setTable t s).condition = s.condition := rfl
@[simp] theorem setTable_faults (t : List PeerEntry) : (setTable t s).faults = s.faults := rfl
@[simp] theorem setTable_beat (t : List PeerEntry) : (setTable t s).beat = s.beat := rfl
@[simp] theorem setTable_zones (t : List PeerEntry) : (setTable t s).zones = s.zones := rfl
@[simp] theorem setTable_curtain (t : List PeerEntry) : (setTable t s).curtain = s.curtain := rfl
@[simp] theorem setTable_pins (t : List PeerEntry) : (setTable t s).pins = s.pins := rfl
@[simp] theorem setTable_lights (t : List PeerEntry) : (setTable t s).lights = s.lights := rfl
@[simp] theorem setTable_calls (t : List PeerEntry) : (setTable t s).calls = s.calls := rfl
@[simp] theorem setTable_panel (t : List PeerEntry) : (setTable t s).panel = s.panel := rfl
@[simp] theorem setTable_boundaryUnderway (t : List PeerEntry) : (setTable t s).boundaryUnderway = s.boundaryUnderway := rfl
@[simp] theorem setTable_placementHeld (t : List PeerEntry) : (setTable t s).placementHeld = s.placementHeld := rfl
@[simp] theorem setTable_pending (t : List PeerEntry) : (setTable t s).pending = s.pending := rfl

@[simp] theorem setZone_phase (n : Nat) (z : ZoneRecord) : (setZone n z s).phase = s.phase := rfl
@[simp] theorem setZone_mode (n : Nat) (z : ZoneRecord) : (setZone n z s).mode = s.mode := rfl
@[simp] theorem setZone_config (n : Nat) (z : ZoneRecord) : (setZone n z s).config = s.config := rfl
@[simp] theorem setZone_listenCount (n : Nat) (z : ZoneRecord) : (setZone n z s).listenCount = s.listenCount := rfl
@[simp] theorem setZone_clampCount (n : Nat) (z : ZoneRecord) : (setZone n z s).clampCount = s.clampCount := rfl
@[simp] theorem setZone_resetHeld (n : Nat) (z : ZoneRecord) : (setZone n z s).resetHeld = s.resetHeld := rfl
@[simp] theorem setZone_line (n : Nat) (z : ZoneRecord) : (setZone n z s).line = s.line := rfl
@[simp] theorem setZone_peers (n : Nat) (z : ZoneRecord) : (setZone n z s).peers = s.peers := rfl
@[simp] theorem setZone_condition (n : Nat) (z : ZoneRecord) : (setZone n z s).condition = s.condition := rfl
@[simp] theorem setZone_faults (n : Nat) (z : ZoneRecord) : (setZone n z s).faults = s.faults := rfl
@[simp] theorem setZone_beat (n : Nat) (z : ZoneRecord) : (setZone n z s).beat = s.beat := rfl
@[simp] theorem setZone_zones (n : Nat) (z : ZoneRecord) : (setZone n z s).zones = s.zones.set n z := rfl
@[simp] theorem setZone_curtain (n : Nat) (z : ZoneRecord) : (setZone n z s).curtain = s.curtain := rfl
@[simp] theorem setZone_pins (n : Nat) (z : ZoneRecord) : (setZone n z s).pins = s.pins := rfl
@[simp] theorem setZone_lights (n : Nat) (z : ZoneRecord) : (setZone n z s).lights = s.lights := rfl
@[simp] theorem setZone_calls (n : Nat) (z : ZoneRecord) : (setZone n z s).calls = s.calls := rfl
@[simp] theorem setZone_panel (n : Nat) (z : ZoneRecord) : (setZone n z s).panel = s.panel := rfl
@[simp] theorem setZone_boundaryUnderway (n : Nat) (z : ZoneRecord) : (setZone n z s).boundaryUnderway = s.boundaryUnderway := rfl
@[simp] theorem setZone_placementHeld (n : Nat) (z : ZoneRecord) : (setZone n z s).placementHeld = s.placementHeld := rfl
@[simp] theorem setZone_pending (n : Nat) (z : ZoneRecord) : (setZone n z s).pending = s.pending := rfl

@[simp] theorem markStalled_phase (v : Bool) : (markStalled v s).phase = s.phase := rfl
@[simp] theorem markStalled_mode (v : Bool) : (markStalled v s).mode = s.mode := rfl
@[simp] theorem markStalled_config (v : Bool) : (markStalled v s).config = s.config := rfl
@[simp] theorem markStalled_listenCount (v : Bool) : (markStalled v s).listenCount = s.listenCount := rfl
@[simp] theorem markStalled_clampCount (v : Bool) : (markStalled v s).clampCount = s.clampCount := rfl
@[simp] theorem markStalled_resetHeld (v : Bool) : (markStalled v s).resetHeld = s.resetHeld := rfl
@[simp] theorem markStalled_line (v : Bool) : (markStalled v s).line = s.line := rfl
@[simp] theorem markStalled_peers (v : Bool) : (markStalled v s).peers = s.peers := rfl
@[simp] theorem markStalled_condition (v : Bool) : (markStalled v s).condition = s.condition := rfl
@[simp] theorem markStalled_faults (v : Bool) : (markStalled v s).faults = s.faults := rfl
@[simp] theorem markStalled_beat (v : Bool) : (markStalled v s).beat = s.beat := rfl
@[simp] theorem markStalled_zones (v : Bool) : (markStalled v s).zones = s.zones := rfl
@[simp] theorem markStalled_curtain (v : Bool) : (markStalled v s).curtain = { s.curtain with stalledNow := v } := rfl
@[simp] theorem markStalled_pins (v : Bool) : (markStalled v s).pins = s.pins := rfl
@[simp] theorem markStalled_lights (v : Bool) : (markStalled v s).lights = s.lights := rfl
@[simp] theorem markStalled_calls (v : Bool) : (markStalled v s).calls = s.calls := rfl
@[simp] theorem markStalled_panel (v : Bool) : (markStalled v s).panel = s.panel := rfl
@[simp] theorem markStalled_boundaryUnderway (v : Bool) : (markStalled v s).boundaryUnderway = s.boundaryUnderway := rfl
@[simp] theorem markStalled_placementHeld (v : Bool) : (markStalled v s).placementHeld = s.placementHeld := rfl
@[simp] theorem markStalled_pending (v : Bool) : (markStalled v s).pending = s.pending := rfl

@[simp] theorem clearMarks_phase : (clearMarks s).phase = s.phase := rfl
@[simp] theorem clearMarks_mode : (clearMarks s).mode = s.mode := rfl
@[simp] theorem clearMarks_config : (clearMarks s).config = s.config := rfl
@[simp] theorem clearMarks_listenCount : (clearMarks s).listenCount = s.listenCount := rfl
@[simp] theorem clearMarks_clampCount : (clearMarks s).clampCount = s.clampCount := rfl
@[simp] theorem clearMarks_resetHeld : (clearMarks s).resetHeld = s.resetHeld := rfl
@[simp] theorem clearMarks_line : (clearMarks s).line = s.line := rfl
@[simp] theorem clearMarks_peers : (clearMarks s).peers = s.peers := rfl
@[simp] theorem clearMarks_condition : (clearMarks s).condition = s.condition := rfl
@[simp] theorem clearMarks_faults : (clearMarks s).faults = s.faults := rfl
@[simp] theorem clearMarks_beat : (clearMarks s).beat = s.beat := rfl
@[simp] theorem clearMarks_zones : (clearMarks s).zones = s.zones.map (fun z => { z with restarted := false }) := rfl
@[simp] theorem clearMarks_curtain : (clearMarks s).curtain = { s.curtain with stalledNow := false } := rfl
@[simp] theorem clearMarks_pins : (clearMarks s).pins = s.pins := rfl
@[simp] theorem clearMarks_lights : (clearMarks s).lights = s.lights := rfl
@[simp] theorem clearMarks_calls : (clearMarks s).calls = s.calls := rfl
@[simp] theorem clearMarks_panel : (clearMarks s).panel = s.panel := rfl
@[simp] theorem clearMarks_boundaryUnderway : (clearMarks s).boundaryUnderway = s.boundaryUnderway := rfl
@[simp] theorem clearMarks_placementHeld : (clearMarks s).placementHeld = s.placementHeld := rfl
@[simp] theorem clearMarks_pending : (clearMarks s).pending = s.pending := rfl

@[simp] theorem setHandshake_phase (h : Handshake) : (setHandshake h s).phase = s.phase := rfl
@[simp] theorem setHandshake_mode (h : Handshake) : (setHandshake h s).mode = s.mode := rfl
@[simp] theorem setHandshake_config (h : Handshake) : (setHandshake h s).config = s.config := rfl
@[simp] theorem setHandshake_listenCount (h : Handshake) : (setHandshake h s).listenCount = s.listenCount := rfl
@[simp] theorem setHandshake_clampCount (h : Handshake) : (setHandshake h s).clampCount = s.clampCount := rfl
@[simp] theorem setHandshake_resetHeld (h : Handshake) : (setHandshake h s).resetHeld = s.resetHeld := rfl
@[simp] theorem setHandshake_line (h : Handshake) : (setHandshake h s).line = s.line := rfl
@[simp] theorem setHandshake_peers (h : Handshake) : (setHandshake h s).peers = s.peers := rfl
@[simp] theorem setHandshake_condition (h : Handshake) : (setHandshake h s).condition = s.condition := rfl
@[simp] theorem setHandshake_faults (h : Handshake) : (setHandshake h s).faults = s.faults := rfl
@[simp] theorem setHandshake_beat (h : Handshake) : (setHandshake h s).beat = s.beat := rfl
@[simp] theorem setHandshake_zones (h : Handshake) : (setHandshake h s).zones = s.zones := rfl
@[simp] theorem setHandshake_curtain (h : Handshake) : (setHandshake h s).curtain = { s.curtain with handshake := h } := rfl
@[simp] theorem setHandshake_pins (h : Handshake) : (setHandshake h s).pins = s.pins := rfl
@[simp] theorem setHandshake_lights (h : Handshake) : (setHandshake h s).lights = s.lights := rfl
@[simp] theorem setHandshake_calls (h : Handshake) : (setHandshake h s).calls = s.calls := rfl
@[simp] theorem setHandshake_panel (h : Handshake) : (setHandshake h s).panel = s.panel := rfl
@[simp] theorem setHandshake_boundaryUnderway (h : Handshake) : (setHandshake h s).boundaryUnderway = s.boundaryUnderway := rfl
@[simp] theorem setHandshake_placementHeld (h : Handshake) : (setHandshake h s).placementHeld = s.placementHeld := rfl
@[simp] theorem setHandshake_pending (h : Handshake) : (setHandshake h s).pending = s.pending := rfl

@[simp] theorem setDescent_phase (d : Descent) : (setDescent d s).phase = s.phase := rfl
@[simp] theorem setDescent_mode (d : Descent) : (setDescent d s).mode = s.mode := rfl
@[simp] theorem setDescent_config (d : Descent) : (setDescent d s).config = s.config := rfl
@[simp] theorem setDescent_listenCount (d : Descent) : (setDescent d s).listenCount = s.listenCount := rfl
@[simp] theorem setDescent_clampCount (d : Descent) : (setDescent d s).clampCount = s.clampCount := rfl
@[simp] theorem setDescent_resetHeld (d : Descent) : (setDescent d s).resetHeld = s.resetHeld := rfl
@[simp] theorem setDescent_line (d : Descent) : (setDescent d s).line = s.line := rfl
@[simp] theorem setDescent_peers (d : Descent) : (setDescent d s).peers = s.peers := rfl
@[simp] theorem setDescent_condition (d : Descent) : (setDescent d s).condition = s.condition := rfl
@[simp] theorem setDescent_faults (d : Descent) : (setDescent d s).faults = s.faults := rfl
@[simp] theorem setDescent_beat (d : Descent) : (setDescent d s).beat = s.beat := rfl
@[simp] theorem setDescent_zones (d : Descent) : (setDescent d s).zones = s.zones := rfl
@[simp] theorem setDescent_curtain (d : Descent) : (setDescent d s).curtain = { s.curtain with descent := some d } := rfl
@[simp] theorem setDescent_pins (d : Descent) : (setDescent d s).pins = s.pins := rfl
@[simp] theorem setDescent_lights (d : Descent) : (setDescent d s).lights = s.lights := rfl
@[simp] theorem setDescent_calls (d : Descent) : (setDescent d s).calls = s.calls := rfl
@[simp] theorem setDescent_panel (d : Descent) : (setDescent d s).panel = s.panel := rfl
@[simp] theorem setDescent_boundaryUnderway (d : Descent) : (setDescent d s).boundaryUnderway = s.boundaryUnderway := rfl
@[simp] theorem setDescent_placementHeld (d : Descent) : (setDescent d s).placementHeld = s.placementHeld := rfl
@[simp] theorem setDescent_pending (d : Descent) : (setDescent d s).pending = s.pending := rfl

@[simp] theorem setLink_phase (x : Link) : (setLink x s).phase = s.phase := rfl
@[simp] theorem setLink_mode (x : Link) : (setLink x s).mode = s.mode := rfl
@[simp] theorem setLink_config (x : Link) : (setLink x s).config = s.config := rfl
@[simp] theorem setLink_listenCount (x : Link) : (setLink x s).listenCount = s.listenCount := rfl
@[simp] theorem setLink_clampCount (x : Link) : (setLink x s).clampCount = s.clampCount := rfl
@[simp] theorem setLink_resetHeld (x : Link) : (setLink x s).resetHeld = s.resetHeld := rfl
@[simp] theorem setLink_line (x : Link) : (setLink x s).line = s.line := rfl
@[simp] theorem setLink_peers (x : Link) : (setLink x s).peers = s.peers := rfl
@[simp] theorem setLink_condition (x : Link) : (setLink x s).condition = s.condition := rfl
@[simp] theorem setLink_faults (x : Link) : (setLink x s).faults = s.faults := rfl
@[simp] theorem setLink_beat (x : Link) : (setLink x s).beat = s.beat := rfl
@[simp] theorem setLink_zones (x : Link) : (setLink x s).zones = s.zones := rfl
@[simp] theorem setLink_curtain (x : Link) : (setLink x s).curtain = s.curtain := rfl
@[simp] theorem setLink_pins (x : Link) : (setLink x s).pins = s.pins := rfl
@[simp] theorem setLink_lights (x : Link) : (setLink x s).lights = s.lights := rfl
@[simp] theorem setLink_calls (x : Link) : (setLink x s).calls = s.calls := rfl
@[simp] theorem setLink_panel (x : Link) : (setLink x s).panel = { s.panel with link := x } := rfl
@[simp] theorem setLink_boundaryUnderway (x : Link) : (setLink x s).boundaryUnderway = s.boundaryUnderway := rfl
@[simp] theorem setLink_placementHeld (x : Link) : (setLink x s).placementHeld = s.placementHeld := rfl
@[simp] theorem setLink_pending (x : Link) : (setLink x s).pending = s.pending := rfl

@[simp] theorem place_phase (a : Answer) : (place a s).phase = s.phase := rfl
@[simp] theorem place_mode (a : Answer) : (place a s).mode = s.mode := rfl
@[simp] theorem place_config (a : Answer) : (place a s).config = s.config := rfl
@[simp] theorem place_listenCount (a : Answer) : (place a s).listenCount = s.listenCount := rfl
@[simp] theorem place_clampCount (a : Answer) : (place a s).clampCount = s.clampCount := rfl
@[simp] theorem place_resetHeld (a : Answer) : (place a s).resetHeld = s.resetHeld := rfl
@[simp] theorem place_line (a : Answer) : (place a s).line = s.line := rfl
@[simp] theorem place_peers (a : Answer) : (place a s).peers = s.peers := rfl
@[simp] theorem place_condition (a : Answer) : (place a s).condition = s.condition := rfl
@[simp] theorem place_faults (a : Answer) : (place a s).faults = s.faults := rfl
@[simp] theorem place_beat (a : Answer) : (place a s).beat = s.beat := rfl
@[simp] theorem place_zones (a : Answer) : (place a s).zones = s.zones := rfl
@[simp] theorem place_curtain (a : Answer) : (place a s).curtain = s.curtain := rfl
@[simp] theorem place_pins (a : Answer) : (place a s).pins = s.pins := rfl
@[simp] theorem place_lights (a : Answer) : (place a s).lights = s.lights := rfl
@[simp] theorem place_calls (a : Answer) : (place a s).calls = s.calls := rfl
@[simp] theorem place_panel (a : Answer) : (place a s).panel = { s.panel with holder := some a } := rfl
@[simp] theorem place_boundaryUnderway (a : Answer) : (place a s).boundaryUnderway = s.boundaryUnderway := rfl
@[simp] theorem place_placementHeld (a : Answer) : (place a s).placementHeld = s.placementHeld := rfl
@[simp] theorem place_pending (a : Answer) : (place a s).pending = s.pending := rfl

@[simp] theorem overtakeExpiry_phase : (overtakeExpiry s).phase = s.phase := rfl
@[simp] theorem overtakeExpiry_mode : (overtakeExpiry s).mode = s.mode := rfl
@[simp] theorem overtakeExpiry_config : (overtakeExpiry s).config = s.config := rfl
@[simp] theorem overtakeExpiry_listenCount : (overtakeExpiry s).listenCount = s.listenCount := rfl
@[simp] theorem overtakeExpiry_clampCount : (overtakeExpiry s).clampCount = s.clampCount := rfl
@[simp] theorem overtakeExpiry_resetHeld : (overtakeExpiry s).resetHeld = s.resetHeld := rfl
@[simp] theorem overtakeExpiry_line : (overtakeExpiry s).line = s.line := rfl
@[simp] theorem overtakeExpiry_peers : (overtakeExpiry s).peers = s.peers := rfl
@[simp] theorem overtakeExpiry_condition : (overtakeExpiry s).condition = s.condition := rfl
@[simp] theorem overtakeExpiry_faults : (overtakeExpiry s).faults = s.faults := rfl
@[simp] theorem overtakeExpiry_beat : (overtakeExpiry s).beat = { s.beat with overtaken := true } := rfl
@[simp] theorem overtakeExpiry_zones : (overtakeExpiry s).zones = s.zones := rfl
@[simp] theorem overtakeExpiry_curtain : (overtakeExpiry s).curtain = s.curtain := rfl
@[simp] theorem overtakeExpiry_pins : (overtakeExpiry s).pins = s.pins := rfl
@[simp] theorem overtakeExpiry_lights : (overtakeExpiry s).lights = s.lights := rfl
@[simp] theorem overtakeExpiry_calls : (overtakeExpiry s).calls = s.calls := rfl
@[simp] theorem overtakeExpiry_panel : (overtakeExpiry s).panel = s.panel := rfl
@[simp] theorem overtakeExpiry_boundaryUnderway : (overtakeExpiry s).boundaryUnderway = s.boundaryUnderway := rfl
@[simp] theorem overtakeExpiry_placementHeld : (overtakeExpiry s).placementHeld = s.placementHeld := rfl
@[simp] theorem overtakeExpiry_pending : (overtakeExpiry s).pending = s.pending := rfl

/-! ### What follows from the fields -/

@[simp] theorem report_cfg (r : Report) : (report r s).cfg = s.cfg := rfl
@[simp] theorem report_working (r : Report) : (report r s).working = s.working := rfl

end Sys2Proof.Machine
end

