-- ==== Sys2Proof/Laws/Frames.lean ====
section
/-! SUPPORT. For each shared operation one lemma: the blocks of State it leaves alone. simp takes each as one rewriting
rule a block. -/

namespace Sys2Proof.Machine

/-- What every step of a fold keeps, the fold keeps. -/
theorem foldl_keeps {α β : Type} (p : State → α) (g : State → β → State) (h : ∀ s x, p (g s x) = p s) (xs : List β) :
    ∀ s, p (xs.foldl g s) = p s := by
  induction xs with
  | nil => intro s; rfl
  | cons x xs ih => intro s; rw [List.foldl_cons, ih, h]

variable (s : State)

@[simp] theorem reports_frame (rs : List Report) :
    (reports rs s).phase = s.phase ∧ (reports rs s).mode = s.mode ∧ (reports rs s).config = s.config
      ∧ (reports rs s).listenCount = s.listenCount ∧ (reports rs s).clampCount = s.clampCount
      ∧ (reports rs s).resetHeld = s.resetHeld ∧ (reports rs s).line = s.line ∧ (reports rs s).peers = s.peers
      ∧ (reports rs s).condition = s.condition ∧ (reports rs s).faults = s.faults ∧ (reports rs s).beat = s.beat
      ∧ (reports rs s).zones = s.zones ∧ (reports rs s).curtain = s.curtain ∧ (reports rs s).pins = s.pins
      ∧ (reports rs s).lights = s.lights ∧ (reports rs s).calls = s.calls
      ∧ (reports rs s).boundaryUnderway = s.boundaryUnderway ∧ (reports rs s).placementHeld = s.placementHeld
      ∧ (reports rs s).pending = s.pending := by
  refine ⟨?_, ?_, ?_, ?_, ?_, ?_, ?_, ?_, ?_, ?_, ?_, ?_, ?_, ?_, ?_, ?_, ?_, ?_, ?_⟩
  all_goals unfold reports
  · exact foldl_keeps (fun s => s.phase) _ (by intros; simp) _ _
  · exact foldl_keeps (fun s => s.mode) _ (by intros; simp) _ _
  · exact foldl_keeps (fun s => s.config) _ (by intros; simp) _ _
  · exact foldl_keeps (fun s => s.listenCount) _ (by intros; simp) _ _
  · exact foldl_keeps (fun s => s.clampCount) _ (by intros; simp) _ _
  · exact foldl_keeps (fun s => s.resetHeld) _ (by intros; simp) _ _
  · exact foldl_keeps (fun s => s.line) _ (by intros; simp) _ _
  · exact foldl_keeps (fun s => s.peers) _ (by intros; simp) _ _
  · exact foldl_keeps (fun s => s.condition) _ (by intros; simp) _ _
  · exact foldl_keeps (fun s => s.faults) _ (by intros; simp) _ _
  · exact foldl_keeps (fun s => s.beat) _ (by intros; simp) _ _
  · exact foldl_keeps (fun s => s.zones) _ (by intros; simp) _ _
  · exact foldl_keeps (fun s => s.curtain) _ (by intros; simp) _ _
  · exact foldl_keeps (fun s => s.pins) _ (by intros; simp) _ _
  · exact foldl_keeps (fun s => s.lights) _ (by intros; simp) _ _
  · exact foldl_keeps (fun s => s.calls) _ (by intros; simp) _ _
  · exact foldl_keeps (fun s => s.boundaryUnderway) _ (by intros; simp) _ _
  · exact foldl_keeps (fun s => s.placementHeld) _ (by intros; simp) _ _
  · exact foldl_keeps (fun s => s.pending) _ (by intros; simp) _ _

@[simp] theorem offer_frame (f : Payload) :
    (offer f s).phase = s.phase ∧ (offer f s).mode = s.mode ∧ (offer f s).config = s.config
      ∧ (offer f s).listenCount = s.listenCount ∧ (offer f s).clampCount = s.clampCount
      ∧ (offer f s).resetHeld = s.resetHeld ∧ (offer f s).peers = s.peers ∧ (offer f s).condition = s.condition
      ∧ (offer f s).faults = s.faults ∧ (offer f s).beat = s.beat ∧ (offer f s).zones = s.zones
      ∧ (offer f s).curtain = s.curtain ∧ (offer f s).pins = s.pins ∧ (offer f s).lights = s.lights
      ∧ (offer f s).calls = s.calls ∧ (offer f s).boundaryUnderway = s.boundaryUnderway
      ∧ (offer f s).placementHeld = s.placementHeld ∧ (offer f s).pending = s.pending := by
  unfold offer
  (repeat' split) <;> simp

@[simp] theorem returnFrame_frame (f : Payload) :
    (returnFrame f s).phase = s.phase ∧ (returnFrame f s).mode = s.mode ∧ (returnFrame f s).config = s.config
      ∧ (returnFrame f s).listenCount = s.listenCount ∧ (returnFrame f s).clampCount = s.clampCount
      ∧ (returnFrame f s).resetHeld = s.resetHeld ∧ (returnFrame f s).peers = s.peers
      ∧ (returnFrame f s).condition = s.condition ∧ (returnFrame f s).faults = s.faults
      ∧ (returnFrame f s).beat = s.beat ∧ (returnFrame f s).zones = s.zones
      ∧ (returnFrame f s).curtain = s.curtain ∧ (returnFrame f s).pins = s.pins
      ∧ (returnFrame f s).lights = s.lights ∧ (returnFrame f s).calls = s.calls
      ∧ (returnFrame f s).boundaryUnderway = s.boundaryUnderway
      ∧ (returnFrame f s).placementHeld = s.placementHeld ∧ (returnFrame f s).pending = s.pending := by
  unfold returnFrame
  (repeat' split) <;> simp

@[simp] theorem withdrawBeat_frame :
    (withdrawBeat s).phase = s.phase ∧ (withdrawBeat s).mode = s.mode ∧ (withdrawBeat s).config = s.config
      ∧ (withdrawBeat s).listenCount = s.listenCount ∧ (withdrawBeat s).clampCount = s.clampCount
      ∧ (withdrawBeat s).resetHeld = s.resetHeld ∧ (withdrawBeat s).peers = s.peers
      ∧ (withdrawBeat s).condition = s.condition ∧ (withdrawBeat s).faults = s.faults
      ∧ (withdrawBeat s).beat = s.beat ∧ (withdrawBeat s).zones = s.zones ∧ (withdrawBeat s).curtain = s.curtain
      ∧ (withdrawBeat s).pins = s.pins ∧ (withdrawBeat s).lights = s.lights ∧ (withdrawBeat s).calls = s.calls
      ∧ (withdrawBeat s).panel = s.panel ∧ (withdrawBeat s).boundaryUnderway = s.boundaryUnderway
      ∧ (withdrawBeat s).placementHeld = s.placementHeld ∧ (withdrawBeat s).pending = s.pending := by
  unfold withdrawBeat
  simp

@[simp] theorem supersede_frame (n : BitVec 16) (cs : List Channel) :
    (supersede n cs s).phase = s.phase ∧ (supersede n cs s).mode = s.mode ∧ (supersede n cs s).config = s.config
      ∧ (supersede n cs s).listenCount = s.listenCount ∧ (supersede n cs s).clampCount = s.clampCount
      ∧ (supersede n cs s).resetHeld = s.resetHeld ∧ (supersede n cs s).line = s.line
      ∧ (supersede n cs s).peers = s.peers ∧ (supersede n cs s).condition = s.condition
      ∧ (supersede n cs s).faults = s.faults ∧ (supersede n cs s).beat = s.beat
      ∧ (supersede n cs s).zones = s.zones ∧ (supersede n cs s).curtain = s.curtain
      ∧ (supersede n cs s).pins = s.pins ∧ (supersede n cs s).calls = s.calls
      ∧ (supersede n cs s).boundaryUnderway = s.boundaryUnderway
      ∧ (supersede n cs s).placementHeld = s.placementHeld ∧ (supersede n cs s).pending = s.pending := by
  unfold supersede
  simp

@[simp] theorem finishFades_frame :
    (finishFades s).phase = s.phase ∧ (finishFades s).mode = s.mode ∧ (finishFades s).config = s.config
      ∧ (finishFades s).listenCount = s.listenCount ∧ (finishFades s).clampCount = s.clampCount
      ∧ (finishFades s).resetHeld = s.resetHeld ∧ (finishFades s).line = s.line
      ∧ (finishFades s).peers = s.peers ∧ (finishFades s).condition = s.condition
      ∧ (finishFades s).faults = s.faults ∧ (finishFades s).beat = s.beat ∧ (finishFades s).zones = s.zones
      ∧ (finishFades s).curtain = s.curtain ∧ (finishFades s).pins = s.pins ∧ (finishFades s).calls = s.calls
      ∧ (finishFades s).boundaryUnderway = s.boundaryUnderway ∧ (finishFades s).placementHeld = s.placementHeld
      ∧ (finishFades s).pending = s.pending := by
  unfold finishFades
  simp

@[simp] theorem enterCue_frame (q : PreparedCue) (k : Nat) (n : BitVec 16) (cs : List Channel) :
    (enterCue q k n cs s).phase = s.phase ∧ (enterCue q k n cs s).mode = s.mode
      ∧ (enterCue q k n cs s).config = s.config ∧ (enterCue q k n cs s).listenCount = s.listenCount
      ∧ (enterCue q k n cs s).clampCount = s.clampCount ∧ (enterCue q k n cs s).resetHeld = s.resetHeld
      ∧ (enterCue q k n cs s).line = s.line ∧ (enterCue q k n cs s).peers = s.peers
      ∧ (enterCue q k n cs s).condition = s.condition ∧ (enterCue q k n cs s).faults = s.faults
      ∧ (enterCue q k n cs s).beat = s.beat ∧ (enterCue q k n cs s).zones = s.zones
      ∧ (enterCue q k n cs s).curtain = s.curtain ∧ (enterCue q k n cs s).pins = s.pins
      ∧ (enterCue q k n cs s).calls = s.calls ∧ (enterCue q k n cs s).boundaryUnderway = s.boundaryUnderway
      ∧ (enterCue q k n cs s).placementHeld = s.placementHeld ∧ (enterCue q k n cs s).pending = s.pending := by
  unfold enterCue
  simp

@[simp] theorem takeCue_frame (q : PreparedCue) (o : StartOutcome) :
    (takeCue q o s).phase = s.phase ∧ (takeCue q o s).mode = s.mode ∧ (takeCue q o s).config = s.config
      ∧ (takeCue q o s).listenCount = s.listenCount ∧ (takeCue q o s).clampCount = s.clampCount
      ∧ (takeCue q o s).resetHeld = s.resetHeld ∧ (takeCue q o s).line = s.line
      ∧ (takeCue q o s).peers = s.peers ∧ (takeCue q o s).condition = s.condition
      ∧ (takeCue q o s).faults = s.faults ∧ (takeCue q o s).beat = s.beat ∧ (takeCue q o s).zones = s.zones
      ∧ (takeCue q o s).curtain = s.curtain ∧ (takeCue q o s).pins = s.pins ∧ (takeCue q o s).calls = s.calls
      ∧ (takeCue q o s).boundaryUnderway = s.boundaryUnderway ∧ (takeCue q o s).placementHeld = s.placementHeld
      ∧ (takeCue q o s).pending = s.pending := by
  unfold takeCue
  (repeat' split) <;> simp

@[simp] theorem takeCueFrame_frame (x : Nat) (b : AreaBlock) (l d : Nat) (st : Start) :
    (takeCueFrame x b l d st s).phase = s.phase ∧ (takeCueFrame x b l d st s).mode = s.mode
      ∧ (takeCueFrame x b l d st s).config = s.config ∧ (takeCueFrame x b l d st s).listenCount = s.listenCount
      ∧ (takeCueFrame x b l d st s).clampCount = s.clampCount
      ∧ (takeCueFrame x b l d st s).resetHeld = s.resetHeld ∧ (takeCueFrame x b l d st s).line = s.line
      ∧ (takeCueFrame x b l d st s).peers = s.peers ∧ (takeCueFrame x b l d st s).condition = s.condition
      ∧ (takeCueFrame x b l d st s).faults = s.faults ∧ (takeCueFrame x b l d st s).beat = s.beat
      ∧ (takeCueFrame x b l d st s).zones = s.zones ∧ (takeCueFrame x b l d st s).curtain = s.curtain
      ∧ (takeCueFrame x b l d st s).pins = s.pins ∧ (takeCueFrame x b l d st s).calls = s.calls
      ∧ (takeCueFrame x b l d st s).boundaryUnderway = s.boundaryUnderway
      ∧ (takeCueFrame x b l d st s).placementHeld = s.placementHeld
      ∧ (takeCueFrame x b l d st s).pending = s.pending := by
  unfold takeCueFrame
  simp

@[simp] theorem takeLinkedCue_frame (o : Origin) (b : AreaBlock) (q : LinkedCue) :
    (takeLinkedCue o b q s).phase = s.phase ∧ (takeLinkedCue o b q s).mode = s.mode
      ∧ (takeLinkedCue o b q s).config = s.config ∧ (takeLinkedCue o b q s).listenCount = s.listenCount
      ∧ (takeLinkedCue o b q s).clampCount = s.clampCount ∧ (takeLinkedCue o b q s).resetHeld = s.resetHeld
      ∧ (takeLinkedCue o b q s).line = s.line ∧ (takeLinkedCue o b q s).peers = s.peers
      ∧ (takeLinkedCue o b q s).condition = s.condition ∧ (takeLinkedCue o b q s).faults = s.faults
      ∧ (takeLinkedCue o b q s).beat = s.beat ∧ (takeLinkedCue o b q s).zones = s.zones
      ∧ (takeLinkedCue o b q s).curtain = s.curtain ∧ (takeLinkedCue o b q s).pins = s.pins
      ∧ (takeLinkedCue o b q s).calls = s.calls ∧ (takeLinkedCue o b q s).boundaryUnderway = s.boundaryUnderway
      ∧ (takeLinkedCue o b q s).placementHeld = s.placementHeld ∧ (takeLinkedCue o b q s).pending = s.pending := by
  unfold takeLinkedCue
  simp

@[simp] theorem stepFades_frame :
    (stepFades s).phase = s.phase ∧ (stepFades s).mode = s.mode ∧ (stepFades s).config = s.config
      ∧ (stepFades s).listenCount = s.listenCount ∧ (stepFades s).clampCount = s.clampCount
      ∧ (stepFades s).resetHeld = s.resetHeld ∧ (stepFades s).line = s.line ∧ (stepFades s).peers = s.peers
      ∧ (stepFades s).condition = s.condition ∧ (stepFades s).faults = s.faults ∧ (stepFades s).beat = s.beat
      ∧ (stepFades s).zones = s.zones ∧ (stepFades s).curtain = s.curtain ∧ (stepFades s).pins = s.pins
      ∧ (stepFades s).calls = s.calls ∧ (stepFades s).boundaryUnderway = s.boundaryUnderway
      ∧ (stepFades s).placementHeld = s.placementHeld ∧ (stepFades s).pending = s.pending := by
  unfold stepFades
  simp

@[simp] theorem startDueCue_frame (e : CueEntry) :
    (startDueCue e s).phase = s.phase ∧ (startDueCue e s).mode = s.mode ∧ (startDueCue e s).config = s.config
      ∧ (startDueCue e s).listenCount = s.listenCount ∧ (startDueCue e s).clampCount = s.clampCount
      ∧ (startDueCue e s).resetHeld = s.resetHeld ∧ (startDueCue e s).line = s.line
      ∧ (startDueCue e s).peers = s.peers ∧ (startDueCue e s).condition = s.condition
      ∧ (startDueCue e s).faults = s.faults ∧ (startDueCue e s).beat = s.beat
      ∧ (startDueCue e s).zones = s.zones ∧ (startDueCue e s).curtain = s.curtain
      ∧ (startDueCue e s).pins = s.pins ∧ (startDueCue e s).calls = s.calls
      ∧ (startDueCue e s).boundaryUnderway = s.boundaryUnderway
      ∧ (startDueCue e s).placementHeld = s.placementHeld ∧ (startDueCue e s).pending = s.pending := by
  unfold startDueCue
  (repeat' split) <;> simp

@[simp] theorem lightBoundary_frame :
    (lightBoundary s).phase = s.phase ∧ (lightBoundary s).mode = s.mode ∧ (lightBoundary s).config = s.config
      ∧ (lightBoundary s).listenCount = s.listenCount ∧ (lightBoundary s).clampCount = s.clampCount
      ∧ (lightBoundary s).resetHeld = s.resetHeld ∧ (lightBoundary s).line = s.line
      ∧ (lightBoundary s).peers = s.peers ∧ (lightBoundary s).condition = s.condition
      ∧ (lightBoundary s).faults = s.faults ∧ (lightBoundary s).beat = s.beat
      ∧ (lightBoundary s).zones = s.zones ∧ (lightBoundary s).curtain = s.curtain
      ∧ (lightBoundary s).pins = s.pins ∧ (lightBoundary s).calls = s.calls
      ∧ (lightBoundary s).boundaryUnderway = s.boundaryUnderway
      ∧ (lightBoundary s).placementHeld = s.placementHeld ∧ (lightBoundary s).pending = s.pending := by
  have h : ∀ {α : Type} (p : State → α), (∀ s e, p (startDueCue e s) = p s) →
      ∀ (es : List CueEntry) s, p (es.foldl (fun s e => startDueCue e s) s) = p s :=
    fun p hp es => foldl_keeps p _ (fun s e => hp s e) es
  unfold lightBoundary
  simp [h (fun s => s.phase), h (fun s => s.mode), h (fun s => s.config), h (fun s => s.listenCount), h (fun s => s.clampCount), h (fun s => s.resetHeld), h (fun s => s.line), h (fun s => s.peers), h (fun s => s.condition), h (fun s => s.faults), h (fun s => s.beat), h (fun s => s.zones), h (fun s => s.curtain), h (fun s => s.pins), h (fun s => s.calls), h (fun s => s.boundaryUnderway), h (fun s => s.placementHeld), h (fun s => s.pending)]

@[simp] theorem lightStep_frame :
    (lightStep s).phase = s.phase ∧ (lightStep s).mode = s.mode ∧ (lightStep s).config = s.config
      ∧ (lightStep s).listenCount = s.listenCount ∧ (lightStep s).clampCount = s.clampCount
      ∧ (lightStep s).resetHeld = s.resetHeld ∧ (lightStep s).line = s.line ∧ (lightStep s).peers = s.peers
      ∧ (lightStep s).condition = s.condition ∧ (lightStep s).faults = s.faults ∧ (lightStep s).beat = s.beat
      ∧ (lightStep s).zones = s.zones ∧ (lightStep s).curtain = s.curtain ∧ (lightStep s).pins = s.pins
      ∧ (lightStep s).calls = s.calls ∧ (lightStep s).boundaryUnderway = s.boundaryUnderway
      ∧ (lightStep s).placementHeld = s.placementHeld ∧ (lightStep s).pending = s.pending := by
  unfold lightStep
  simp

@[simp] theorem cancelFades_frame :
    (cancelFades s).phase = s.phase ∧ (cancelFades s).mode = s.mode ∧ (cancelFades s).config = s.config
      ∧ (cancelFades s).listenCount = s.listenCount ∧ (cancelFades s).clampCount = s.clampCount
      ∧ (cancelFades s).resetHeld = s.resetHeld ∧ (cancelFades s).line = s.line
      ∧ (cancelFades s).peers = s.peers ∧ (cancelFades s).condition = s.condition
      ∧ (cancelFades s).faults = s.faults ∧ (cancelFades s).beat = s.beat ∧ (cancelFades s).zones = s.zones
      ∧ (cancelFades s).curtain = s.curtain ∧ (cancelFades s).pins = s.pins ∧ (cancelFades s).calls = s.calls
      ∧ (cancelFades s).boundaryUnderway = s.boundaryUnderway ∧ (cancelFades s).placementHeld = s.placementHeld
      ∧ (cancelFades s).pending = s.pending := by
  unfold cancelFades
  dsimp only
  (repeat' split) <;> simp

@[simp] theorem lightCondition_frame (p : Condition) :
    (lightCondition p s).phase = s.phase ∧ (lightCondition p s).mode = s.mode
      ∧ (lightCondition p s).config = s.config ∧ (lightCondition p s).listenCount = s.listenCount
      ∧ (lightCondition p s).clampCount = s.clampCount ∧ (lightCondition p s).resetHeld = s.resetHeld
      ∧ (lightCondition p s).line = s.line ∧ (lightCondition p s).peers = s.peers
      ∧ (lightCondition p s).condition = s.condition ∧ (lightCondition p s).faults = s.faults
      ∧ (lightCondition p s).beat = s.beat ∧ (lightCondition p s).zones = s.zones
      ∧ (lightCondition p s).curtain = s.curtain ∧ (lightCondition p s).pins = s.pins
      ∧ (lightCondition p s).calls = s.calls ∧ (lightCondition p s).boundaryUnderway = s.boundaryUnderway
      ∧ (lightCondition p s).placementHeld = s.placementHeld ∧ (lightCondition p s).pending = s.pending := by
  unfold lightCondition
  (repeat' split) <;> simp

@[simp] theorem setMasterLevel_frame (v : Nat) :
    (setMasterLevel v s).phase = s.phase ∧ (setMasterLevel v s).mode = s.mode
      ∧ (setMasterLevel v s).config = s.config ∧ (setMasterLevel v s).listenCount = s.listenCount
      ∧ (setMasterLevel v s).clampCount = s.clampCount ∧ (setMasterLevel v s).resetHeld = s.resetHeld
      ∧ (setMasterLevel v s).line = s.line ∧ (setMasterLevel v s).peers = s.peers
      ∧ (setMasterLevel v s).condition = s.condition ∧ (setMasterLevel v s).faults = s.faults
      ∧ (setMasterLevel v s).beat = s.beat ∧ (setMasterLevel v s).zones = s.zones
      ∧ (setMasterLevel v s).curtain = s.curtain ∧ (setMasterLevel v s).pins = s.pins
      ∧ (setMasterLevel v s).calls = s.calls ∧ (setMasterLevel v s).boundaryUnderway = s.boundaryUnderway
      ∧ (setMasterLevel v s).placementHeld = s.placementHeld ∧ (setMasterLevel v s).pending = s.pending := by
  unfold setMasterLevel
  simp

@[simp] theorem completeFade_frame (n : Nat) :
    (completeFade n s).phase = s.phase ∧ (completeFade n s).mode = s.mode ∧ (completeFade n s).config = s.config
      ∧ (completeFade n s).listenCount = s.listenCount ∧ (completeFade n s).clampCount = s.clampCount
      ∧ (completeFade n s).resetHeld = s.resetHeld ∧ (completeFade n s).line = s.line
      ∧ (completeFade n s).peers = s.peers ∧ (completeFade n s).condition = s.condition
      ∧ (completeFade n s).faults = s.faults ∧ (completeFade n s).beat = s.beat
      ∧ (completeFade n s).zones = s.zones ∧ (completeFade n s).curtain = s.curtain
      ∧ (completeFade n s).pins = s.pins ∧ (completeFade n s).calls = s.calls
      ∧ (completeFade n s).boundaryUnderway = s.boundaryUnderway
      ∧ (completeFade n s).placementHeld = s.placementHeld ∧ (completeFade n s).pending = s.pending := by
  unfold completeFade
  (repeat' split) <;> simp

@[simp] theorem startEntry_frame (e : CallEntry) :
    (startEntry e s).phase = s.phase ∧ (startEntry e s).mode = s.mode ∧ (startEntry e s).config = s.config
      ∧ (startEntry e s).listenCount = s.listenCount ∧ (startEntry e s).clampCount = s.clampCount
      ∧ (startEntry e s).resetHeld = s.resetHeld ∧ (startEntry e s).line = s.line
      ∧ (startEntry e s).peers = s.peers ∧ (startEntry e s).condition = s.condition
      ∧ (startEntry e s).faults = s.faults ∧ (startEntry e s).beat = s.beat ∧ (startEntry e s).zones = s.zones
      ∧ (startEntry e s).curtain = s.curtain ∧ (startEntry e s).pins = s.pins
      ∧ (startEntry e s).boundaryUnderway = s.boundaryUnderway
      ∧ (startEntry e s).placementHeld = s.placementHeld ∧ (startEntry e s).pending = s.pending := by
  unfold startEntry
  (repeat' split) <;> simp

@[simp] theorem awaitEntry_frame (e : CallEntry) (w : Wait) :
    (awaitEntry e w s).phase = s.phase ∧ (awaitEntry e w s).mode = s.mode ∧ (awaitEntry e w s).config = s.config
      ∧ (awaitEntry e w s).listenCount = s.listenCount ∧ (awaitEntry e w s).clampCount = s.clampCount
      ∧ (awaitEntry e w s).resetHeld = s.resetHeld ∧ (awaitEntry e w s).line = s.line
      ∧ (awaitEntry e w s).peers = s.peers ∧ (awaitEntry e w s).condition = s.condition
      ∧ (awaitEntry e w s).faults = s.faults ∧ (awaitEntry e w s).beat = s.beat
      ∧ (awaitEntry e w s).zones = s.zones ∧ (awaitEntry e w s).curtain = s.curtain
      ∧ (awaitEntry e w s).pins = s.pins ∧ (awaitEntry e w s).lights = s.lights
      ∧ (awaitEntry e w s).panel = s.panel ∧ (awaitEntry e w s).boundaryUnderway = s.boundaryUnderway
      ∧ (awaitEntry e w s).placementHeld = s.placementHeld ∧ (awaitEntry e w s).pending = s.pending := by
  unfold awaitEntry
  simp

@[simp] theorem judgeChosen_frame (b : Bool) (e : CallEntry) :
    (judgeChosen b e s).phase = s.phase ∧ (judgeChosen b e s).mode = s.mode
      ∧ (judgeChosen b e s).config = s.config ∧ (judgeChosen b e s).listenCount = s.listenCount
      ∧ (judgeChosen b e s).clampCount = s.clampCount ∧ (judgeChosen b e s).resetHeld = s.resetHeld
      ∧ (judgeChosen b e s).line = s.line ∧ (judgeChosen b e s).peers = s.peers
      ∧ (judgeChosen b e s).condition = s.condition ∧ (judgeChosen b e s).faults = s.faults
      ∧ (judgeChosen b e s).beat = s.beat ∧ (judgeChosen b e s).zones = s.zones
      ∧ (judgeChosen b e s).curtain = s.curtain ∧ (judgeChosen b e s).pins = s.pins
      ∧ (judgeChosen b e s).boundaryUnderway = s.boundaryUnderway
      ∧ (judgeChosen b e s).placementHeld = s.placementHeld ∧ (judgeChosen b e s).pending = s.pending := by
  unfold judgeChosen
  dsimp only
  (repeat' split) <;> simp

@[simp] theorem choose_frame (b : Bool) :
    (choose b s).phase = s.phase ∧ (choose b s).mode = s.mode ∧ (choose b s).config = s.config
      ∧ (choose b s).listenCount = s.listenCount ∧ (choose b s).clampCount = s.clampCount
      ∧ (choose b s).resetHeld = s.resetHeld ∧ (choose b s).line = s.line ∧ (choose b s).peers = s.peers
      ∧ (choose b s).condition = s.condition ∧ (choose b s).faults = s.faults ∧ (choose b s).beat = s.beat
      ∧ (choose b s).zones = s.zones ∧ (choose b s).curtain = s.curtain ∧ (choose b s).pins = s.pins
      ∧ (choose b s).boundaryUnderway = s.boundaryUnderway ∧ (choose b s).placementHeld = s.placementHeld
      ∧ (choose b s).pending = s.pending := by
  unfold choose
  (repeat' split) <;> simp

@[simp] theorem removeCall_frame (k : CallKey) :
    (removeCall k s).phase = s.phase ∧ (removeCall k s).mode = s.mode ∧ (removeCall k s).config = s.config
      ∧ (removeCall k s).listenCount = s.listenCount ∧ (removeCall k s).clampCount = s.clampCount
      ∧ (removeCall k s).resetHeld = s.resetHeld ∧ (removeCall k s).line = s.line
      ∧ (removeCall k s).peers = s.peers ∧ (removeCall k s).condition = s.condition
      ∧ (removeCall k s).faults = s.faults ∧ (removeCall k s).beat = s.beat ∧ (removeCall k s).zones = s.zones
      ∧ (removeCall k s).curtain = s.curtain ∧ (removeCall k s).pins = s.pins
      ∧ (removeCall k s).lights = s.lights ∧ (removeCall k s).panel = s.panel
      ∧ (removeCall k s).boundaryUnderway = s.boundaryUnderway
      ∧ (removeCall k s).placementHeld = s.placementHeld ∧ (removeCall k s).pending = s.pending := by
  unfold removeCall
  (repeat' split) <;> simp

@[simp] theorem enqueueCall_frame (e : CallEntry) :
    (enqueueCall e s).phase = s.phase ∧ (enqueueCall e s).mode = s.mode ∧ (enqueueCall e s).config = s.config
      ∧ (enqueueCall e s).listenCount = s.listenCount ∧ (enqueueCall e s).clampCount = s.clampCount
      ∧ (enqueueCall e s).resetHeld = s.resetHeld ∧ (enqueueCall e s).line = s.line
      ∧ (enqueueCall e s).peers = s.peers ∧ (enqueueCall e s).condition = s.condition
      ∧ (enqueueCall e s).faults = s.faults ∧ (enqueueCall e s).beat = s.beat
      ∧ (enqueueCall e s).zones = s.zones ∧ (enqueueCall e s).curtain = s.curtain
      ∧ (enqueueCall e s).pins = s.pins ∧ (enqueueCall e s).boundaryUnderway = s.boundaryUnderway
      ∧ (enqueueCall e s).placementHeld = s.placementHeld ∧ (enqueueCall e s).pending = s.pending := by
  unfold enqueueCall
  (repeat' split) <;> simp

@[simp] theorem takeCallFrame_frame (e : CallEntry) :
    (takeCallFrame e s).phase = s.phase ∧ (takeCallFrame e s).mode = s.mode
      ∧ (takeCallFrame e s).config = s.config ∧ (takeCallFrame e s).listenCount = s.listenCount
      ∧ (takeCallFrame e s).clampCount = s.clampCount ∧ (takeCallFrame e s).resetHeld = s.resetHeld
      ∧ (takeCallFrame e s).line = s.line ∧ (takeCallFrame e s).peers = s.peers
      ∧ (takeCallFrame e s).condition = s.condition ∧ (takeCallFrame e s).faults = s.faults
      ∧ (takeCallFrame e s).beat = s.beat ∧ (takeCallFrame e s).zones = s.zones
      ∧ (takeCallFrame e s).curtain = s.curtain ∧ (takeCallFrame e s).pins = s.pins
      ∧ (takeCallFrame e s).boundaryUnderway = s.boundaryUnderway
      ∧ (takeCallFrame e s).placementHeld = s.placementHeld ∧ (takeCallFrame e s).pending = s.pending := by
  unfold takeCallFrame
  (repeat' split) <;> simp

@[simp] theorem placeWarning_frame :
    (placeWarning s).phase = s.phase ∧ (placeWarning s).mode = s.mode ∧ (placeWarning s).config = s.config
      ∧ (placeWarning s).listenCount = s.listenCount ∧ (placeWarning s).clampCount = s.clampCount
      ∧ (placeWarning s).resetHeld = s.resetHeld ∧ (placeWarning s).line = s.line
      ∧ (placeWarning s).peers = s.peers ∧ (placeWarning s).condition = s.condition
      ∧ (placeWarning s).faults = s.faults ∧ (placeWarning s).beat = s.beat ∧ (placeWarning s).zones = s.zones
      ∧ (placeWarning s).curtain = s.curtain ∧ (placeWarning s).pins = s.pins
      ∧ (placeWarning s).boundaryUnderway = s.boundaryUnderway ∧ (placeWarning s).pending = s.pending := by
  unfold placeWarning
  (repeat' split) <;> simp

@[simp] theorem callBoundary_frame :
    (callBoundary s).phase = s.phase ∧ (callBoundary s).mode = s.mode ∧ (callBoundary s).config = s.config
      ∧ (callBoundary s).listenCount = s.listenCount ∧ (callBoundary s).clampCount = s.clampCount
      ∧ (callBoundary s).resetHeld = s.resetHeld ∧ (callBoundary s).line = s.line
      ∧ (callBoundary s).peers = s.peers ∧ (callBoundary s).condition = s.condition
      ∧ (callBoundary s).faults = s.faults ∧ (callBoundary s).beat = s.beat ∧ (callBoundary s).zones = s.zones
      ∧ (callBoundary s).curtain = s.curtain ∧ (callBoundary s).pins = s.pins
      ∧ (callBoundary s).boundaryUnderway = s.boundaryUnderway
      ∧ (callBoundary s).placementHeld = s.placementHeld ∧ (callBoundary s).pending = s.pending := by
  unfold callBoundary
  (repeat' split) <;> simp

@[simp] theorem cadencePhase_frame :
    (cadencePhase s).phase = s.phase ∧ (cadencePhase s).mode = s.mode ∧ (cadencePhase s).config = s.config
      ∧ (cadencePhase s).listenCount = s.listenCount ∧ (cadencePhase s).clampCount = s.clampCount
      ∧ (cadencePhase s).resetHeld = s.resetHeld ∧ (cadencePhase s).line = s.line
      ∧ (cadencePhase s).peers = s.peers ∧ (cadencePhase s).condition = s.condition
      ∧ (cadencePhase s).faults = s.faults ∧ (cadencePhase s).beat = s.beat ∧ (cadencePhase s).zones = s.zones
      ∧ (cadencePhase s).curtain = s.curtain ∧ (cadencePhase s).pins = s.pins
      ∧ (cadencePhase s).lights = s.lights ∧ (cadencePhase s).panel = s.panel
      ∧ (cadencePhase s).boundaryUnderway = s.boundaryUnderway
      ∧ (cadencePhase s).placementHeld = s.placementHeld ∧ (cadencePhase s).pending = s.pending := by
  unfold cadencePhase
  (repeat' split) <;> simp

@[simp] theorem endPlaying_frame (k : CallKey) :
    (endPlaying k s).phase = s.phase ∧ (endPlaying k s).mode = s.mode ∧ (endPlaying k s).config = s.config
      ∧ (endPlaying k s).listenCount = s.listenCount ∧ (endPlaying k s).clampCount = s.clampCount
      ∧ (endPlaying k s).resetHeld = s.resetHeld ∧ (endPlaying k s).line = s.line
      ∧ (endPlaying k s).peers = s.peers ∧ (endPlaying k s).condition = s.condition
      ∧ (endPlaying k s).faults = s.faults ∧ (endPlaying k s).beat = s.beat ∧ (endPlaying k s).zones = s.zones
      ∧ (endPlaying k s).curtain = s.curtain ∧ (endPlaying k s).pins = s.pins
      ∧ (endPlaying k s).lights = s.lights ∧ (endPlaying k s).panel = s.panel
      ∧ (endPlaying k s).boundaryUnderway = s.boundaryUnderway
      ∧ (endPlaying k s).placementHeld = s.placementHeld ∧ (endPlaying k s).pending = s.pending := by
  unfold endPlaying
  simp

@[simp] theorem restAfter_frame (k : CallKey) :
    (restAfter k s).phase = s.phase ∧ (restAfter k s).mode = s.mode ∧ (restAfter k s).config = s.config
      ∧ (restAfter k s).listenCount = s.listenCount ∧ (restAfter k s).clampCount = s.clampCount
      ∧ (restAfter k s).resetHeld = s.resetHeld ∧ (restAfter k s).line = s.line
      ∧ (restAfter k s).peers = s.peers ∧ (restAfter k s).condition = s.condition
      ∧ (restAfter k s).faults = s.faults ∧ (restAfter k s).beat = s.beat ∧ (restAfter k s).zones = s.zones
      ∧ (restAfter k s).curtain = s.curtain ∧ (restAfter k s).pins = s.pins ∧ (restAfter k s).lights = s.lights
      ∧ (restAfter k s).boundaryUnderway = s.boundaryUnderway ∧ (restAfter k s).placementHeld = s.placementHeld
      ∧ (restAfter k s).pending = s.pending := by
  unfold restAfter
  (repeat' split) <;> simp

@[simp] theorem evacuationPhase_frame :
    (evacuationPhase s).phase = s.phase ∧ (evacuationPhase s).mode = s.mode
      ∧ (evacuationPhase s).config = s.config ∧ (evacuationPhase s).listenCount = s.listenCount
      ∧ (evacuationPhase s).clampCount = s.clampCount ∧ (evacuationPhase s).resetHeld = s.resetHeld
      ∧ (evacuationPhase s).line = s.line ∧ (evacuationPhase s).peers = s.peers
      ∧ (evacuationPhase s).condition = s.condition ∧ (evacuationPhase s).faults = s.faults
      ∧ (evacuationPhase s).beat = s.beat ∧ (evacuationPhase s).zones = s.zones
      ∧ (evacuationPhase s).curtain = s.curtain ∧ (evacuationPhase s).pins = s.pins
      ∧ (evacuationPhase s).lights = s.lights ∧ (evacuationPhase s).panel = s.panel
      ∧ (evacuationPhase s).boundaryUnderway = s.boundaryUnderway
      ∧ (evacuationPhase s).placementHeld = s.placementHeld ∧ (evacuationPhase s).pending = s.pending := by
  unfold evacuationPhase
  (repeat' split) <;> simp

@[simp] theorem setSilence_frame :
    (setSilence s).phase = s.phase ∧ (setSilence s).mode = s.mode ∧ (setSilence s).config = s.config
      ∧ (setSilence s).listenCount = s.listenCount ∧ (setSilence s).clampCount = s.clampCount
      ∧ (setSilence s).resetHeld = s.resetHeld ∧ (setSilence s).line = s.line ∧ (setSilence s).peers = s.peers
      ∧ (setSilence s).condition = s.condition ∧ (setSilence s).faults = s.faults ∧ (setSilence s).beat = s.beat
      ∧ (setSilence s).zones = s.zones ∧ (setSilence s).curtain = s.curtain ∧ (setSilence s).pins = s.pins
      ∧ (setSilence s).lights = s.lights ∧ (setSilence s).boundaryUnderway = s.boundaryUnderway
      ∧ (setSilence s).placementHeld = s.placementHeld ∧ (setSilence s).pending = s.pending := by
  unfold setSilence
  (repeat' split) <;> simp

@[simp] theorem clearSilence_frame (c : SilenceCause) :
    (clearSilence c s).phase = s.phase ∧ (clearSilence c s).mode = s.mode ∧ (clearSilence c s).config = s.config
      ∧ (clearSilence c s).listenCount = s.listenCount ∧ (clearSilence c s).clampCount = s.clampCount
      ∧ (clearSilence c s).resetHeld = s.resetHeld ∧ (clearSilence c s).line = s.line
      ∧ (clearSilence c s).peers = s.peers ∧ (clearSilence c s).condition = s.condition
      ∧ (clearSilence c s).faults = s.faults ∧ (clearSilence c s).beat = s.beat
      ∧ (clearSilence c s).zones = s.zones ∧ (clearSilence c s).curtain = s.curtain
      ∧ (clearSilence c s).pins = s.pins ∧ (clearSilence c s).lights = s.lights
      ∧ (clearSilence c s).boundaryUnderway = s.boundaryUnderway
      ∧ (clearSilence c s).placementHeld = s.placementHeld ∧ (clearSilence c s).pending = s.pending := by
  unfold clearSilence
  (repeat' split) <;> simp

@[simp] theorem enterAlarmCalls_frame :
    (enterAlarmCalls s).phase = s.phase ∧ (enterAlarmCalls s).mode = s.mode
      ∧ (enterAlarmCalls s).config = s.config ∧ (enterAlarmCalls s).listenCount = s.listenCount
      ∧ (enterAlarmCalls s).clampCount = s.clampCount ∧ (enterAlarmCalls s).resetHeld = s.resetHeld
      ∧ (enterAlarmCalls s).line = s.line ∧ (enterAlarmCalls s).peers = s.peers
      ∧ (enterAlarmCalls s).condition = s.condition ∧ (enterAlarmCalls s).faults = s.faults
      ∧ (enterAlarmCalls s).beat = s.beat ∧ (enterAlarmCalls s).zones = s.zones
      ∧ (enterAlarmCalls s).curtain = s.curtain ∧ (enterAlarmCalls s).pins = s.pins
      ∧ (enterAlarmCalls s).lights = s.lights ∧ (enterAlarmCalls s).boundaryUnderway = s.boundaryUnderway
      ∧ (enterAlarmCalls s).placementHeld = s.placementHeld ∧ (enterAlarmCalls s).pending = s.pending := by
  unfold enterAlarmCalls
  dsimp only
  (repeat' split) <;> simp

@[simp] theorem leaveAlarmCalls_frame :
    (leaveAlarmCalls s).phase = s.phase ∧ (leaveAlarmCalls s).mode = s.mode
      ∧ (leaveAlarmCalls s).config = s.config ∧ (leaveAlarmCalls s).listenCount = s.listenCount
      ∧ (leaveAlarmCalls s).clampCount = s.clampCount ∧ (leaveAlarmCalls s).resetHeld = s.resetHeld
      ∧ (leaveAlarmCalls s).line = s.line ∧ (leaveAlarmCalls s).peers = s.peers
      ∧ (leaveAlarmCalls s).condition = s.condition ∧ (leaveAlarmCalls s).faults = s.faults
      ∧ (leaveAlarmCalls s).beat = s.beat ∧ (leaveAlarmCalls s).zones = s.zones
      ∧ (leaveAlarmCalls s).curtain = s.curtain ∧ (leaveAlarmCalls s).pins = s.pins
      ∧ (leaveAlarmCalls s).lights = s.lights ∧ (leaveAlarmCalls s).boundaryUnderway = s.boundaryUnderway
      ∧ (leaveAlarmCalls s).placementHeld = s.placementHeld ∧ (leaveAlarmCalls s).pending = s.pending := by
  unfold leaveAlarmCalls
  simp

@[simp] theorem pauseCalls_frame :
    (pauseCalls s).phase = s.phase ∧ (pauseCalls s).mode = s.mode ∧ (pauseCalls s).config = s.config
      ∧ (pauseCalls s).listenCount = s.listenCount ∧ (pauseCalls s).clampCount = s.clampCount
      ∧ (pauseCalls s).resetHeld = s.resetHeld ∧ (pauseCalls s).line = s.line ∧ (pauseCalls s).peers = s.peers
      ∧ (pauseCalls s).condition = s.condition ∧ (pauseCalls s).faults = s.faults ∧ (pauseCalls s).beat = s.beat
      ∧ (pauseCalls s).zones = s.zones ∧ (pauseCalls s).curtain = s.curtain ∧ (pauseCalls s).pins = s.pins
      ∧ (pauseCalls s).boundaryUnderway = s.boundaryUnderway ∧ (pauseCalls s).placementHeld = s.placementHeld
      ∧ (pauseCalls s).pending = s.pending := by
  unfold pauseCalls
  simp

@[simp] theorem resumeCalls_frame :
    (resumeCalls s).phase = s.phase ∧ (resumeCalls s).mode = s.mode ∧ (resumeCalls s).config = s.config
      ∧ (resumeCalls s).listenCount = s.listenCount ∧ (resumeCalls s).clampCount = s.clampCount
      ∧ (resumeCalls s).resetHeld = s.resetHeld ∧ (resumeCalls s).line = s.line
      ∧ (resumeCalls s).peers = s.peers ∧ (resumeCalls s).condition = s.condition
      ∧ (resumeCalls s).faults = s.faults ∧ (resumeCalls s).beat = s.beat ∧ (resumeCalls s).zones = s.zones
      ∧ (resumeCalls s).curtain = s.curtain ∧ (resumeCalls s).pins = s.pins
      ∧ (resumeCalls s).boundaryUnderway = s.boundaryUnderway ∧ (resumeCalls s).placementHeld = s.placementHeld
      ∧ (resumeCalls s).pending = s.pending := by
  unfold resumeCalls
  (repeat' split) <;> simp

@[simp] theorem callCondition_frame (p : Condition) :
    (callCondition p s).phase = s.phase ∧ (callCondition p s).mode = s.mode
      ∧ (callCondition p s).config = s.config ∧ (callCondition p s).listenCount = s.listenCount
      ∧ (callCondition p s).clampCount = s.clampCount ∧ (callCondition p s).resetHeld = s.resetHeld
      ∧ (callCondition p s).line = s.line ∧ (callCondition p s).peers = s.peers
      ∧ (callCondition p s).condition = s.condition ∧ (callCondition p s).faults = s.faults
      ∧ (callCondition p s).beat = s.beat ∧ (callCondition p s).zones = s.zones
      ∧ (callCondition p s).curtain = s.curtain ∧ (callCondition p s).pins = s.pins
      ∧ (callCondition p s).boundaryUnderway = s.boundaryUnderway
      ∧ (callCondition p s).placementHeld = s.placementHeld ∧ (callCondition p s).pending = s.pending := by
  unfold callCondition
  (repeat' split) <;> simp

@[simp] theorem putCurtainFault_frame (v : Bool) :
    (putCurtainFault v s).phase = s.phase ∧ (putCurtainFault v s).mode = s.mode
      ∧ (putCurtainFault v s).config = s.config ∧ (putCurtainFault v s).listenCount = s.listenCount
      ∧ (putCurtainFault v s).clampCount = s.clampCount ∧ (putCurtainFault v s).resetHeld = s.resetHeld
      ∧ (putCurtainFault v s).line = s.line ∧ (putCurtainFault v s).peers = s.peers
      ∧ (putCurtainFault v s).condition = s.condition ∧ (putCurtainFault v s).beat = s.beat
      ∧ (putCurtainFault v s).zones = s.zones ∧ (putCurtainFault v s).curtain = s.curtain
      ∧ (putCurtainFault v s).pins = s.pins ∧ (putCurtainFault v s).lights = s.lights
      ∧ (putCurtainFault v s).calls = s.calls ∧ (putCurtainFault v s).boundaryUnderway = s.boundaryUnderway
      ∧ (putCurtainFault v s).placementHeld = s.placementHeld ∧ (putCurtainFault v s).pending = s.pending := by
  unfold putCurtainFault
  (repeat' split) <;> simp

@[simp] theorem entryActions_frame (p : Option CurtainState) (n : CurtainState) :
    (entryActions p n s).phase = s.phase ∧ (entryActions p n s).mode = s.mode
      ∧ (entryActions p n s).config = s.config ∧ (entryActions p n s).listenCount = s.listenCount
      ∧ (entryActions p n s).clampCount = s.clampCount ∧ (entryActions p n s).resetHeld = s.resetHeld
      ∧ (entryActions p n s).line = s.line ∧ (entryActions p n s).peers = s.peers
      ∧ (entryActions p n s).condition = s.condition ∧ (entryActions p n s).beat = s.beat
      ∧ (entryActions p n s).zones = s.zones ∧ (entryActions p n s).curtain = s.curtain
      ∧ (entryActions p n s).pins = s.pins ∧ (entryActions p n s).boundaryUnderway = s.boundaryUnderway
      ∧ (entryActions p n s).pending = s.pending := by
  unfold entryActions
  (repeat' split) <;> simp

@[simp] theorem curtainMove_frame (n : CurtainState) (c : CurtainCause) :
    (curtainMove n c s).phase = s.phase ∧ (curtainMove n c s).mode = s.mode
      ∧ (curtainMove n c s).config = s.config ∧ (curtainMove n c s).listenCount = s.listenCount
      ∧ (curtainMove n c s).clampCount = s.clampCount ∧ (curtainMove n c s).resetHeld = s.resetHeld
      ∧ (curtainMove n c s).peers = s.peers ∧ (curtainMove n c s).condition = s.condition
      ∧ (curtainMove n c s).beat = s.beat ∧ (curtainMove n c s).zones = s.zones
      ∧ (curtainMove n c s).pins = s.pins ∧ (curtainMove n c s).boundaryUnderway = s.boundaryUnderway
      ∧ (curtainMove n c s).pending = s.pending := by
  unfold curtainMove
  simp

@[simp] theorem curtainGo_frame (n : CurtainState) (c : CurtainCause) :
    (curtainGo n c s).phase = s.phase ∧ (curtainGo n c s).mode = s.mode ∧ (curtainGo n c s).config = s.config
      ∧ (curtainGo n c s).listenCount = s.listenCount ∧ (curtainGo n c s).clampCount = s.clampCount
      ∧ (curtainGo n c s).resetHeld = s.resetHeld ∧ (curtainGo n c s).peers = s.peers
      ∧ (curtainGo n c s).condition = s.condition ∧ (curtainGo n c s).beat = s.beat
      ∧ (curtainGo n c s).zones = s.zones ∧ (curtainGo n c s).pins = s.pins
      ∧ (curtainGo n c s).boundaryUnderway = s.boundaryUnderway ∧ (curtainGo n c s).pending = s.pending := by
  unfold curtainGo
  (repeat' split) <;> simp

@[simp] theorem curtainLowerTo_frame (c : CurtainCause) :
    (curtainLowerTo c s).phase = s.phase ∧ (curtainLowerTo c s).mode = s.mode
      ∧ (curtainLowerTo c s).config = s.config ∧ (curtainLowerTo c s).listenCount = s.listenCount
      ∧ (curtainLowerTo c s).clampCount = s.clampCount ∧ (curtainLowerTo c s).resetHeld = s.resetHeld
      ∧ (curtainLowerTo c s).peers = s.peers ∧ (curtainLowerTo c s).condition = s.condition
      ∧ (curtainLowerTo c s).beat = s.beat ∧ (curtainLowerTo c s).zones = s.zones
      ∧ (curtainLowerTo c s).pins = s.pins ∧ (curtainLowerTo c s).boundaryUnderway = s.boundaryUnderway
      ∧ (curtainLowerTo c s).pending = s.pending := by
  unfold curtainLowerTo
  (repeat' split) <;> simp

@[simp] theorem curtainCondition_frame :
    (curtainCondition s).phase = s.phase ∧ (curtainCondition s).mode = s.mode
      ∧ (curtainCondition s).config = s.config ∧ (curtainCondition s).listenCount = s.listenCount
      ∧ (curtainCondition s).clampCount = s.clampCount ∧ (curtainCondition s).resetHeld = s.resetHeld
      ∧ (curtainCondition s).peers = s.peers ∧ (curtainCondition s).condition = s.condition
      ∧ (curtainCondition s).beat = s.beat ∧ (curtainCondition s).zones = s.zones
      ∧ (curtainCondition s).pins = s.pins ∧ (curtainCondition s).boundaryUnderway = s.boundaryUnderway
      ∧ (curtainCondition s).pending = s.pending := by
  unfold curtainCondition
  (repeat' split) <;> simp

@[simp] theorem deliverCondition_frame (p : Condition) :
    (deliverCondition p s).phase = s.phase ∧ (deliverCondition p s).mode = s.mode
      ∧ (deliverCondition p s).config = s.config ∧ (deliverCondition p s).listenCount = s.listenCount
      ∧ (deliverCondition p s).clampCount = s.clampCount ∧ (deliverCondition p s).resetHeld = s.resetHeld
      ∧ (deliverCondition p s).peers = s.peers ∧ (deliverCondition p s).condition = s.condition
      ∧ (deliverCondition p s).beat = s.beat ∧ (deliverCondition p s).zones = s.zones
      ∧ (deliverCondition p s).pins = s.pins ∧ (deliverCondition p s).boundaryUnderway = s.boundaryUnderway
      ∧ (deliverCondition p s).pending = s.pending := by
  unfold deliverCondition
  simp

@[simp] theorem recompute_frame :
    (recompute s).phase = s.phase ∧ (recompute s).mode = s.mode ∧ (recompute s).config = s.config
      ∧ (recompute s).listenCount = s.listenCount ∧ (recompute s).clampCount = s.clampCount
      ∧ (recompute s).resetHeld = s.resetHeld ∧ (recompute s).peers = s.peers ∧ (recompute s).beat = s.beat
      ∧ (recompute s).zones = s.zones ∧ (recompute s).pins = s.pins
      ∧ (recompute s).boundaryUnderway = s.boundaryUnderway ∧ (recompute s).pending = s.pending := by
  unfold recompute
  dsimp only
  (repeat' split) <;> simp

@[simp] theorem curtainChange_frame (n : CurtainState) (c : CurtainCause) :
    (curtainChange n c s).phase = s.phase ∧ (curtainChange n c s).mode = s.mode
      ∧ (curtainChange n c s).config = s.config ∧ (curtainChange n c s).listenCount = s.listenCount
      ∧ (curtainChange n c s).clampCount = s.clampCount ∧ (curtainChange n c s).resetHeld = s.resetHeld
      ∧ (curtainChange n c s).peers = s.peers ∧ (curtainChange n c s).beat = s.beat
      ∧ (curtainChange n c s).zones = s.zones ∧ (curtainChange n c s).pins = s.pins
      ∧ (curtainChange n c s).boundaryUnderway = s.boundaryUnderway ∧ (curtainChange n c s).pending = s.pending := by
  unfold curtainChange afterCurtain
  (repeat' split) <;> simp

@[simp] theorem curtainLowering_frame (c : CurtainCause) :
    (curtainLowering c s).phase = s.phase ∧ (curtainLowering c s).mode = s.mode
      ∧ (curtainLowering c s).config = s.config ∧ (curtainLowering c s).listenCount = s.listenCount
      ∧ (curtainLowering c s).clampCount = s.clampCount ∧ (curtainLowering c s).resetHeld = s.resetHeld
      ∧ (curtainLowering c s).peers = s.peers ∧ (curtainLowering c s).beat = s.beat
      ∧ (curtainLowering c s).zones = s.zones ∧ (curtainLowering c s).pins = s.pins
      ∧ (curtainLowering c s).boundaryUnderway = s.boundaryUnderway ∧ (curtainLowering c s).pending = s.pending := by
  unfold curtainLowering afterCurtain
  (repeat' split) <;> simp

@[simp] theorem enterCurtainFault_frame :
    (enterCurtainFault s).phase = s.phase ∧ (enterCurtainFault s).mode = s.mode
      ∧ (enterCurtainFault s).config = s.config ∧ (enterCurtainFault s).listenCount = s.listenCount
      ∧ (enterCurtainFault s).clampCount = s.clampCount ∧ (enterCurtainFault s).resetHeld = s.resetHeld
      ∧ (enterCurtainFault s).peers = s.peers ∧ (enterCurtainFault s).beat = s.beat
      ∧ (enterCurtainFault s).zones = s.zones ∧ (enterCurtainFault s).pins = s.pins
      ∧ (enterCurtainFault s).boundaryUnderway = s.boundaryUnderway ∧ (enterCurtainFault s).pending = s.pending := by
  unfold enterCurtainFault afterCurtain
  (repeat' split) <;> simp

@[simp] theorem failSafe_frame :
    (failSafe s).phase = s.phase ∧ (failSafe s).mode = s.mode ∧ (failSafe s).config = s.config
      ∧ (failSafe s).listenCount = s.listenCount ∧ (failSafe s).clampCount = s.clampCount
      ∧ (failSafe s).resetHeld = s.resetHeld ∧ (failSafe s).peers = s.peers ∧ (failSafe s).beat = s.beat
      ∧ (failSafe s).zones = s.zones ∧ (failSafe s).pins = s.pins
      ∧ (failSafe s).boundaryUnderway = s.boundaryUnderway ∧ (failSafe s).pending = s.pending := by
  unfold failSafe
  (repeat' split) <;> simp

@[simp] theorem putPeerFault_frame (x : StationFault) (v : Bool) :
    (putPeerFault x v s).phase = s.phase ∧ (putPeerFault x v s).mode = s.mode
      ∧ (putPeerFault x v s).config = s.config ∧ (putPeerFault x v s).listenCount = s.listenCount
      ∧ (putPeerFault x v s).clampCount = s.clampCount ∧ (putPeerFault x v s).resetHeld = s.resetHeld
      ∧ (putPeerFault x v s).peers = s.peers ∧ (putPeerFault x v s).beat = s.beat
      ∧ (putPeerFault x v s).zones = s.zones ∧ (putPeerFault x v s).pins = s.pins
      ∧ (putPeerFault x v s).boundaryUnderway = s.boundaryUnderway ∧ (putPeerFault x v s).pending = s.pending := by
  unfold putPeerFault
  (repeat' split) <;> simp

@[simp] theorem putLineFault_frame (x : StationFault) (v : Bool) (r : Report) :
    (putLineFault x v r s).phase = s.phase ∧ (putLineFault x v r s).mode = s.mode
      ∧ (putLineFault x v r s).config = s.config ∧ (putLineFault x v r s).listenCount = s.listenCount
      ∧ (putLineFault x v r s).clampCount = s.clampCount ∧ (putLineFault x v r s).resetHeld = s.resetHeld
      ∧ (putLineFault x v r s).peers = s.peers ∧ (putLineFault x v r s).beat = s.beat
      ∧ (putLineFault x v r s).zones = s.zones ∧ (putLineFault x v r s).pins = s.pins
      ∧ (putLineFault x v r s).boundaryUnderway = s.boundaryUnderway
      ∧ (putLineFault x v r s).pending = s.pending := by
  unfold putLineFault
  simp

@[simp] theorem countedAlarm_frame :
    (countedAlarm s).phase = s.phase ∧ (countedAlarm s).mode = s.mode ∧ (countedAlarm s).config = s.config
      ∧ (countedAlarm s).listenCount = s.listenCount ∧ (countedAlarm s).clampCount = s.clampCount
      ∧ (countedAlarm s).resetHeld = s.resetHeld ∧ (countedAlarm s).line = s.line
      ∧ (countedAlarm s).peers = s.peers ∧ (countedAlarm s).condition = s.condition
      ∧ (countedAlarm s).faults = s.faults ∧ (countedAlarm s).beat = s.beat ∧ (countedAlarm s).zones = s.zones
      ∧ (countedAlarm s).curtain = s.curtain ∧ (countedAlarm s).pins = s.pins
      ∧ (countedAlarm s).lights = s.lights ∧ (countedAlarm s).boundaryUnderway = s.boundaryUnderway
      ∧ (countedAlarm s).placementHeld = s.placementHeld ∧ (countedAlarm s).pending = s.pending := by
  unfold countedAlarm
  simp

@[simp] theorem judgeRequired_frame :
    (judgeRequired s).phase = s.phase ∧ (judgeRequired s).mode = s.mode ∧ (judgeRequired s).config = s.config
      ∧ (judgeRequired s).listenCount = s.listenCount ∧ (judgeRequired s).clampCount = s.clampCount
      ∧ (judgeRequired s).resetHeld = s.resetHeld ∧ (judgeRequired s).peers = s.peers
      ∧ (judgeRequired s).beat = s.beat ∧ (judgeRequired s).zones = s.zones ∧ (judgeRequired s).pins = s.pins
      ∧ (judgeRequired s).boundaryUnderway = s.boundaryUnderway ∧ (judgeRequired s).pending = s.pending := by
  unfold judgeRequired
  (repeat' split) <;> simp

@[simp] theorem enterActive_frame (c : ListenCause) :
    (enterActive c s).mode = s.mode ∧ (enterActive c s).config = s.config
      ∧ (enterActive c s).listenCount = s.listenCount ∧ (enterActive c s).clampCount = s.clampCount
      ∧ (enterActive c s).resetHeld = s.resetHeld ∧ (enterActive c s).beat = s.beat
      ∧ (enterActive c s).zones = s.zones ∧ (enterActive c s).pins = s.pins
      ∧ (enterActive c s).boundaryUnderway = s.boundaryUnderway ∧ (enterActive c s).pending = s.pending := by
  unfold enterActive
  simp

@[simp] theorem announceZone_frame (n : Nat) (p : ZoneState) (z : ZoneRecord) (c : ZoneCause) :
    (announceZone n p z c s).mode = s.mode ∧ (announceZone n p z c s).config = s.config
      ∧ (announceZone n p z c s).clampCount = s.clampCount ∧ (announceZone n p z c s).resetHeld = s.resetHeld
      ∧ (announceZone n p z c s).beat = s.beat ∧ (announceZone n p z c s).zones = s.zones
      ∧ (announceZone n p z c s).pins = s.pins ∧ (announceZone n p z c s).boundaryUnderway = s.boundaryUnderway
      ∧ (announceZone n p z c s).pending = s.pending := by
  unfold announceZone
  dsimp only
  (repeat' split) <;> simp

@[simp] theorem changeZone_frame (n : Nat) (z : ZoneRecord) (c : ZoneCause) :
    (changeZone n z c s).mode = s.mode ∧ (changeZone n z c s).config = s.config
      ∧ (changeZone n z c s).clampCount = s.clampCount ∧ (changeZone n z c s).resetHeld = s.resetHeld
      ∧ (changeZone n z c s).beat = s.beat ∧ (changeZone n z c s).pins = s.pins
      ∧ (changeZone n z c s).boundaryUnderway = s.boundaryUnderway ∧ (changeZone n z c s).pending = s.pending := by
  unfold changeZone
  (repeat' split) <;> simp

@[simp] theorem escalateZone_frame (n : Nat) :
    (escalateZone n s).mode = s.mode ∧ (escalateZone n s).config = s.config
      ∧ (escalateZone n s).clampCount = s.clampCount ∧ (escalateZone n s).resetHeld = s.resetHeld
      ∧ (escalateZone n s).beat = s.beat ∧ (escalateZone n s).pins = s.pins
      ∧ (escalateZone n s).boundaryUnderway = s.boundaryUnderway ∧ (escalateZone n s).pending = s.pending := by
  unfold escalateZone
  (repeat' split) <;> simp

@[simp] theorem escalate_frame (x : Option Nat) :
    (escalate x s).mode = s.mode ∧ (escalate x s).config = s.config ∧ (escalate x s).clampCount = s.clampCount
      ∧ (escalate x s).resetHeld = s.resetHeld ∧ (escalate x s).beat = s.beat ∧ (escalate x s).pins = s.pins
      ∧ (escalate x s).boundaryUnderway = s.boundaryUnderway ∧ (escalate x s).pending = s.pending := by
  refine ⟨?_, ?_, ?_, ?_, ?_, ?_, ?_, ?_⟩
  all_goals unfold escalate
  · exact foldl_keeps (fun s => s.mode) _ (by intros; split <;> simp) _ _
  · exact foldl_keeps (fun s => s.config) _ (by intros; split <;> simp) _ _
  · exact foldl_keeps (fun s => s.clampCount) _ (by intros; split <;> simp) _ _
  · exact foldl_keeps (fun s => s.resetHeld) _ (by intros; split <;> simp) _ _
  · exact foldl_keeps (fun s => s.beat) _ (by intros; split <;> simp) _ _
  · exact foldl_keeps (fun s => s.pins) _ (by intros; split <;> simp) _ _
  · exact foldl_keeps (fun s => s.boundaryUnderway) _ (by intros; split <;> simp) _ _
  · exact foldl_keeps (fun s => s.pending) _ (by intros; split <;> simp) _ _

@[simp] theorem moveZone_frame (n : Nat) (z : ZoneRecord) (c : ZoneCause) :
    (moveZone n z c s).mode = s.mode ∧ (moveZone n z c s).config = s.config
      ∧ (moveZone n z c s).clampCount = s.clampCount ∧ (moveZone n z c s).resetHeld = s.resetHeld
      ∧ (moveZone n z c s).beat = s.beat ∧ (moveZone n z c s).pins = s.pins
      ∧ (moveZone n z c s).boundaryUnderway = s.boundaryUnderway ∧ (moveZone n z c s).pending = s.pending := by
  unfold moveZone
  (repeat' split) <;> simp

@[simp] theorem startAlarm_frame (n : Nat) (z : ZoneRecord) :
    (startAlarm n z s).mode = s.mode ∧ (startAlarm n z s).config = s.config
      ∧ (startAlarm n z s).clampCount = s.clampCount ∧ (startAlarm n z s).resetHeld = s.resetHeld
      ∧ (startAlarm n z s).beat = s.beat ∧ (startAlarm n z s).pins = s.pins
      ∧ (startAlarm n z s).boundaryUnderway = s.boundaryUnderway ∧ (startAlarm n z s).pending = s.pending := by
  unfold startAlarm
  (repeat' split) <;> simp

@[simp] theorem applyReading_frame (n : Nat) (r : Reading) (z : ZoneRecord) :
    (applyReading n r z s).mode = s.mode ∧ (applyReading n r z s).config = s.config
      ∧ (applyReading n r z s).clampCount = s.clampCount ∧ (applyReading n r z s).resetHeld = s.resetHeld
      ∧ (applyReading n r z s).beat = s.beat ∧ (applyReading n r z s).pins = s.pins
      ∧ (applyReading n r z s).boundaryUnderway = s.boundaryUnderway
      ∧ (applyReading n r z s).pending = s.pending := by
  unfold applyReading
  dsimp only
  (repeat' split) <;> simp

@[simp] theorem expireZone_frame (n : Nat) :
    (expireZone n s).mode = s.mode ∧ (expireZone n s).config = s.config
      ∧ (expireZone n s).clampCount = s.clampCount ∧ (expireZone n s).resetHeld = s.resetHeld
      ∧ (expireZone n s).beat = s.beat ∧ (expireZone n s).pins = s.pins
      ∧ (expireZone n s).boundaryUnderway = s.boundaryUnderway ∧ (expireZone n s).pending = s.pending := by
  unfold expireZone
  (repeat' split) <;> simp

@[simp] theorem countTimer_frame (n : Nat) :
    (countTimer n s).mode = s.mode ∧ (countTimer n s).config = s.config
      ∧ (countTimer n s).clampCount = s.clampCount ∧ (countTimer n s).resetHeld = s.resetHeld
      ∧ (countTimer n s).beat = s.beat ∧ (countTimer n s).pins = s.pins
      ∧ (countTimer n s).boundaryUnderway = s.boundaryUnderway ∧ (countTimer n s).pending = s.pending := by
  unfold countTimer
  (repeat' split) <;> simp

@[simp] theorem sampleZone_frame (n : Nat) (p : Bool × Bool) :
    (sampleZone n p s).mode = s.mode ∧ (sampleZone n p s).config = s.config
      ∧ (sampleZone n p s).clampCount = s.clampCount ∧ (sampleZone n p s).resetHeld = s.resetHeld
      ∧ (sampleZone n p s).beat = s.beat ∧ (sampleZone n p s).pins = s.pins
      ∧ (sampleZone n p s).boundaryUnderway = s.boundaryUnderway ∧ (sampleZone n p s).pending = s.pending := by
  unfold sampleZone
  dsimp only
  (repeat' split) <;> simp

@[simp] theorem handleZone_frame (i : SampleInputs) (h : List Bool) (n : Nat) :
    (handleZone i h s n).mode = s.mode ∧ (handleZone i h s n).config = s.config
      ∧ (handleZone i h s n).clampCount = s.clampCount ∧ (handleZone i h s n).resetHeld = s.resetHeld
      ∧ (handleZone i h s n).beat = s.beat ∧ (handleZone i h s n).pins = s.pins
      ∧ (handleZone i h s n).boundaryUnderway = s.boundaryUnderway ∧ (handleZone i h s n).pending = s.pending := by
  unfold handleZone
  (repeat' split) <;> simp

@[simp] theorem sampleZones_frame (i : SampleInputs) :
    (sampleZones i s).mode = s.mode ∧ (sampleZones i s).config = s.config
      ∧ (sampleZones i s).clampCount = s.clampCount ∧ (sampleZones i s).resetHeld = s.resetHeld
      ∧ (sampleZones i s).beat = s.beat ∧ (sampleZones i s).pins = s.pins
      ∧ (sampleZones i s).boundaryUnderway = s.boundaryUnderway ∧ (sampleZones i s).pending = s.pending := by
  refine ⟨?_, ?_, ?_, ?_, ?_, ?_, ?_, ?_⟩
  all_goals unfold sampleZones
  · exact foldl_keeps (fun s => s.mode) _ (by intros; simp) _ _
  · exact foldl_keeps (fun s => s.config) _ (by intros; simp) _ _
  · exact foldl_keeps (fun s => s.clampCount) _ (by intros; simp) _ _
  · exact foldl_keeps (fun s => s.resetHeld) _ (by intros; simp) _ _
  · exact foldl_keeps (fun s => s.beat) _ (by intros; simp) _ _
  · exact foldl_keeps (fun s => s.pins) _ (by intros; simp) _ _
  · exact foldl_keeps (fun s => s.boundaryUnderway) _ (by intros; simp) _ _
  · exact foldl_keeps (fun s => s.pending) _ (by intros; simp) _ _

@[simp] theorem ackZone_frame (n : Nat) :
    (ackZone n s).mode = s.mode ∧ (ackZone n s).config = s.config ∧ (ackZone n s).clampCount = s.clampCount
      ∧ (ackZone n s).resetHeld = s.resetHeld ∧ (ackZone n s).beat = s.beat ∧ (ackZone n s).pins = s.pins
      ∧ (ackZone n s).boundaryUnderway = s.boundaryUnderway ∧ (ackZone n s).pending = s.pending := by
  unfold ackZone
  (repeat' split) <;> simp

@[simp] theorem ackZones_frame (n : Nat) :
    (ackZones n s).mode = s.mode ∧ (ackZones n s).config = s.config ∧ (ackZones n s).clampCount = s.clampCount
      ∧ (ackZones n s).resetHeld = s.resetHeld ∧ (ackZones n s).beat = s.beat ∧ (ackZones n s).pins = s.pins
      ∧ (ackZones n s).boundaryUnderway = s.boundaryUnderway ∧ (ackZones n s).pending = s.pending := by
  unfold ackZones
  split
  · refine ⟨?_, ?_, ?_, ?_, ?_, ?_, ?_, ?_⟩
    · exact foldl_keeps (fun s => s.mode) _ (by intros; simp) _ _
    · exact foldl_keeps (fun s => s.config) _ (by intros; simp) _ _
    · exact foldl_keeps (fun s => s.clampCount) _ (by intros; simp) _ _
    · exact foldl_keeps (fun s => s.resetHeld) _ (by intros; simp) _ _
    · exact foldl_keeps (fun s => s.beat) _ (by intros; simp) _ _
    · exact foldl_keeps (fun s => s.pins) _ (by intros; simp) _ _
    · exact foldl_keeps (fun s => s.boundaryUnderway) _ (by intros; simp) _ _
    · exact foldl_keeps (fun s => s.pending) _ (by intros; simp) _ _
  · simp

@[simp] theorem resetZones_frame :
    (resetZones s).mode = s.mode ∧ (resetZones s).config = s.config ∧ (resetZones s).clampCount = s.clampCount
      ∧ (resetZones s).resetHeld = s.resetHeld ∧ (resetZones s).beat = s.beat ∧ (resetZones s).pins = s.pins
      ∧ (resetZones s).boundaryUnderway = s.boundaryUnderway ∧ (resetZones s).pending = s.pending := by
  refine ⟨?_, ?_, ?_, ?_, ?_, ?_, ?_, ?_⟩
  all_goals unfold resetZones
  · exact foldl_keeps (fun s => s.mode) _ (by intros; simp) _ _
  · exact foldl_keeps (fun s => s.config) _ (by intros; simp) _ _
  · exact foldl_keeps (fun s => s.clampCount) _ (by intros; simp) _ _
  · exact foldl_keeps (fun s => s.resetHeld) _ (by intros; simp) _ _
  · exact foldl_keeps (fun s => s.beat) _ (by intros; simp) _ _
  · exact foldl_keeps (fun s => s.pins) _ (by intros; simp) _ _
  · exact foldl_keeps (fun s => s.boundaryUnderway) _ (by intros; simp) _ _
  · exact foldl_keeps (fun s => s.pending) _ (by intros; simp) _ _

@[simp] theorem isolateZone_frame (n : Nat) :
    (isolateZone n s).mode = s.mode ∧ (isolateZone n s).config = s.config
      ∧ (isolateZone n s).clampCount = s.clampCount ∧ (isolateZone n s).resetHeld = s.resetHeld
      ∧ (isolateZone n s).beat = s.beat ∧ (isolateZone n s).pins = s.pins
      ∧ (isolateZone n s).boundaryUnderway = s.boundaryUnderway ∧ (isolateZone n s).pending = s.pending := by
  unfold isolateZone
  (repeat' split) <;> simp

@[simp] theorem restoreZone_frame (n : Nat) :
    (restoreZone n s).mode = s.mode ∧ (restoreZone n s).config = s.config
      ∧ (restoreZone n s).clampCount = s.clampCount ∧ (restoreZone n s).resetHeld = s.resetHeld
      ∧ (restoreZone n s).beat = s.beat ∧ (restoreZone n s).pins = s.pins
      ∧ (restoreZone n s).boundaryUnderway = s.boundaryUnderway ∧ (restoreZone n s).pending = s.pending := by
  unfold restoreZone
  (repeat' split) <;> simp

@[simp] theorem judgeStation_frame (n : Nat) :
    (judgeStation n s).phase = s.phase ∧ (judgeStation n s).mode = s.mode ∧ (judgeStation n s).config = s.config
      ∧ (judgeStation n s).listenCount = s.listenCount ∧ (judgeStation n s).clampCount = s.clampCount
      ∧ (judgeStation n s).resetHeld = s.resetHeld ∧ (judgeStation n s).peers = s.peers
      ∧ (judgeStation n s).beat = s.beat ∧ (judgeStation n s).zones = s.zones ∧ (judgeStation n s).pins = s.pins
      ∧ (judgeStation n s).boundaryUnderway = s.boundaryUnderway ∧ (judgeStation n s).pending = s.pending := by
  unfold judgeStation
  (repeat' split) <;> simp

@[simp] theorem refreshEntry_frame (n : Nat) :
    (refreshEntry n s).phase = s.phase ∧ (refreshEntry n s).mode = s.mode ∧ (refreshEntry n s).config = s.config
      ∧ (refreshEntry n s).listenCount = s.listenCount ∧ (refreshEntry n s).clampCount = s.clampCount
      ∧ (refreshEntry n s).resetHeld = s.resetHeld ∧ (refreshEntry n s).line = s.line
      ∧ (refreshEntry n s).condition = s.condition ∧ (refreshEntry n s).faults = s.faults
      ∧ (refreshEntry n s).beat = s.beat ∧ (refreshEntry n s).zones = s.zones
      ∧ (refreshEntry n s).curtain = s.curtain ∧ (refreshEntry n s).pins = s.pins
      ∧ (refreshEntry n s).lights = s.lights ∧ (refreshEntry n s).calls = s.calls
      ∧ (refreshEntry n s).boundaryUnderway = s.boundaryUnderway
      ∧ (refreshEntry n s).placementHeld = s.placementHeld ∧ (refreshEntry n s).pending = s.pending := by
  unfold refreshEntry
  (repeat' split) <;> simp

@[simp] theorem heardAnyPeer_frame :
    (heardAnyPeer s).phase = s.phase ∧ (heardAnyPeer s).mode = s.mode ∧ (heardAnyPeer s).config = s.config
      ∧ (heardAnyPeer s).listenCount = s.listenCount ∧ (heardAnyPeer s).clampCount = s.clampCount
      ∧ (heardAnyPeer s).resetHeld = s.resetHeld ∧ (heardAnyPeer s).beat = s.beat
      ∧ (heardAnyPeer s).zones = s.zones ∧ (heardAnyPeer s).pins = s.pins
      ∧ (heardAnyPeer s).boundaryUnderway = s.boundaryUnderway ∧ (heardAnyPeer s).pending = s.pending := by
  unfold heardAnyPeer
  simp

@[simp] theorem heardFrom_frame (n : Nat) :
    (heardFrom n s).phase = s.phase ∧ (heardFrom n s).mode = s.mode ∧ (heardFrom n s).config = s.config
      ∧ (heardFrom n s).listenCount = s.listenCount ∧ (heardFrom n s).clampCount = s.clampCount
      ∧ (heardFrom n s).resetHeld = s.resetHeld ∧ (heardFrom n s).beat = s.beat
      ∧ (heardFrom n s).zones = s.zones ∧ (heardFrom n s).pins = s.pins
      ∧ (heardFrom n s).boundaryUnderway = s.boundaryUnderway ∧ (heardFrom n s).pending = s.pending := by
  unfold heardFrom
  (repeat' split) <;> simp

@[simp] theorem zoneListChanged_frame (o n : List PeerZone) :
    (zoneListChanged o n s).mode = s.mode ∧ (zoneListChanged o n s).config = s.config
      ∧ (zoneListChanged o n s).clampCount = s.clampCount ∧ (zoneListChanged o n s).resetHeld = s.resetHeld
      ∧ (zoneListChanged o n s).beat = s.beat ∧ (zoneListChanged o n s).pins = s.pins
      ∧ (zoneListChanged o n s).boundaryUnderway = s.boundaryUnderway
      ∧ (zoneListChanged o n s).pending = s.pending := by
  unfold zoneListChanged
  (repeat' split) <;> simp

@[simp] theorem takeZoneFrame_frame (n : Nat) (z : PeerZone) :
    (takeZoneFrame n z s).mode = s.mode ∧ (takeZoneFrame n z s).config = s.config
      ∧ (takeZoneFrame n z s).clampCount = s.clampCount ∧ (takeZoneFrame n z s).resetHeld = s.resetHeld
      ∧ (takeZoneFrame n z s).beat = s.beat ∧ (takeZoneFrame n z s).pins = s.pins
      ∧ (takeZoneFrame n z s).boundaryUnderway = s.boundaryUnderway ∧ (takeZoneFrame n z s).pending = s.pending := by
  unfold takeZoneFrame
  simp

@[simp] theorem takeStatusFrame_frame (n : Nat) (r : Role) (m : Mode) (f : FaultSet) (c : Option (CurtainState × Nat)) (zs : List PeerZone) :
    (takeStatusFrame n r m f c zs s).mode = s.mode ∧ (takeStatusFrame n r m f c zs s).config = s.config
      ∧ (takeStatusFrame n r m f c zs s).clampCount = s.clampCount
      ∧ (takeStatusFrame n r m f c zs s).resetHeld = s.resetHeld
      ∧ (takeStatusFrame n r m f c zs s).beat = s.beat ∧ (takeStatusFrame n r m f c zs s).pins = s.pins
      ∧ (takeStatusFrame n r m f c zs s).boundaryUnderway = s.boundaryUnderway
      ∧ (takeStatusFrame n r m f c zs s).pending = s.pending := by
  unfold takeStatusFrame
  (repeat' split) <;> simp

@[simp] theorem takeStateFrame_frame (n : Nat) (c : CurtainState) (p : Nat) :
    (takeStateFrame n c p s).phase = s.phase ∧ (takeStateFrame n c p s).mode = s.mode
      ∧ (takeStateFrame n c p s).config = s.config ∧ (takeStateFrame n c p s).listenCount = s.listenCount
      ∧ (takeStateFrame n c p s).clampCount = s.clampCount ∧ (takeStateFrame n c p s).resetHeld = s.resetHeld
      ∧ (takeStateFrame n c p s).line = s.line ∧ (takeStateFrame n c p s).condition = s.condition
      ∧ (takeStateFrame n c p s).faults = s.faults ∧ (takeStateFrame n c p s).beat = s.beat
      ∧ (takeStateFrame n c p s).zones = s.zones ∧ (takeStateFrame n c p s).curtain = s.curtain
      ∧ (takeStateFrame n c p s).pins = s.pins ∧ (takeStateFrame n c p s).lights = s.lights
      ∧ (takeStateFrame n c p s).calls = s.calls ∧ (takeStateFrame n c p s).panel = s.panel
      ∧ (takeStateFrame n c p s).boundaryUnderway = s.boundaryUnderway
      ∧ (takeStateFrame n c p s).placementHeld = s.placementHeld ∧ (takeStateFrame n c p s).pending = s.pending := by
  unfold takeStateFrame
  simp

@[simp] theorem removeLost_frame (n : Nat) :
    (removeLost s n).mode = s.mode ∧ (removeLost s n).config = s.config
      ∧ (removeLost s n).clampCount = s.clampCount ∧ (removeLost s n).resetHeld = s.resetHeld
      ∧ (removeLost s n).beat = s.beat ∧ (removeLost s n).pins = s.pins
      ∧ (removeLost s n).boundaryUnderway = s.boundaryUnderway ∧ (removeLost s n).pending = s.pending := by
  unfold removeLost
  (repeat' split) <;> simp

@[simp] theorem removeLostPeers_frame :
    (removeLostPeers s).mode = s.mode ∧ (removeLostPeers s).config = s.config
      ∧ (removeLostPeers s).clampCount = s.clampCount ∧ (removeLostPeers s).resetHeld = s.resetHeld
      ∧ (removeLostPeers s).beat = s.beat ∧ (removeLostPeers s).pins = s.pins
      ∧ (removeLostPeers s).boundaryUnderway = s.boundaryUnderway ∧ (removeLostPeers s).pending = s.pending := by
  refine ⟨?_, ?_, ?_, ?_, ?_, ?_, ?_, ?_⟩
  all_goals unfold removeLostPeers
  · exact foldl_keeps (fun s => s.mode) _ (by intros; simp) _ _
  · exact foldl_keeps (fun s => s.config) _ (by intros; simp) _ _
  · exact foldl_keeps (fun s => s.clampCount) _ (by intros; simp) _ _
  · exact foldl_keeps (fun s => s.resetHeld) _ (by intros; simp) _ _
  · exact foldl_keeps (fun s => s.beat) _ (by intros; simp) _ _
  · exact foldl_keeps (fun s => s.pins) _ (by intros; simp) _ _
  · exact foldl_keeps (fun s => s.boundaryUnderway) _ (by intros; simp) _ _
  · exact foldl_keeps (fun s => s.pending) _ (by intros; simp) _ _

@[simp] theorem agePeers_frame :
    (agePeers s).phase = s.phase ∧ (agePeers s).mode = s.mode ∧ (agePeers s).config = s.config
      ∧ (agePeers s).listenCount = s.listenCount ∧ (agePeers s).clampCount = s.clampCount
      ∧ (agePeers s).resetHeld = s.resetHeld ∧ (agePeers s).beat = s.beat ∧ (agePeers s).zones = s.zones
      ∧ (agePeers s).pins = s.pins ∧ (agePeers s).boundaryUnderway = s.boundaryUnderway
      ∧ (agePeers s).pending = s.pending := by
  unfold agePeers
  dsimp only
  (repeat' split) <;> simp

@[simp] theorem offerStatus_frame :
    (offerStatus s).phase = s.phase ∧ (offerStatus s).mode = s.mode ∧ (offerStatus s).config = s.config
      ∧ (offerStatus s).listenCount = s.listenCount ∧ (offerStatus s).clampCount = s.clampCount
      ∧ (offerStatus s).resetHeld = s.resetHeld ∧ (offerStatus s).condition = s.condition
      ∧ (offerStatus s).faults = s.faults ∧ (offerStatus s).beat = s.beat ∧ (offerStatus s).zones = s.zones
      ∧ (offerStatus s).curtain = s.curtain ∧ (offerStatus s).pins = s.pins ∧ (offerStatus s).lights = s.lights
      ∧ (offerStatus s).calls = s.calls ∧ (offerStatus s).boundaryUnderway = s.boundaryUnderway
      ∧ (offerStatus s).placementHeld = s.placementHeld ∧ (offerStatus s).pending = s.pending := by
  unfold offerStatus
  simp

@[simp] theorem advanceSchedule_frame :
    (advanceSchedule s).phase = s.phase ∧ (advanceSchedule s).mode = s.mode
      ∧ (advanceSchedule s).config = s.config ∧ (advanceSchedule s).listenCount = s.listenCount
      ∧ (advanceSchedule s).clampCount = s.clampCount ∧ (advanceSchedule s).resetHeld = s.resetHeld
      ∧ (advanceSchedule s).condition = s.condition ∧ (advanceSchedule s).faults = s.faults
      ∧ (advanceSchedule s).beat = s.beat ∧ (advanceSchedule s).zones = s.zones
      ∧ (advanceSchedule s).curtain = s.curtain ∧ (advanceSchedule s).pins = s.pins
      ∧ (advanceSchedule s).lights = s.lights ∧ (advanceSchedule s).calls = s.calls
      ∧ (advanceSchedule s).boundaryUnderway = s.boundaryUnderway
      ∧ (advanceSchedule s).placementHeld = s.placementHeld ∧ (advanceSchedule s).pending = s.pending := by
  unfold advanceSchedule
  (repeat' split) <;> simp

@[simp] theorem judgeAlone_frame :
    (judgeAlone s).phase = s.phase ∧ (judgeAlone s).mode = s.mode ∧ (judgeAlone s).config = s.config
      ∧ (judgeAlone s).listenCount = s.listenCount ∧ (judgeAlone s).clampCount = s.clampCount
      ∧ (judgeAlone s).resetHeld = s.resetHeld ∧ (judgeAlone s).peers = s.peers ∧ (judgeAlone s).beat = s.beat
      ∧ (judgeAlone s).zones = s.zones ∧ (judgeAlone s).pins = s.pins
      ∧ (judgeAlone s).boundaryUnderway = s.boundaryUnderway ∧ (judgeAlone s).pending = s.pending := by
  unfold judgeAlone
  (repeat' split) <;> simp

@[simp] theorem advanceAnyPeer_frame :
    (advanceAnyPeer s).phase = s.phase ∧ (advanceAnyPeer s).mode = s.mode ∧ (advanceAnyPeer s).config = s.config
      ∧ (advanceAnyPeer s).listenCount = s.listenCount ∧ (advanceAnyPeer s).clampCount = s.clampCount
      ∧ (advanceAnyPeer s).resetHeld = s.resetHeld ∧ (advanceAnyPeer s).beat = s.beat
      ∧ (advanceAnyPeer s).zones = s.zones ∧ (advanceAnyPeer s).pins = s.pins
      ∧ (advanceAnyPeer s).boundaryUnderway = s.boundaryUnderway ∧ (advanceAnyPeer s).pending = s.pending := by
  unfold advanceAnyPeer
  simp

@[simp] theorem peerBoundary_frame :
    (peerBoundary s).phase = s.phase ∧ (peerBoundary s).mode = s.mode ∧ (peerBoundary s).config = s.config
      ∧ (peerBoundary s).listenCount = s.listenCount ∧ (peerBoundary s).clampCount = s.clampCount
      ∧ (peerBoundary s).resetHeld = s.resetHeld ∧ (peerBoundary s).beat = s.beat
      ∧ (peerBoundary s).zones = s.zones ∧ (peerBoundary s).pins = s.pins
      ∧ (peerBoundary s).boundaryUnderway = s.boundaryUnderway ∧ (peerBoundary s).pending = s.pending := by
  unfold peerBoundary
  simp

@[simp] theorem ageToThreshold_frame (n : Nat) :
    (ageToThreshold n s).phase = s.phase ∧ (ageToThreshold n s).mode = s.mode
      ∧ (ageToThreshold n s).config = s.config ∧ (ageToThreshold n s).listenCount = s.listenCount
      ∧ (ageToThreshold n s).clampCount = s.clampCount ∧ (ageToThreshold n s).resetHeld = s.resetHeld
      ∧ (ageToThreshold n s).beat = s.beat ∧ (ageToThreshold n s).zones = s.zones
      ∧ (ageToThreshold n s).pins = s.pins ∧ (ageToThreshold n s).boundaryUnderway = s.boundaryUnderway
      ∧ (ageToThreshold n s).pending = s.pending := by
  unfold ageToThreshold
  (repeat' split) <;> simp

@[simp] theorem stallJam_frame :
    (stallJam s).phase = s.phase ∧ (stallJam s).mode = s.mode
      ∧ (stallJam s).config = s.config ∧ (stallJam s).listenCount = s.listenCount
      ∧ (stallJam s).clampCount = s.clampCount ∧ (stallJam s).resetHeld = s.resetHeld
      ∧ (stallJam s).peers = s.peers ∧ (stallJam s).beat = s.beat
      ∧ (stallJam s).zones = s.zones ∧ (stallJam s).pins = s.pins
      ∧ (stallJam s).boundaryUnderway = s.boundaryUnderway ∧ (stallJam s).pending = s.pending := by
  unfold stallJam
  simp

@[simp] theorem descentStall_frame (st : CurtainState) (d : Descent) :
    (descentStall st d s).phase = s.phase ∧ (descentStall st d s).mode = s.mode
      ∧ (descentStall st d s).config = s.config ∧ (descentStall st d s).listenCount = s.listenCount
      ∧ (descentStall st d s).clampCount = s.clampCount ∧ (descentStall st d s).resetHeld = s.resetHeld
      ∧ (descentStall st d s).peers = s.peers ∧ (descentStall st d s).beat = s.beat
      ∧ (descentStall st d s).zones = s.zones ∧ (descentStall st d s).pins = s.pins
      ∧ (descentStall st d s).boundaryUnderway = s.boundaryUnderway ∧ (descentStall st d s).pending = s.pending := by
  unfold descentStall
  (repeat' split) <;> simp

@[simp] theorem descentTooLate_frame (st : CurtainState) (d : Descent) (p n : Nat) :
    (descentTooLate st d p n s).phase = s.phase ∧ (descentTooLate st d p n s).mode = s.mode
      ∧ (descentTooLate st d p n s).config = s.config ∧ (descentTooLate st d p n s).listenCount = s.listenCount
      ∧ (descentTooLate st d p n s).clampCount = s.clampCount
      ∧ (descentTooLate st d p n s).resetHeld = s.resetHeld ∧ (descentTooLate st d p n s).peers = s.peers
      ∧ (descentTooLate st d p n s).beat = s.beat ∧ (descentTooLate st d p n s).zones = s.zones
      ∧ (descentTooLate st d p n s).pins = s.pins
      ∧ (descentTooLate st d p n s).boundaryUnderway = s.boundaryUnderway
      ∧ (descentTooLate st d p n s).pending = s.pending := by
  unfold descentTooLate afterCurtain
  dsimp only
  (repeat' split) <;> simp

@[simp] theorem projectDescent_frame (st : CurtainState) (d : Descent) :
    (projectDescent st d s).phase = s.phase ∧ (projectDescent st d s).mode = s.mode
      ∧ (projectDescent st d s).config = s.config ∧ (projectDescent st d s).listenCount = s.listenCount
      ∧ (projectDescent st d s).clampCount = s.clampCount ∧ (projectDescent st d s).resetHeld = s.resetHeld
      ∧ (projectDescent st d s).peers = s.peers ∧ (projectDescent st d s).beat = s.beat
      ∧ (projectDescent st d s).zones = s.zones ∧ (projectDescent st d s).pins = s.pins
      ∧ (projectDescent st d s).boundaryUnderway = s.boundaryUnderway
      ∧ (projectDescent st d s).pending = s.pending := by
  unfold projectDescent
  dsimp only
  (repeat' split) <;> simp

@[simp] theorem judgeDescent_frame (st : CurtainState) (d : Descent) :
    (judgeDescent st d s).phase = s.phase ∧ (judgeDescent st d s).mode = s.mode
      ∧ (judgeDescent st d s).config = s.config ∧ (judgeDescent st d s).listenCount = s.listenCount
      ∧ (judgeDescent st d s).clampCount = s.clampCount ∧ (judgeDescent st d s).resetHeld = s.resetHeld
      ∧ (judgeDescent st d s).peers = s.peers ∧ (judgeDescent st d s).beat = s.beat
      ∧ (judgeDescent st d s).zones = s.zones ∧ (judgeDescent st d s).pins = s.pins
      ∧ (judgeDescent st d s).boundaryUnderway = s.boundaryUnderway ∧ (judgeDescent st d s).pending = s.pending := by
  unfold judgeDescent
  dsimp only
  (repeat' split) <;> simp

@[simp] theorem sampleDescent_frame (b : Bool) :
    (sampleDescent b s).phase = s.phase ∧ (sampleDescent b s).mode = s.mode
      ∧ (sampleDescent b s).config = s.config ∧ (sampleDescent b s).listenCount = s.listenCount
      ∧ (sampleDescent b s).clampCount = s.clampCount ∧ (sampleDescent b s).resetHeld = s.resetHeld
      ∧ (sampleDescent b s).peers = s.peers ∧ (sampleDescent b s).beat = s.beat
      ∧ (sampleDescent b s).zones = s.zones ∧ (sampleDescent b s).pins = s.pins
      ∧ (sampleDescent b s).boundaryUnderway = s.boundaryUnderway ∧ (sampleDescent b s).pending = s.pending := by
  unfold sampleDescent
  (repeat' split) <;> simp

@[simp] theorem stallNow_frame :
    (stallNow s).phase = s.phase ∧ (stallNow s).mode = s.mode ∧ (stallNow s).config = s.config
      ∧ (stallNow s).listenCount = s.listenCount ∧ (stallNow s).clampCount = s.clampCount
      ∧ (stallNow s).resetHeld = s.resetHeld ∧ (stallNow s).peers = s.peers ∧ (stallNow s).beat = s.beat
      ∧ (stallNow s).zones = s.zones ∧ (stallNow s).pins = s.pins
      ∧ (stallNow s).boundaryUnderway = s.boundaryUnderway ∧ (stallNow s).pending = s.pending := by
  unfold stallNow
  dsimp only
  (repeat' split) <;> simp

@[simp] theorem curtainStartUp_frame :
    (curtainStartUp s).phase = s.phase ∧ (curtainStartUp s).mode = s.mode ∧ (curtainStartUp s).config = s.config
      ∧ (curtainStartUp s).listenCount = s.listenCount ∧ (curtainStartUp s).clampCount = s.clampCount
      ∧ (curtainStartUp s).resetHeld = s.resetHeld ∧ (curtainStartUp s).peers = s.peers
      ∧ (curtainStartUp s).beat = s.beat ∧ (curtainStartUp s).zones = s.zones ∧ (curtainStartUp s).pins = s.pins
      ∧ (curtainStartUp s).boundaryUnderway = s.boundaryUnderway ∧ (curtainStartUp s).pending = s.pending := by
  unfold curtainStartUp
  (repeat' split) <;> simp

@[simp] theorem reachTop_frame :
    (reachTop s).phase = s.phase ∧ (reachTop s).mode = s.mode ∧ (reachTop s).config = s.config
      ∧ (reachTop s).listenCount = s.listenCount ∧ (reachTop s).clampCount = s.clampCount
      ∧ (reachTop s).resetHeld = s.resetHeld ∧ (reachTop s).peers = s.peers ∧ (reachTop s).beat = s.beat
      ∧ (reachTop s).zones = s.zones ∧ (reachTop s).pins = s.pins
      ∧ (reachTop s).boundaryUnderway = s.boundaryUnderway ∧ (reachTop s).pending = s.pending := by
  unfold reachTop
  (repeat' split) <;> simp

@[simp] theorem encoderCount_frame (up : Bool) :
    (encoderCount up s).phase = s.phase ∧ (encoderCount up s).mode = s.mode
      ∧ (encoderCount up s).config = s.config ∧ (encoderCount up s).listenCount = s.listenCount
      ∧ (encoderCount up s).clampCount = s.clampCount ∧ (encoderCount up s).resetHeld = s.resetHeld
      ∧ (encoderCount up s).peers = s.peers ∧ (encoderCount up s).beat = s.beat
      ∧ (encoderCount up s).zones = s.zones ∧ (encoderCount up s).pins = s.pins
      ∧ (encoderCount up s).boundaryUnderway = s.boundaryUnderway ∧ (encoderCount up s).pending = s.pending := by
  unfold encoderCount
  dsimp only
  (repeat' split) <;> simp

@[simp] theorem bottomActive_frame (st : CurtainState) :
    (bottomActive st s).phase = s.phase ∧ (bottomActive st s).mode = s.mode
      ∧ (bottomActive st s).config = s.config ∧ (bottomActive st s).listenCount = s.listenCount
      ∧ (bottomActive st s).clampCount = s.clampCount ∧ (bottomActive st s).resetHeld = s.resetHeld
      ∧ (bottomActive st s).peers = s.peers ∧ (bottomActive st s).beat = s.beat
      ∧ (bottomActive st s).zones = s.zones ∧ (bottomActive st s).boundaryUnderway = s.boundaryUnderway
      ∧ (bottomActive st s).pending = s.pending := by
  unfold bottomActive
  (repeat' split) <;> simp

@[simp] theorem bottomLimit_frame (a : Bool) :
    (bottomLimit a s).phase = s.phase ∧ (bottomLimit a s).mode = s.mode ∧ (bottomLimit a s).config = s.config
      ∧ (bottomLimit a s).listenCount = s.listenCount ∧ (bottomLimit a s).clampCount = s.clampCount
      ∧ (bottomLimit a s).resetHeld = s.resetHeld ∧ (bottomLimit a s).peers = s.peers
      ∧ (bottomLimit a s).beat = s.beat ∧ (bottomLimit a s).zones = s.zones
      ∧ (bottomLimit a s).boundaryUnderway = s.boundaryUnderway ∧ (bottomLimit a s).pending = s.pending := by
  unfold bottomLimit
  (repeat' split) <;> simp

@[simp] theorem topActive_frame :
    (topActive s).phase = s.phase ∧ (topActive s).mode = s.mode ∧ (topActive s).config = s.config
      ∧ (topActive s).listenCount = s.listenCount ∧ (topActive s).clampCount = s.clampCount
      ∧ (topActive s).resetHeld = s.resetHeld ∧ (topActive s).peers = s.peers ∧ (topActive s).beat = s.beat
      ∧ (topActive s).zones = s.zones ∧ (topActive s).boundaryUnderway = s.boundaryUnderway
      ∧ (topActive s).pending = s.pending := by
  unfold topActive
  (repeat' split) <;> simp

@[simp] theorem topLimit_frame (a : Bool) :
    (topLimit a s).phase = s.phase ∧ (topLimit a s).mode = s.mode ∧ (topLimit a s).config = s.config
      ∧ (topLimit a s).listenCount = s.listenCount ∧ (topLimit a s).clampCount = s.clampCount
      ∧ (topLimit a s).resetHeld = s.resetHeld ∧ (topLimit a s).peers = s.peers ∧ (topLimit a s).beat = s.beat
      ∧ (topLimit a s).zones = s.zones ∧ (topLimit a s).boundaryUnderway = s.boundaryUnderway
      ∧ (topLimit a s).pending = s.pending := by
  unfold topLimit
  (repeat' split) <;> simp

@[simp] theorem lowerRequest_frame :
    (lowerRequest s).phase = s.phase ∧ (lowerRequest s).mode = s.mode ∧ (lowerRequest s).config = s.config
      ∧ (lowerRequest s).listenCount = s.listenCount ∧ (lowerRequest s).clampCount = s.clampCount
      ∧ (lowerRequest s).resetHeld = s.resetHeld ∧ (lowerRequest s).peers = s.peers
      ∧ (lowerRequest s).beat = s.beat ∧ (lowerRequest s).zones = s.zones ∧ (lowerRequest s).pins = s.pins
      ∧ (lowerRequest s).boundaryUnderway = s.boundaryUnderway ∧ (lowerRequest s).pending = s.pending := by
  unfold lowerRequest
  (repeat' split) <;> simp

@[simp] theorem dropRequest_frame :
    (dropRequest s).phase = s.phase ∧ (dropRequest s).mode = s.mode ∧ (dropRequest s).config = s.config
      ∧ (dropRequest s).listenCount = s.listenCount ∧ (dropRequest s).clampCount = s.clampCount
      ∧ (dropRequest s).resetHeld = s.resetHeld ∧ (dropRequest s).peers = s.peers
      ∧ (dropRequest s).beat = s.beat ∧ (dropRequest s).zones = s.zones ∧ (dropRequest s).pins = s.pins
      ∧ (dropRequest s).boundaryUnderway = s.boundaryUnderway ∧ (dropRequest s).pending = s.pending := by
  unfold dropRequest
  (repeat' split) <;> simp

@[simp] theorem stopRequest_frame :
    (stopRequest s).phase = s.phase ∧ (stopRequest s).mode = s.mode ∧ (stopRequest s).config = s.config
      ∧ (stopRequest s).listenCount = s.listenCount ∧ (stopRequest s).clampCount = s.clampCount
      ∧ (stopRequest s).resetHeld = s.resetHeld ∧ (stopRequest s).peers = s.peers
      ∧ (stopRequest s).beat = s.beat ∧ (stopRequest s).zones = s.zones ∧ (stopRequest s).pins = s.pins
      ∧ (stopRequest s).boundaryUnderway = s.boundaryUnderway ∧ (stopRequest s).pending = s.pending := by
  unfold stopRequest
  (repeat' split) <;> simp

@[simp] theorem raiseRequest_frame (x : Nat) (st : CurtainState) :
    (raiseRequest x st s).phase = s.phase ∧ (raiseRequest x st s).mode = s.mode
      ∧ (raiseRequest x st s).config = s.config ∧ (raiseRequest x st s).listenCount = s.listenCount
      ∧ (raiseRequest x st s).clampCount = s.clampCount ∧ (raiseRequest x st s).resetHeld = s.resetHeld
      ∧ (raiseRequest x st s).peers = s.peers ∧ (raiseRequest x st s).beat = s.beat
      ∧ (raiseRequest x st s).zones = s.zones ∧ (raiseRequest x st s).pins = s.pins
      ∧ (raiseRequest x st s).boundaryUnderway = s.boundaryUnderway ∧ (raiseRequest x st s).pending = s.pending := by
  unfold raiseRequest
  (repeat' split) <;> simp

@[simp] theorem refreshHold_frame :
    (refreshHold s).phase = s.phase ∧ (refreshHold s).mode = s.mode ∧ (refreshHold s).config = s.config
      ∧ (refreshHold s).listenCount = s.listenCount ∧ (refreshHold s).clampCount = s.clampCount
      ∧ (refreshHold s).resetHeld = s.resetHeld ∧ (refreshHold s).line = s.line
      ∧ (refreshHold s).peers = s.peers ∧ (refreshHold s).condition = s.condition
      ∧ (refreshHold s).faults = s.faults ∧ (refreshHold s).beat = s.beat ∧ (refreshHold s).zones = s.zones
      ∧ (refreshHold s).pins = s.pins ∧ (refreshHold s).lights = s.lights ∧ (refreshHold s).calls = s.calls
      ∧ (refreshHold s).panel = s.panel ∧ (refreshHold s).boundaryUnderway = s.boundaryUnderway
      ∧ (refreshHold s).placementHeld = s.placementHeld ∧ (refreshHold s).pending = s.pending := by
  unfold refreshHold
  simp

@[simp] theorem raiseHoldRequest_frame (x : Nat) :
    (raiseHoldRequest x s).phase = s.phase ∧ (raiseHoldRequest x s).mode = s.mode
      ∧ (raiseHoldRequest x s).config = s.config ∧ (raiseHoldRequest x s).listenCount = s.listenCount
      ∧ (raiseHoldRequest x s).clampCount = s.clampCount ∧ (raiseHoldRequest x s).resetHeld = s.resetHeld
      ∧ (raiseHoldRequest x s).peers = s.peers ∧ (raiseHoldRequest x s).beat = s.beat
      ∧ (raiseHoldRequest x s).zones = s.zones ∧ (raiseHoldRequest x s).pins = s.pins
      ∧ (raiseHoldRequest x s).boundaryUnderway = s.boundaryUnderway
      ∧ (raiseHoldRequest x s).pending = s.pending := by
  unfold raiseHoldRequest
  (repeat' split) <;> simp

@[simp] theorem takeCurtainFrame_frame (x : Nat) (k : CurtainKind) (t : Nat) :
    (takeCurtainFrame x k t s).phase = s.phase ∧ (takeCurtainFrame x k t s).mode = s.mode
      ∧ (takeCurtainFrame x k t s).config = s.config ∧ (takeCurtainFrame x k t s).listenCount = s.listenCount
      ∧ (takeCurtainFrame x k t s).clampCount = s.clampCount
      ∧ (takeCurtainFrame x k t s).resetHeld = s.resetHeld ∧ (takeCurtainFrame x k t s).peers = s.peers
      ∧ (takeCurtainFrame x k t s).beat = s.beat ∧ (takeCurtainFrame x k t s).zones = s.zones
      ∧ (takeCurtainFrame x k t s).pins = s.pins
      ∧ (takeCurtainFrame x k t s).boundaryUnderway = s.boundaryUnderway
      ∧ (takeCurtainFrame x k t s).pending = s.pending := by
  unfold takeCurtainFrame
  (repeat' split) <;> simp

@[simp] theorem lapseHold_frame :
    (lapseHold s).phase = s.phase ∧ (lapseHold s).mode = s.mode ∧ (lapseHold s).config = s.config
      ∧ (lapseHold s).listenCount = s.listenCount ∧ (lapseHold s).clampCount = s.clampCount
      ∧ (lapseHold s).resetHeld = s.resetHeld ∧ (lapseHold s).peers = s.peers ∧ (lapseHold s).beat = s.beat
      ∧ (lapseHold s).zones = s.zones ∧ (lapseHold s).pins = s.pins
      ∧ (lapseHold s).boundaryUnderway = s.boundaryUnderway ∧ (lapseHold s).pending = s.pending := by
  unfold lapseHold
  (repeat' split) <;> simp

@[simp] theorem curtainBoundary_frame :
    (curtainBoundary s).phase = s.phase ∧ (curtainBoundary s).mode = s.mode
      ∧ (curtainBoundary s).config = s.config ∧ (curtainBoundary s).listenCount = s.listenCount
      ∧ (curtainBoundary s).clampCount = s.clampCount ∧ (curtainBoundary s).resetHeld = s.resetHeld
      ∧ (curtainBoundary s).peers = s.peers ∧ (curtainBoundary s).beat = s.beat
      ∧ (curtainBoundary s).zones = s.zones ∧ (curtainBoundary s).pins = s.pins
      ∧ (curtainBoundary s).boundaryUnderway = s.boundaryUnderway ∧ (curtainBoundary s).pending = s.pending := by
  unfold curtainBoundary
  (repeat' split) <;> simp

@[simp] theorem warningDone_frame :
    (warningDone s).phase = s.phase ∧ (warningDone s).mode = s.mode ∧ (warningDone s).config = s.config
      ∧ (warningDone s).listenCount = s.listenCount ∧ (warningDone s).clampCount = s.clampCount
      ∧ (warningDone s).resetHeld = s.resetHeld ∧ (warningDone s).peers = s.peers
      ∧ (warningDone s).beat = s.beat ∧ (warningDone s).zones = s.zones ∧ (warningDone s).pins = s.pins
      ∧ (warningDone s).boundaryUnderway = s.boundaryUnderway ∧ (warningDone s).pending = s.pending := by
  unfold warningDone
  (repeat' split) <;> simp

@[simp] theorem judgeHandshake_frame (m : Bool) :
    (judgeHandshake m s).phase = s.phase ∧ (judgeHandshake m s).mode = s.mode
      ∧ (judgeHandshake m s).config = s.config ∧ (judgeHandshake m s).listenCount = s.listenCount
      ∧ (judgeHandshake m s).clampCount = s.clampCount ∧ (judgeHandshake m s).resetHeld = s.resetHeld
      ∧ (judgeHandshake m s).peers = s.peers ∧ (judgeHandshake m s).beat = s.beat
      ∧ (judgeHandshake m s).zones = s.zones ∧ (judgeHandshake m s).pins = s.pins
      ∧ (judgeHandshake m s).boundaryUnderway = s.boundaryUnderway ∧ (judgeHandshake m s).pending = s.pending := by
  unfold judgeHandshake
  (repeat' split) <;> simp

@[simp] theorem driveLost_frame :
    (driveLost s).phase = s.phase ∧ (driveLost s).mode = s.mode ∧ (driveLost s).config = s.config
      ∧ (driveLost s).listenCount = s.listenCount ∧ (driveLost s).clampCount = s.clampCount
      ∧ (driveLost s).resetHeld = s.resetHeld ∧ (driveLost s).peers = s.peers ∧ (driveLost s).beat = s.beat
      ∧ (driveLost s).zones = s.zones ∧ (driveLost s).pins = s.pins
      ∧ (driveLost s).boundaryUnderway = s.boundaryUnderway ∧ (driveLost s).pending = s.pending := by
  unfold driveLost
  (repeat' split) <;> simp

@[simp] theorem driveReadyChange_frame (r : Bool) :
    (driveReadyChange r s).phase = s.phase ∧ (driveReadyChange r s).mode = s.mode
      ∧ (driveReadyChange r s).config = s.config ∧ (driveReadyChange r s).listenCount = s.listenCount
      ∧ (driveReadyChange r s).clampCount = s.clampCount ∧ (driveReadyChange r s).resetHeld = s.resetHeld
      ∧ (driveReadyChange r s).peers = s.peers ∧ (driveReadyChange r s).beat = s.beat
      ∧ (driveReadyChange r s).zones = s.zones ∧ (driveReadyChange r s).boundaryUnderway = s.boundaryUnderway
      ∧ (driveReadyChange r s).pending = s.pending := by
  unfold driveReadyChange
  (repeat' split) <;> simp

@[simp] theorem curtainSample_frame (i : SampleInputs) (h : Bool) :
    (curtainSample i h s).phase = s.phase ∧ (curtainSample i h s).mode = s.mode
      ∧ (curtainSample i h s).config = s.config ∧ (curtainSample i h s).listenCount = s.listenCount
      ∧ (curtainSample i h s).clampCount = s.clampCount ∧ (curtainSample i h s).resetHeld = s.resetHeld
      ∧ (curtainSample i h s).peers = s.peers ∧ (curtainSample i h s).beat = s.beat
      ∧ (curtainSample i h s).zones = s.zones ∧ (curtainSample i h s).pins = s.pins
      ∧ (curtainSample i h s).boundaryUnderway = s.boundaryUnderway ∧ (curtainSample i h s).pending = s.pending := by
  unfold curtainSample
  (repeat' split) <;> simp

@[simp] theorem endRepetition_frame :
    (endRepetition s).phase = s.phase ∧ (endRepetition s).mode = s.mode ∧ (endRepetition s).config = s.config
      ∧ (endRepetition s).listenCount = s.listenCount ∧ (endRepetition s).clampCount = s.clampCount
      ∧ (endRepetition s).resetHeld = s.resetHeld ∧ (endRepetition s).peers = s.peers
      ∧ (endRepetition s).beat = s.beat ∧ (endRepetition s).zones = s.zones ∧ (endRepetition s).pins = s.pins
      ∧ (endRepetition s).boundaryUnderway = s.boundaryUnderway ∧ (endRepetition s).pending = s.pending := by
  unfold endRepetition
  (repeat' split) <;> simp

@[simp] theorem loaderBoundary_frame :
    (loaderBoundary s).mode = s.mode ∧ (loaderBoundary s).config = s.config
      ∧ (loaderBoundary s).clampCount = s.clampCount ∧ (loaderBoundary s).resetHeld = s.resetHeld
      ∧ (loaderBoundary s).beat = s.beat ∧ (loaderBoundary s).zones = s.zones ∧ (loaderBoundary s).pins = s.pins
      ∧ (loaderBoundary s).boundaryUnderway = s.boundaryUnderway ∧ (loaderBoundary s).pending = s.pending := by
  unfold loaderBoundary
  (repeat' split) <;> simp

@[simp] theorem releasePlacement_frame :
    (releasePlacement s).phase = s.phase ∧ (releasePlacement s).mode = s.mode
      ∧ (releasePlacement s).config = s.config ∧ (releasePlacement s).listenCount = s.listenCount
      ∧ (releasePlacement s).clampCount = s.clampCount ∧ (releasePlacement s).resetHeld = s.resetHeld
      ∧ (releasePlacement s).line = s.line ∧ (releasePlacement s).peers = s.peers
      ∧ (releasePlacement s).condition = s.condition ∧ (releasePlacement s).faults = s.faults
      ∧ (releasePlacement s).beat = s.beat ∧ (releasePlacement s).zones = s.zones
      ∧ (releasePlacement s).curtain = s.curtain ∧ (releasePlacement s).pins = s.pins
      ∧ (releasePlacement s).pending = s.pending := by
  unfold releasePlacement
  dsimp only
  (repeat' split) <;> simp

@[simp] theorem deliverBoundary_frame :
    (deliverBoundary s).mode = s.mode ∧ (deliverBoundary s).config = s.config
      ∧ (deliverBoundary s).clampCount = s.clampCount ∧ (deliverBoundary s).resetHeld = s.resetHeld
      ∧ (deliverBoundary s).beat = s.beat ∧ (deliverBoundary s).zones = s.zones
      ∧ (deliverBoundary s).pins = s.pins ∧ (deliverBoundary s).pending = s.pending := by
  unfold deliverBoundary
  simp

@[simp] theorem takeBoundary_frame (n : BitVec 8) :
    (takeBoundary n s).mode = s.mode ∧ (takeBoundary n s).config = s.config
      ∧ (takeBoundary n s).clampCount = s.clampCount ∧ (takeBoundary n s).resetHeld = s.resetHeld
      ∧ (takeBoundary n s).zones = s.zones ∧ (takeBoundary n s).pins = s.pins
      ∧ (takeBoundary n s).pending = s.pending := by
  unfold takeBoundary
  simp

@[simp] theorem expireBeat_frame :
    (expireBeat s).mode = s.mode ∧ (expireBeat s).config = s.config ∧ (expireBeat s).clampCount = s.clampCount
      ∧ (expireBeat s).resetHeld = s.resetHeld ∧ (expireBeat s).zones = s.zones ∧ (expireBeat s).pins = s.pins
      ∧ (expireBeat s).pending = s.pending := by
  unfold expireBeat
  (repeat' split) <;> simp

@[simp] theorem judgeLock_frame (n : BitVec 8) :
    (judgeLock n s).phase = s.phase ∧ (judgeLock n s).mode = s.mode ∧ (judgeLock n s).config = s.config
      ∧ (judgeLock n s).listenCount = s.listenCount ∧ (judgeLock n s).clampCount = s.clampCount
      ∧ (judgeLock n s).resetHeld = s.resetHeld ∧ (judgeLock n s).line = s.line
      ∧ (judgeLock n s).peers = s.peers ∧ (judgeLock n s).condition = s.condition
      ∧ (judgeLock n s).faults = s.faults ∧ (judgeLock n s).zones = s.zones
      ∧ (judgeLock n s).curtain = s.curtain ∧ (judgeLock n s).pins = s.pins ∧ (judgeLock n s).lights = s.lights
      ∧ (judgeLock n s).calls = s.calls ∧ (judgeLock n s).boundaryUnderway = s.boundaryUnderway
      ∧ (judgeLock n s).placementHeld = s.placementHeld ∧ (judgeLock n s).pending = s.pending := by
  unfold judgeLock
  dsimp only
  (repeat' split) <;> simp

@[simp] theorem measureBeat_frame (n : BitVec 8) :
    (measureBeat n s).phase = s.phase ∧ (measureBeat n s).mode = s.mode ∧ (measureBeat n s).config = s.config
      ∧ (measureBeat n s).listenCount = s.listenCount ∧ (measureBeat n s).clampCount = s.clampCount
      ∧ (measureBeat n s).resetHeld = s.resetHeld ∧ (measureBeat n s).line = s.line
      ∧ (measureBeat n s).peers = s.peers ∧ (measureBeat n s).condition = s.condition
      ∧ (measureBeat n s).faults = s.faults ∧ (measureBeat n s).zones = s.zones
      ∧ (measureBeat n s).curtain = s.curtain ∧ (measureBeat n s).pins = s.pins
      ∧ (measureBeat n s).lights = s.lights ∧ (measureBeat n s).calls = s.calls
      ∧ (measureBeat n s).boundaryUnderway = s.boundaryUnderway
      ∧ (measureBeat n s).placementHeld = s.placementHeld ∧ (measureBeat n s).pending = s.pending := by
  unfold measureBeat
  simp

@[simp] theorem followBeat_frame (n : BitVec 8) :
    (followBeat n s).mode = s.mode ∧ (followBeat n s).config = s.config
      ∧ (followBeat n s).clampCount = s.clampCount ∧ (followBeat n s).resetHeld = s.resetHeld
      ∧ (followBeat n s).zones = s.zones ∧ (followBeat n s).pins = s.pins ∧ (followBeat n s).pending = s.pending := by
  unfold followBeat
  (repeat' split) <;> simp

@[simp] theorem afterAlignment_frame :
    (afterAlignment s).phase = s.phase ∧ (afterAlignment s).mode = s.mode ∧ (afterAlignment s).config = s.config
      ∧ (afterAlignment s).listenCount = s.listenCount ∧ (afterAlignment s).clampCount = s.clampCount
      ∧ (afterAlignment s).resetHeld = s.resetHeld ∧ (afterAlignment s).line = s.line
      ∧ (afterAlignment s).peers = s.peers ∧ (afterAlignment s).condition = s.condition
      ∧ (afterAlignment s).faults = s.faults ∧ (afterAlignment s).zones = s.zones
      ∧ (afterAlignment s).curtain = s.curtain ∧ (afterAlignment s).pins = s.pins
      ∧ (afterAlignment s).lights = s.lights ∧ (afterAlignment s).calls = s.calls
      ∧ (afterAlignment s).boundaryUnderway = s.boundaryUnderway
      ∧ (afterAlignment s).placementHeld = s.placementHeld ∧ (afterAlignment s).pending = s.pending := by
  unfold afterAlignment
  (repeat' split) <;> simp

@[simp] theorem takeBeatFrame_frame (x : Nat) (n : BitVec 8) :
    (takeBeatFrame x n s).mode = s.mode ∧ (takeBeatFrame x n s).config = s.config
      ∧ (takeBeatFrame x n s).clampCount = s.clampCount ∧ (takeBeatFrame x n s).resetHeld = s.resetHeld
      ∧ (takeBeatFrame x n s).zones = s.zones ∧ (takeBeatFrame x n s).pins = s.pins
      ∧ (takeBeatFrame x n s).pending = s.pending := by
  unfold takeBeatFrame
  (repeat' split) <;> simp

@[simp] theorem fadeStepDue_frame :
    (fadeStepDue s).phase = s.phase ∧ (fadeStepDue s).mode = s.mode ∧ (fadeStepDue s).config = s.config
      ∧ (fadeStepDue s).listenCount = s.listenCount ∧ (fadeStepDue s).clampCount = s.clampCount
      ∧ (fadeStepDue s).resetHeld = s.resetHeld ∧ (fadeStepDue s).line = s.line
      ∧ (fadeStepDue s).peers = s.peers ∧ (fadeStepDue s).condition = s.condition
      ∧ (fadeStepDue s).faults = s.faults ∧ (fadeStepDue s).zones = s.zones
      ∧ (fadeStepDue s).curtain = s.curtain ∧ (fadeStepDue s).pins = s.pins ∧ (fadeStepDue s).calls = s.calls
      ∧ (fadeStepDue s).boundaryUnderway = s.boundaryUnderway ∧ (fadeStepDue s).placementHeld = s.placementHeld
      ∧ (fadeStepDue s).pending = s.pending := by
  unfold fadeStepDue
  dsimp only
  (repeat' split) <;> simp

@[simp] theorem changeMode_frame (m : Mode) (x : Nat) :
    (changeMode m x s).phase = s.phase ∧ (changeMode m x s).config = s.config
      ∧ (changeMode m x s).listenCount = s.listenCount ∧ (changeMode m x s).clampCount = s.clampCount
      ∧ (changeMode m x s).resetHeld = s.resetHeld ∧ (changeMode m x s).line = s.line
      ∧ (changeMode m x s).peers = s.peers ∧ (changeMode m x s).condition = s.condition
      ∧ (changeMode m x s).faults = s.faults ∧ (changeMode m x s).beat = s.beat
      ∧ (changeMode m x s).zones = s.zones ∧ (changeMode m x s).curtain = s.curtain
      ∧ (changeMode m x s).pins = s.pins ∧ (changeMode m x s).lights = s.lights
      ∧ (changeMode m x s).calls = s.calls ∧ (changeMode m x s).boundaryUnderway = s.boundaryUnderway
      ∧ (changeMode m x s).placementHeld = s.placementHeld ∧ (changeMode m x s).pending = s.pending := by
  unfold changeMode
  (repeat' split) <;> simp

@[simp] theorem carryOut_frame (c : Command) (x : Nat) :
    (carryOut c x s).config = s.config ∧ (carryOut c x s).clampCount = s.clampCount
      ∧ (carryOut c x s).resetHeld = s.resetHeld ∧ (carryOut c x s).beat = s.beat
      ∧ (carryOut c x s).pins = s.pins ∧ (carryOut c x s).boundaryUnderway = s.boundaryUnderway
      ∧ (carryOut c x s).pending = s.pending := by
  unfold carryOut
  (repeat' split) <;> simp

@[simp] theorem takeCommand_frame (c : Command) (x t : Nat) (l : Bool) :
    (takeCommand c x t l s).config = s.config ∧ (takeCommand c x t l s).clampCount = s.clampCount
      ∧ (takeCommand c x t l s).resetHeld = s.resetHeld ∧ (takeCommand c x t l s).beat = s.beat
      ∧ (takeCommand c x t l s).pins = s.pins ∧ (takeCommand c x t l s).boundaryUnderway = s.boundaryUnderway
      ∧ (takeCommand c x t l s).pending = s.pending := by
  unfold takeCommand
  simp

@[simp] theorem takeCommandFrame_frame (x : Nat) (c : Command) (t : Nat) :
    (takeCommandFrame x c t s).config = s.config ∧ (takeCommandFrame x c t s).clampCount = s.clampCount
      ∧ (takeCommandFrame x c t s).resetHeld = s.resetHeld ∧ (takeCommandFrame x c t s).beat = s.beat
      ∧ (takeCommandFrame x c t s).pins = s.pins
      ∧ (takeCommandFrame x c t s).boundaryUnderway = s.boundaryUnderway
      ∧ (takeCommandFrame x c t s).pending = s.pending := by
  unfold takeCommandFrame
  (repeat' split) <;> simp

@[simp] theorem judgeDegraded_frame :
    (judgeDegraded s).phase = s.phase ∧ (judgeDegraded s).mode = s.mode ∧ (judgeDegraded s).config = s.config
      ∧ (judgeDegraded s).listenCount = s.listenCount ∧ (judgeDegraded s).clampCount = s.clampCount
      ∧ (judgeDegraded s).resetHeld = s.resetHeld ∧ (judgeDegraded s).peers = s.peers
      ∧ (judgeDegraded s).beat = s.beat ∧ (judgeDegraded s).zones = s.zones ∧ (judgeDegraded s).pins = s.pins
      ∧ (judgeDegraded s).boundaryUnderway = s.boundaryUnderway ∧ (judgeDegraded s).pending = s.pending := by
  unfold judgeDegraded
  (repeat' split) <;> simp

@[simp] theorem takePayload_frame (x : Nat) (p : Payload) :
    (takePayload x p s).config = s.config ∧ (takePayload x p s).clampCount = s.clampCount
      ∧ (takePayload x p s).resetHeld = s.resetHeld ∧ (takePayload x p s).pins = s.pins
      ∧ (takePayload x p s).pending = s.pending := by
  unfold takePayload
  (repeat' split) <;> simp

@[simp] theorem handOn_frame (f : Frame) :
    (handOn f s).config = s.config ∧ (handOn f s).clampCount = s.clampCount
      ∧ (handOn f s).resetHeld = s.resetHeld ∧ (handOn f s).pins = s.pins ∧ (handOn f s).pending = s.pending := by
  unfold handOn
  (repeat' split) <;> simp

@[simp] theorem resolveHeldBeat_frame (w : Bool) :
    (resolveHeldBeat w s).phase = s.phase ∧ (resolveHeldBeat w s).mode = s.mode
      ∧ (resolveHeldBeat w s).config = s.config ∧ (resolveHeldBeat w s).listenCount = s.listenCount
      ∧ (resolveHeldBeat w s).clampCount = s.clampCount ∧ (resolveHeldBeat w s).resetHeld = s.resetHeld
      ∧ (resolveHeldBeat w s).peers = s.peers ∧ (resolveHeldBeat w s).condition = s.condition
      ∧ (resolveHeldBeat w s).faults = s.faults ∧ (resolveHeldBeat w s).beat = s.beat
      ∧ (resolveHeldBeat w s).zones = s.zones ∧ (resolveHeldBeat w s).curtain = s.curtain
      ∧ (resolveHeldBeat w s).pins = s.pins ∧ (resolveHeldBeat w s).lights = s.lights
      ∧ (resolveHeldBeat w s).calls = s.calls ∧ (resolveHeldBeat w s).boundaryUnderway = s.boundaryUnderway
      ∧ (resolveHeldBeat w s).placementHeld = s.placementHeld ∧ (resolveHeldBeat w s).pending = s.pending := by
  unfold resolveHeldBeat
  (repeat' split) <;> simp

@[simp] theorem noteDuplicate_frame (x : Nat) :
    (noteDuplicate x s).phase = s.phase ∧ (noteDuplicate x s).mode = s.mode
      ∧ (noteDuplicate x s).config = s.config ∧ (noteDuplicate x s).listenCount = s.listenCount
      ∧ (noteDuplicate x s).clampCount = s.clampCount ∧ (noteDuplicate x s).resetHeld = s.resetHeld
      ∧ (noteDuplicate x s).peers = s.peers ∧ (noteDuplicate x s).beat = s.beat
      ∧ (noteDuplicate x s).zones = s.zones ∧ (noteDuplicate x s).pins = s.pins
      ∧ (noteDuplicate x s).boundaryUnderway = s.boundaryUnderway ∧ (noteDuplicate x s).pending = s.pending := by
  unfold noteDuplicate
  (repeat' split) <;> simp

@[simp] theorem receiveError_frame (k : LineError) :
    (receiveError k s).phase = s.phase ∧ (receiveError k s).mode = s.mode ∧ (receiveError k s).config = s.config
      ∧ (receiveError k s).listenCount = s.listenCount ∧ (receiveError k s).clampCount = s.clampCount
      ∧ (receiveError k s).resetHeld = s.resetHeld ∧ (receiveError k s).peers = s.peers
      ∧ (receiveError k s).beat = s.beat ∧ (receiveError k s).zones = s.zones ∧ (receiveError k s).pins = s.pins
      ∧ (receiveError k s).boundaryUnderway = s.boundaryUnderway ∧ (receiveError k s).pending = s.pending := by
  unfold receiveError
  simp

@[simp] theorem receiveGood_frame (f : Frame) :
    (receiveGood f s).config = s.config ∧ (receiveGood f s).clampCount = s.clampCount
      ∧ (receiveGood f s).resetHeld = s.resetHeld ∧ (receiveGood f s).pins = s.pins
      ∧ (receiveGood f s).pending = s.pending := by
  unfold receiveGood
  simp

@[simp] theorem receive_frame (f : Frame) :
    (receive f s).config = s.config ∧ (receive f s).clampCount = s.clampCount
      ∧ (receive f s).resetHeld = s.resetHeld ∧ (receive f s).pins = s.pins ∧ (receive f s).pending = s.pending := by
  unfold receive
  (repeat' split) <;> simp

@[simp] theorem receiveBytes_frame (bs : List Byte) (e : Bool) :
    (receiveBytes bs e s).config = s.config ∧ (receiveBytes bs e s).clampCount = s.clampCount
      ∧ (receiveBytes bs e s).resetHeld = s.resetHeld ∧ (receiveBytes bs e s).pins = s.pins
      ∧ (receiveBytes bs e s).pending = s.pending := by
  unfold receiveBytes
  (repeat' split) <;> simp

@[simp] theorem beginFrame_frame :
    (beginFrame s).phase = s.phase ∧ (beginFrame s).mode = s.mode ∧ (beginFrame s).config = s.config
      ∧ (beginFrame s).listenCount = s.listenCount ∧ (beginFrame s).clampCount = s.clampCount
      ∧ (beginFrame s).resetHeld = s.resetHeld ∧ (beginFrame s).peers = s.peers
      ∧ (beginFrame s).condition = s.condition ∧ (beginFrame s).faults = s.faults ∧ (beginFrame s).beat = s.beat
      ∧ (beginFrame s).zones = s.zones ∧ (beginFrame s).curtain = s.curtain ∧ (beginFrame s).pins = s.pins
      ∧ (beginFrame s).lights = s.lights ∧ (beginFrame s).calls = s.calls ∧ (beginFrame s).panel = s.panel
      ∧ (beginFrame s).boundaryUnderway = s.boundaryUnderway ∧ (beginFrame s).placementHeld = s.placementHeld
      ∧ (beginFrame s).pending = s.pending := by
  unfold beginFrame
  (repeat' split) <;> simp

@[simp] theorem loseArbitration_frame :
    (loseArbitration s).phase = s.phase ∧ (loseArbitration s).mode = s.mode
      ∧ (loseArbitration s).config = s.config ∧ (loseArbitration s).listenCount = s.listenCount
      ∧ (loseArbitration s).clampCount = s.clampCount ∧ (loseArbitration s).resetHeld = s.resetHeld
      ∧ (loseArbitration s).peers = s.peers ∧ (loseArbitration s).condition = s.condition
      ∧ (loseArbitration s).faults = s.faults ∧ (loseArbitration s).beat = s.beat
      ∧ (loseArbitration s).zones = s.zones ∧ (loseArbitration s).curtain = s.curtain
      ∧ (loseArbitration s).pins = s.pins ∧ (loseArbitration s).lights = s.lights
      ∧ (loseArbitration s).calls = s.calls ∧ (loseArbitration s).boundaryUnderway = s.boundaryUnderway
      ∧ (loseArbitration s).placementHeld = s.placementHeld ∧ (loseArbitration s).pending = s.pending := by
  unfold loseArbitration
  (repeat' split) <;> simp

@[simp] theorem abandonFrame_frame :
    (abandonFrame s).phase = s.phase ∧ (abandonFrame s).mode = s.mode ∧ (abandonFrame s).config = s.config
      ∧ (abandonFrame s).listenCount = s.listenCount ∧ (abandonFrame s).clampCount = s.clampCount
      ∧ (abandonFrame s).resetHeld = s.resetHeld ∧ (abandonFrame s).peers = s.peers
      ∧ (abandonFrame s).beat = s.beat ∧ (abandonFrame s).zones = s.zones ∧ (abandonFrame s).pins = s.pins
      ∧ (abandonFrame s).boundaryUnderway = s.boundaryUnderway ∧ (abandonFrame s).pending = s.pending := by
  unfold abandonFrame
  (repeat' split) <;> simp

@[simp] theorem reflectFrame_frame :
    (reflectFrame s).config = s.config ∧ (reflectFrame s).clampCount = s.clampCount
      ∧ (reflectFrame s).resetHeld = s.resetHeld ∧ (reflectFrame s).pins = s.pins
      ∧ (reflectFrame s).pending = s.pending := by
  unfold reflectFrame
  (repeat' split) <;> simp

end Sys2Proof.Machine
end

