-- ==== Sys2Proof/Laws/LineFrames.lean ====
section
/-! SUPPORT. The Line Interface below its queue: for each operation of the other blocks that reaches the line or the fault
set, one lemma that the send slot, the counters, the score and the line's two faults stay as they are. -/

namespace Sys2Proof.Machine

@[simp] theorem put_curtain_line (f : FaultSet) (v : Bool) :
    (f.put .curtain v).lineDegraded = f.lineDegraded ∧ (f.put .curtain v).duplicate = f.duplicate := ⟨rfl, rfl⟩

@[simp] theorem put_alone_line (f : FaultSet) (v : Bool) :
    (f.put .alone v).lineDegraded = f.lineDegraded ∧ (f.put .alone v).duplicate = f.duplicate := ⟨rfl, rfl⟩

@[simp] theorem put_requiredLost_line (f : FaultSet) (v : Bool) :
    (f.put .requiredLost v).lineDegraded = f.lineDegraded ∧ (f.put .requiredLost v).duplicate = f.duplicate := ⟨rfl, rfl⟩

variable (s : State)

@[simp] theorem offer_line (f : Payload) :
    (offer f s).line.slot = s.line.slot ∧ (offer f s).line.heldBeat = s.line.heldBeat
      ∧ (offer f s).line.checkCount = s.line.checkCount ∧ (offer f s).line.formCount = s.line.formCount
      ∧ (offer f s).line.bitCount = s.line.bitCount ∧ (offer f s).line.score = s.line.score
      ∧ (offer f s).line.good = s.line.good ∧ (offer f s).line.threshold = s.line.threshold := by
  unfold offer
  (repeat' split) <;> simp

@[simp] theorem returnFrame_line (f : Payload) :
    (returnFrame f s).line.slot = s.line.slot ∧ (returnFrame f s).line.heldBeat = s.line.heldBeat
      ∧ (returnFrame f s).line.checkCount = s.line.checkCount
      ∧ (returnFrame f s).line.formCount = s.line.formCount ∧ (returnFrame f s).line.bitCount = s.line.bitCount
      ∧ (returnFrame f s).line.score = s.line.score ∧ (returnFrame f s).line.good = s.line.good
      ∧ (returnFrame f s).line.threshold = s.line.threshold := by
  unfold returnFrame
  (repeat' split) <;> simp

@[simp] theorem withdrawBeat_line :
    (withdrawBeat s).line.slot = s.line.slot ∧ (withdrawBeat s).line.heldBeat = s.line.heldBeat
      ∧ (withdrawBeat s).line.checkCount = s.line.checkCount
      ∧ (withdrawBeat s).line.formCount = s.line.formCount ∧ (withdrawBeat s).line.bitCount = s.line.bitCount
      ∧ (withdrawBeat s).line.score = s.line.score ∧ (withdrawBeat s).line.good = s.line.good
      ∧ (withdrawBeat s).line.threshold = s.line.threshold := by
  unfold withdrawBeat
  simp

@[simp] theorem putCurtainFault_line (v : Bool) :
    (putCurtainFault v s).faults.lineDegraded = s.faults.lineDegraded
      ∧ (putCurtainFault v s).faults.duplicate = s.faults.duplicate := by
  unfold putCurtainFault
  (repeat' split) <;> simp

@[simp] theorem entryActions_line (p : Option CurtainState) (n : CurtainState) :
    (entryActions p n s).faults.lineDegraded = s.faults.lineDegraded
      ∧ (entryActions p n s).faults.duplicate = s.faults.duplicate := by
  unfold entryActions
  (repeat' split) <;> simp

@[simp] theorem curtainMove_line (n : CurtainState) (c : CurtainCause) :
    (curtainMove n c s).line.slot = s.line.slot ∧ (curtainMove n c s).line.heldBeat = s.line.heldBeat
      ∧ (curtainMove n c s).line.checkCount = s.line.checkCount
      ∧ (curtainMove n c s).line.formCount = s.line.formCount
      ∧ (curtainMove n c s).line.bitCount = s.line.bitCount ∧ (curtainMove n c s).line.score = s.line.score
      ∧ (curtainMove n c s).line.good = s.line.good ∧ (curtainMove n c s).line.threshold = s.line.threshold
      ∧ (curtainMove n c s).faults.lineDegraded = s.faults.lineDegraded
      ∧ (curtainMove n c s).faults.duplicate = s.faults.duplicate := by
  unfold curtainMove
  simp

@[simp] theorem curtainGo_line (n : CurtainState) (c : CurtainCause) :
    (curtainGo n c s).line.slot = s.line.slot ∧ (curtainGo n c s).line.heldBeat = s.line.heldBeat
      ∧ (curtainGo n c s).line.checkCount = s.line.checkCount
      ∧ (curtainGo n c s).line.formCount = s.line.formCount ∧ (curtainGo n c s).line.bitCount = s.line.bitCount
      ∧ (curtainGo n c s).line.score = s.line.score ∧ (curtainGo n c s).line.good = s.line.good
      ∧ (curtainGo n c s).line.threshold = s.line.threshold
      ∧ (curtainGo n c s).faults.lineDegraded = s.faults.lineDegraded
      ∧ (curtainGo n c s).faults.duplicate = s.faults.duplicate := by
  unfold curtainGo
  (repeat' split) <;> simp

@[simp] theorem curtainLowerTo_line (c : CurtainCause) :
    (curtainLowerTo c s).line.slot = s.line.slot ∧ (curtainLowerTo c s).line.heldBeat = s.line.heldBeat
      ∧ (curtainLowerTo c s).line.checkCount = s.line.checkCount
      ∧ (curtainLowerTo c s).line.formCount = s.line.formCount
      ∧ (curtainLowerTo c s).line.bitCount = s.line.bitCount ∧ (curtainLowerTo c s).line.score = s.line.score
      ∧ (curtainLowerTo c s).line.good = s.line.good ∧ (curtainLowerTo c s).line.threshold = s.line.threshold
      ∧ (curtainLowerTo c s).faults.lineDegraded = s.faults.lineDegraded
      ∧ (curtainLowerTo c s).faults.duplicate = s.faults.duplicate := by
  unfold curtainLowerTo
  (repeat' split) <;> simp

@[simp] theorem curtainCondition_line :
    (curtainCondition s).line.slot = s.line.slot ∧ (curtainCondition s).line.heldBeat = s.line.heldBeat
      ∧ (curtainCondition s).line.checkCount = s.line.checkCount
      ∧ (curtainCondition s).line.formCount = s.line.formCount
      ∧ (curtainCondition s).line.bitCount = s.line.bitCount ∧ (curtainCondition s).line.score = s.line.score
      ∧ (curtainCondition s).line.good = s.line.good ∧ (curtainCondition s).line.threshold = s.line.threshold
      ∧ (curtainCondition s).faults.lineDegraded = s.faults.lineDegraded
      ∧ (curtainCondition s).faults.duplicate = s.faults.duplicate := by
  unfold curtainCondition
  (repeat' split) <;> simp

@[simp] theorem deliverCondition_line (p : Condition) :
    (deliverCondition p s).line.slot = s.line.slot ∧ (deliverCondition p s).line.heldBeat = s.line.heldBeat
      ∧ (deliverCondition p s).line.checkCount = s.line.checkCount
      ∧ (deliverCondition p s).line.formCount = s.line.formCount
      ∧ (deliverCondition p s).line.bitCount = s.line.bitCount
      ∧ (deliverCondition p s).line.score = s.line.score ∧ (deliverCondition p s).line.good = s.line.good
      ∧ (deliverCondition p s).line.threshold = s.line.threshold
      ∧ (deliverCondition p s).faults.lineDegraded = s.faults.lineDegraded
      ∧ (deliverCondition p s).faults.duplicate = s.faults.duplicate := by
  unfold deliverCondition
  simp

@[simp] theorem recompute_line :
    (recompute s).line.slot = s.line.slot ∧ (recompute s).line.heldBeat = s.line.heldBeat
      ∧ (recompute s).line.checkCount = s.line.checkCount ∧ (recompute s).line.formCount = s.line.formCount
      ∧ (recompute s).line.bitCount = s.line.bitCount ∧ (recompute s).line.score = s.line.score
      ∧ (recompute s).line.good = s.line.good ∧ (recompute s).line.threshold = s.line.threshold
      ∧ (recompute s).faults.lineDegraded = s.faults.lineDegraded
      ∧ (recompute s).faults.duplicate = s.faults.duplicate := by
  unfold recompute
  dsimp only
  (repeat' split) <;> simp

@[simp] theorem curtainChange_line (n : CurtainState) (c : CurtainCause) :
    (curtainChange n c s).line.slot = s.line.slot ∧ (curtainChange n c s).line.heldBeat = s.line.heldBeat
      ∧ (curtainChange n c s).line.checkCount = s.line.checkCount
      ∧ (curtainChange n c s).line.formCount = s.line.formCount
      ∧ (curtainChange n c s).line.bitCount = s.line.bitCount ∧ (curtainChange n c s).line.score = s.line.score
      ∧ (curtainChange n c s).line.good = s.line.good ∧ (curtainChange n c s).line.threshold = s.line.threshold
      ∧ (curtainChange n c s).faults.lineDegraded = s.faults.lineDegraded
      ∧ (curtainChange n c s).faults.duplicate = s.faults.duplicate := by
  unfold curtainChange afterCurtain
  (repeat' split) <;> simp

@[simp] theorem curtainLowering_line (c : CurtainCause) :
    (curtainLowering c s).line.slot = s.line.slot ∧ (curtainLowering c s).line.heldBeat = s.line.heldBeat
      ∧ (curtainLowering c s).line.checkCount = s.line.checkCount
      ∧ (curtainLowering c s).line.formCount = s.line.formCount
      ∧ (curtainLowering c s).line.bitCount = s.line.bitCount ∧ (curtainLowering c s).line.score = s.line.score
      ∧ (curtainLowering c s).line.good = s.line.good ∧ (curtainLowering c s).line.threshold = s.line.threshold
      ∧ (curtainLowering c s).faults.lineDegraded = s.faults.lineDegraded
      ∧ (curtainLowering c s).faults.duplicate = s.faults.duplicate := by
  unfold curtainLowering afterCurtain
  (repeat' split) <;> simp

@[simp] theorem enterCurtainFault_line :
    (enterCurtainFault s).line.slot = s.line.slot ∧ (enterCurtainFault s).line.heldBeat = s.line.heldBeat
      ∧ (enterCurtainFault s).line.checkCount = s.line.checkCount
      ∧ (enterCurtainFault s).line.formCount = s.line.formCount
      ∧ (enterCurtainFault s).line.bitCount = s.line.bitCount ∧ (enterCurtainFault s).line.score = s.line.score
      ∧ (enterCurtainFault s).line.good = s.line.good ∧ (enterCurtainFault s).line.threshold = s.line.threshold
      ∧ (enterCurtainFault s).faults.lineDegraded = s.faults.lineDegraded
      ∧ (enterCurtainFault s).faults.duplicate = s.faults.duplicate := by
  unfold enterCurtainFault afterCurtain
  (repeat' split) <;> simp

@[simp] theorem failSafe_line :
    (failSafe s).line.slot = s.line.slot ∧ (failSafe s).line.heldBeat = s.line.heldBeat
      ∧ (failSafe s).line.checkCount = s.line.checkCount ∧ (failSafe s).line.formCount = s.line.formCount
      ∧ (failSafe s).line.bitCount = s.line.bitCount ∧ (failSafe s).line.score = s.line.score
      ∧ (failSafe s).line.good = s.line.good ∧ (failSafe s).line.threshold = s.line.threshold
      ∧ (failSafe s).faults.lineDegraded = s.faults.lineDegraded
      ∧ (failSafe s).faults.duplicate = s.faults.duplicate := by
  unfold failSafe
  (repeat' split) <;> simp

@[simp] theorem putPeerFault_line (v : Bool) :
    (putPeerFault .alone v s).line.slot = s.line.slot
      ∧ (putPeerFault .alone v s).line.heldBeat = s.line.heldBeat
      ∧ (putPeerFault .alone v s).line.checkCount = s.line.checkCount
      ∧ (putPeerFault .alone v s).line.formCount = s.line.formCount
      ∧ (putPeerFault .alone v s).line.bitCount = s.line.bitCount
      ∧ (putPeerFault .alone v s).line.score = s.line.score ∧ (putPeerFault .alone v s).line.good = s.line.good
      ∧ (putPeerFault .alone v s).line.threshold = s.line.threshold
      ∧ (putPeerFault .alone v s).faults.lineDegraded = s.faults.lineDegraded
      ∧ (putPeerFault .alone v s).faults.duplicate = s.faults.duplicate
      ∧ (putPeerFault .requiredLost v s).line.slot = s.line.slot
      ∧ (putPeerFault .requiredLost v s).line.heldBeat = s.line.heldBeat
      ∧ (putPeerFault .requiredLost v s).line.checkCount = s.line.checkCount
      ∧ (putPeerFault .requiredLost v s).line.formCount = s.line.formCount
      ∧ (putPeerFault .requiredLost v s).line.bitCount = s.line.bitCount
      ∧ (putPeerFault .requiredLost v s).line.score = s.line.score
      ∧ (putPeerFault .requiredLost v s).line.good = s.line.good
      ∧ (putPeerFault .requiredLost v s).line.threshold = s.line.threshold
      ∧ (putPeerFault .requiredLost v s).faults.lineDegraded = s.faults.lineDegraded
      ∧ (putPeerFault .requiredLost v s).faults.duplicate = s.faults.duplicate := by
  unfold putPeerFault
  (repeat' split) <;> simp

@[simp] theorem judgeRequired_line :
    (judgeRequired s).line.slot = s.line.slot ∧ (judgeRequired s).line.heldBeat = s.line.heldBeat
      ∧ (judgeRequired s).line.checkCount = s.line.checkCount
      ∧ (judgeRequired s).line.formCount = s.line.formCount ∧ (judgeRequired s).line.bitCount = s.line.bitCount
      ∧ (judgeRequired s).line.score = s.line.score ∧ (judgeRequired s).line.good = s.line.good
      ∧ (judgeRequired s).line.threshold = s.line.threshold
      ∧ (judgeRequired s).faults.lineDegraded = s.faults.lineDegraded
      ∧ (judgeRequired s).faults.duplicate = s.faults.duplicate := by
  unfold judgeRequired
  (repeat' split) <;> simp

@[simp] theorem enterActive_line (c : ListenCause) :
    (enterActive c s).line.slot = s.line.slot ∧ (enterActive c s).line.heldBeat = s.line.heldBeat
      ∧ (enterActive c s).line.checkCount = s.line.checkCount
      ∧ (enterActive c s).line.formCount = s.line.formCount ∧ (enterActive c s).line.bitCount = s.line.bitCount
      ∧ (enterActive c s).line.score = s.line.score ∧ (enterActive c s).line.good = s.line.good
      ∧ (enterActive c s).line.threshold = s.line.threshold
      ∧ (enterActive c s).faults.lineDegraded = s.faults.lineDegraded
      ∧ (enterActive c s).faults.duplicate = s.faults.duplicate := by
  unfold enterActive
  simp

@[simp] theorem announceZone_line (n : Nat) (p : ZoneState) (z : ZoneRecord) (c : ZoneCause) :
    (announceZone n p z c s).line.slot = s.line.slot ∧ (announceZone n p z c s).line.heldBeat = s.line.heldBeat
      ∧ (announceZone n p z c s).line.checkCount = s.line.checkCount
      ∧ (announceZone n p z c s).line.formCount = s.line.formCount
      ∧ (announceZone n p z c s).line.bitCount = s.line.bitCount
      ∧ (announceZone n p z c s).line.score = s.line.score ∧ (announceZone n p z c s).line.good = s.line.good
      ∧ (announceZone n p z c s).line.threshold = s.line.threshold
      ∧ (announceZone n p z c s).faults.lineDegraded = s.faults.lineDegraded
      ∧ (announceZone n p z c s).faults.duplicate = s.faults.duplicate := by
  unfold announceZone
  dsimp only
  (repeat' split) <;> simp

@[simp] theorem changeZone_line (n : Nat) (z : ZoneRecord) (c : ZoneCause) :
    (changeZone n z c s).line.slot = s.line.slot ∧ (changeZone n z c s).line.heldBeat = s.line.heldBeat
      ∧ (changeZone n z c s).line.checkCount = s.line.checkCount
      ∧ (changeZone n z c s).line.formCount = s.line.formCount
      ∧ (changeZone n z c s).line.bitCount = s.line.bitCount ∧ (changeZone n z c s).line.score = s.line.score
      ∧ (changeZone n z c s).line.good = s.line.good ∧ (changeZone n z c s).line.threshold = s.line.threshold
      ∧ (changeZone n z c s).faults.lineDegraded = s.faults.lineDegraded
      ∧ (changeZone n z c s).faults.duplicate = s.faults.duplicate := by
  unfold changeZone
  (repeat' split) <;> simp

@[simp] theorem escalateZone_line (n : Nat) :
    (escalateZone n s).line.slot = s.line.slot ∧ (escalateZone n s).line.heldBeat = s.line.heldBeat
      ∧ (escalateZone n s).line.checkCount = s.line.checkCount
      ∧ (escalateZone n s).line.formCount = s.line.formCount
      ∧ (escalateZone n s).line.bitCount = s.line.bitCount ∧ (escalateZone n s).line.score = s.line.score
      ∧ (escalateZone n s).line.good = s.line.good ∧ (escalateZone n s).line.threshold = s.line.threshold
      ∧ (escalateZone n s).faults.lineDegraded = s.faults.lineDegraded
      ∧ (escalateZone n s).faults.duplicate = s.faults.duplicate := by
  unfold escalateZone
  (repeat' split) <;> simp

@[simp] theorem escalate_line (x : Option Nat) :
    (escalate x s).line.slot = s.line.slot ∧ (escalate x s).line.heldBeat = s.line.heldBeat
      ∧ (escalate x s).line.checkCount = s.line.checkCount ∧ (escalate x s).line.formCount = s.line.formCount
      ∧ (escalate x s).line.bitCount = s.line.bitCount ∧ (escalate x s).line.score = s.line.score
      ∧ (escalate x s).line.good = s.line.good ∧ (escalate x s).line.threshold = s.line.threshold
      ∧ (escalate x s).faults.lineDegraded = s.faults.lineDegraded
      ∧ (escalate x s).faults.duplicate = s.faults.duplicate := by
  refine ⟨?_, ?_, ?_, ?_, ?_, ?_, ?_, ?_, ?_, ?_⟩
  all_goals unfold escalate
  · exact foldl_keeps (fun s => s.line.slot) _ (by intros; split <;> simp) _ _
  · exact foldl_keeps (fun s => s.line.heldBeat) _ (by intros; split <;> simp) _ _
  · exact foldl_keeps (fun s => s.line.checkCount) _ (by intros; split <;> simp) _ _
  · exact foldl_keeps (fun s => s.line.formCount) _ (by intros; split <;> simp) _ _
  · exact foldl_keeps (fun s => s.line.bitCount) _ (by intros; split <;> simp) _ _
  · exact foldl_keeps (fun s => s.line.score) _ (by intros; split <;> simp) _ _
  · exact foldl_keeps (fun s => s.line.good) _ (by intros; split <;> simp) _ _
  · exact foldl_keeps (fun s => s.line.threshold) _ (by intros; split <;> simp) _ _
  · exact foldl_keeps (fun s => s.faults.lineDegraded) _ (by intros; split <;> simp) _ _
  · exact foldl_keeps (fun s => s.faults.duplicate) _ (by intros; split <;> simp) _ _

@[simp] theorem moveZone_line (n : Nat) (z : ZoneRecord) (c : ZoneCause) :
    (moveZone n z c s).line.slot = s.line.slot ∧ (moveZone n z c s).line.heldBeat = s.line.heldBeat
      ∧ (moveZone n z c s).line.checkCount = s.line.checkCount
      ∧ (moveZone n z c s).line.formCount = s.line.formCount
      ∧ (moveZone n z c s).line.bitCount = s.line.bitCount ∧ (moveZone n z c s).line.score = s.line.score
      ∧ (moveZone n z c s).line.good = s.line.good ∧ (moveZone n z c s).line.threshold = s.line.threshold
      ∧ (moveZone n z c s).faults.lineDegraded = s.faults.lineDegraded
      ∧ (moveZone n z c s).faults.duplicate = s.faults.duplicate := by
  unfold moveZone
  (repeat' split) <;> simp

@[simp] theorem startAlarm_line (n : Nat) (z : ZoneRecord) :
    (startAlarm n z s).line.slot = s.line.slot ∧ (startAlarm n z s).line.heldBeat = s.line.heldBeat
      ∧ (startAlarm n z s).line.checkCount = s.line.checkCount
      ∧ (startAlarm n z s).line.formCount = s.line.formCount
      ∧ (startAlarm n z s).line.bitCount = s.line.bitCount ∧ (startAlarm n z s).line.score = s.line.score
      ∧ (startAlarm n z s).line.good = s.line.good ∧ (startAlarm n z s).line.threshold = s.line.threshold
      ∧ (startAlarm n z s).faults.lineDegraded = s.faults.lineDegraded
      ∧ (startAlarm n z s).faults.duplicate = s.faults.duplicate := by
  unfold startAlarm
  (repeat' split) <;> simp

@[simp] theorem applyReading_line (n : Nat) (r : Reading) (z : ZoneRecord) :
    (applyReading n r z s).line.slot = s.line.slot ∧ (applyReading n r z s).line.heldBeat = s.line.heldBeat
      ∧ (applyReading n r z s).line.checkCount = s.line.checkCount
      ∧ (applyReading n r z s).line.formCount = s.line.formCount
      ∧ (applyReading n r z s).line.bitCount = s.line.bitCount
      ∧ (applyReading n r z s).line.score = s.line.score ∧ (applyReading n r z s).line.good = s.line.good
      ∧ (applyReading n r z s).line.threshold = s.line.threshold
      ∧ (applyReading n r z s).faults.lineDegraded = s.faults.lineDegraded
      ∧ (applyReading n r z s).faults.duplicate = s.faults.duplicate := by
  unfold applyReading
  dsimp only
  (repeat' split) <;> simp

@[simp] theorem expireZone_line (n : Nat) :
    (expireZone n s).line.slot = s.line.slot ∧ (expireZone n s).line.heldBeat = s.line.heldBeat
      ∧ (expireZone n s).line.checkCount = s.line.checkCount
      ∧ (expireZone n s).line.formCount = s.line.formCount ∧ (expireZone n s).line.bitCount = s.line.bitCount
      ∧ (expireZone n s).line.score = s.line.score ∧ (expireZone n s).line.good = s.line.good
      ∧ (expireZone n s).line.threshold = s.line.threshold
      ∧ (expireZone n s).faults.lineDegraded = s.faults.lineDegraded
      ∧ (expireZone n s).faults.duplicate = s.faults.duplicate := by
  unfold expireZone
  (repeat' split) <;> simp

@[simp] theorem countTimer_line (n : Nat) :
    (countTimer n s).line.slot = s.line.slot ∧ (countTimer n s).line.heldBeat = s.line.heldBeat
      ∧ (countTimer n s).line.checkCount = s.line.checkCount
      ∧ (countTimer n s).line.formCount = s.line.formCount ∧ (countTimer n s).line.bitCount = s.line.bitCount
      ∧ (countTimer n s).line.score = s.line.score ∧ (countTimer n s).line.good = s.line.good
      ∧ (countTimer n s).line.threshold = s.line.threshold
      ∧ (countTimer n s).faults.lineDegraded = s.faults.lineDegraded
      ∧ (countTimer n s).faults.duplicate = s.faults.duplicate := by
  unfold countTimer
  (repeat' split) <;> simp

@[simp] theorem sampleZone_line (n : Nat) (p : Bool × Bool) :
    (sampleZone n p s).line.slot = s.line.slot ∧ (sampleZone n p s).line.heldBeat = s.line.heldBeat
      ∧ (sampleZone n p s).line.checkCount = s.line.checkCount
      ∧ (sampleZone n p s).line.formCount = s.line.formCount
      ∧ (sampleZone n p s).line.bitCount = s.line.bitCount ∧ (sampleZone n p s).line.score = s.line.score
      ∧ (sampleZone n p s).line.good = s.line.good ∧ (sampleZone n p s).line.threshold = s.line.threshold
      ∧ (sampleZone n p s).faults.lineDegraded = s.faults.lineDegraded
      ∧ (sampleZone n p s).faults.duplicate = s.faults.duplicate := by
  unfold sampleZone
  dsimp only
  (repeat' split) <;> simp

@[simp] theorem handleZone_line (i : SampleInputs) (h : List Bool) (n : Nat) :
    (handleZone i h s n).line.slot = s.line.slot ∧ (handleZone i h s n).line.heldBeat = s.line.heldBeat
      ∧ (handleZone i h s n).line.checkCount = s.line.checkCount
      ∧ (handleZone i h s n).line.formCount = s.line.formCount
      ∧ (handleZone i h s n).line.bitCount = s.line.bitCount ∧ (handleZone i h s n).line.score = s.line.score
      ∧ (handleZone i h s n).line.good = s.line.good ∧ (handleZone i h s n).line.threshold = s.line.threshold
      ∧ (handleZone i h s n).faults.lineDegraded = s.faults.lineDegraded
      ∧ (handleZone i h s n).faults.duplicate = s.faults.duplicate := by
  unfold handleZone
  (repeat' split) <;> simp

@[simp] theorem sampleZones_line (i : SampleInputs) :
    (sampleZones i s).line.slot = s.line.slot ∧ (sampleZones i s).line.heldBeat = s.line.heldBeat
      ∧ (sampleZones i s).line.checkCount = s.line.checkCount
      ∧ (sampleZones i s).line.formCount = s.line.formCount ∧ (sampleZones i s).line.bitCount = s.line.bitCount
      ∧ (sampleZones i s).line.score = s.line.score ∧ (sampleZones i s).line.good = s.line.good
      ∧ (sampleZones i s).line.threshold = s.line.threshold
      ∧ (sampleZones i s).faults.lineDegraded = s.faults.lineDegraded
      ∧ (sampleZones i s).faults.duplicate = s.faults.duplicate := by
  refine ⟨?_, ?_, ?_, ?_, ?_, ?_, ?_, ?_, ?_, ?_⟩
  all_goals unfold sampleZones
  · exact foldl_keeps (fun s => s.line.slot) _ (by intros; simp) _ _
  · exact foldl_keeps (fun s => s.line.heldBeat) _ (by intros; simp) _ _
  · exact foldl_keeps (fun s => s.line.checkCount) _ (by intros; simp) _ _
  · exact foldl_keeps (fun s => s.line.formCount) _ (by intros; simp) _ _
  · exact foldl_keeps (fun s => s.line.bitCount) _ (by intros; simp) _ _
  · exact foldl_keeps (fun s => s.line.score) _ (by intros; simp) _ _
  · exact foldl_keeps (fun s => s.line.good) _ (by intros; simp) _ _
  · exact foldl_keeps (fun s => s.line.threshold) _ (by intros; simp) _ _
  · exact foldl_keeps (fun s => s.faults.lineDegraded) _ (by intros; simp) _ _
  · exact foldl_keeps (fun s => s.faults.duplicate) _ (by intros; simp) _ _

@[simp] theorem ackZone_line (n : Nat) :
    (ackZone n s).line.slot = s.line.slot ∧ (ackZone n s).line.heldBeat = s.line.heldBeat
      ∧ (ackZone n s).line.checkCount = s.line.checkCount ∧ (ackZone n s).line.formCount = s.line.formCount
      ∧ (ackZone n s).line.bitCount = s.line.bitCount ∧ (ackZone n s).line.score = s.line.score
      ∧ (ackZone n s).line.good = s.line.good ∧ (ackZone n s).line.threshold = s.line.threshold
      ∧ (ackZone n s).faults.lineDegraded = s.faults.lineDegraded
      ∧ (ackZone n s).faults.duplicate = s.faults.duplicate := by
  unfold ackZone
  (repeat' split) <;> simp

@[simp] theorem ackZones_line (n : Nat) :
    (ackZones n s).line.slot = s.line.slot ∧ (ackZones n s).line.heldBeat = s.line.heldBeat
      ∧ (ackZones n s).line.checkCount = s.line.checkCount ∧ (ackZones n s).line.formCount = s.line.formCount
      ∧ (ackZones n s).line.bitCount = s.line.bitCount ∧ (ackZones n s).line.score = s.line.score
      ∧ (ackZones n s).line.good = s.line.good ∧ (ackZones n s).line.threshold = s.line.threshold
      ∧ (ackZones n s).faults.lineDegraded = s.faults.lineDegraded
      ∧ (ackZones n s).faults.duplicate = s.faults.duplicate := by
  unfold ackZones
  split
  · refine ⟨?_, ?_, ?_, ?_, ?_, ?_, ?_, ?_, ?_, ?_⟩
    · exact foldl_keeps (fun s => s.line.slot) _ (by intros; simp) _ _
    · exact foldl_keeps (fun s => s.line.heldBeat) _ (by intros; simp) _ _
    · exact foldl_keeps (fun s => s.line.checkCount) _ (by intros; simp) _ _
    · exact foldl_keeps (fun s => s.line.formCount) _ (by intros; simp) _ _
    · exact foldl_keeps (fun s => s.line.bitCount) _ (by intros; simp) _ _
    · exact foldl_keeps (fun s => s.line.score) _ (by intros; simp) _ _
    · exact foldl_keeps (fun s => s.line.good) _ (by intros; simp) _ _
    · exact foldl_keeps (fun s => s.line.threshold) _ (by intros; simp) _ _
    · exact foldl_keeps (fun s => s.faults.lineDegraded) _ (by intros; simp) _ _
    · exact foldl_keeps (fun s => s.faults.duplicate) _ (by intros; simp) _ _
  · simp

@[simp] theorem resetZones_line :
    (resetZones s).line.slot = s.line.slot ∧ (resetZones s).line.heldBeat = s.line.heldBeat
      ∧ (resetZones s).line.checkCount = s.line.checkCount ∧ (resetZones s).line.formCount = s.line.formCount
      ∧ (resetZones s).line.bitCount = s.line.bitCount ∧ (resetZones s).line.score = s.line.score
      ∧ (resetZones s).line.good = s.line.good ∧ (resetZones s).line.threshold = s.line.threshold
      ∧ (resetZones s).faults.lineDegraded = s.faults.lineDegraded
      ∧ (resetZones s).faults.duplicate = s.faults.duplicate := by
  refine ⟨?_, ?_, ?_, ?_, ?_, ?_, ?_, ?_, ?_, ?_⟩
  all_goals unfold resetZones
  · exact foldl_keeps (fun s => s.line.slot) _ (by intros; simp) _ _
  · exact foldl_keeps (fun s => s.line.heldBeat) _ (by intros; simp) _ _
  · exact foldl_keeps (fun s => s.line.checkCount) _ (by intros; simp) _ _
  · exact foldl_keeps (fun s => s.line.formCount) _ (by intros; simp) _ _
  · exact foldl_keeps (fun s => s.line.bitCount) _ (by intros; simp) _ _
  · exact foldl_keeps (fun s => s.line.score) _ (by intros; simp) _ _
  · exact foldl_keeps (fun s => s.line.good) _ (by intros; simp) _ _
  · exact foldl_keeps (fun s => s.line.threshold) _ (by intros; simp) _ _
  · exact foldl_keeps (fun s => s.faults.lineDegraded) _ (by intros; simp) _ _
  · exact foldl_keeps (fun s => s.faults.duplicate) _ (by intros; simp) _ _

@[simp] theorem isolateZone_line (n : Nat) :
    (isolateZone n s).line.slot = s.line.slot ∧ (isolateZone n s).line.heldBeat = s.line.heldBeat
      ∧ (isolateZone n s).line.checkCount = s.line.checkCount
      ∧ (isolateZone n s).line.formCount = s.line.formCount ∧ (isolateZone n s).line.bitCount = s.line.bitCount
      ∧ (isolateZone n s).line.score = s.line.score ∧ (isolateZone n s).line.good = s.line.good
      ∧ (isolateZone n s).line.threshold = s.line.threshold
      ∧ (isolateZone n s).faults.lineDegraded = s.faults.lineDegraded
      ∧ (isolateZone n s).faults.duplicate = s.faults.duplicate := by
  unfold isolateZone
  (repeat' split) <;> simp

@[simp] theorem restoreZone_line (n : Nat) :
    (restoreZone n s).line.slot = s.line.slot ∧ (restoreZone n s).line.heldBeat = s.line.heldBeat
      ∧ (restoreZone n s).line.checkCount = s.line.checkCount
      ∧ (restoreZone n s).line.formCount = s.line.formCount ∧ (restoreZone n s).line.bitCount = s.line.bitCount
      ∧ (restoreZone n s).line.score = s.line.score ∧ (restoreZone n s).line.good = s.line.good
      ∧ (restoreZone n s).line.threshold = s.line.threshold
      ∧ (restoreZone n s).faults.lineDegraded = s.faults.lineDegraded
      ∧ (restoreZone n s).faults.duplicate = s.faults.duplicate := by
  unfold restoreZone
  (repeat' split) <;> simp

@[simp] theorem judgeStation_line (n : Nat) :
    (judgeStation n s).line.slot = s.line.slot ∧ (judgeStation n s).line.heldBeat = s.line.heldBeat
      ∧ (judgeStation n s).line.checkCount = s.line.checkCount
      ∧ (judgeStation n s).line.formCount = s.line.formCount
      ∧ (judgeStation n s).line.bitCount = s.line.bitCount ∧ (judgeStation n s).line.score = s.line.score
      ∧ (judgeStation n s).line.good = s.line.good ∧ (judgeStation n s).line.threshold = s.line.threshold
      ∧ (judgeStation n s).faults.lineDegraded = s.faults.lineDegraded
      ∧ (judgeStation n s).faults.duplicate = s.faults.duplicate := by
  unfold judgeStation
  (repeat' split) <;> simp

@[simp] theorem heardAnyPeer_line :
    (heardAnyPeer s).line.slot = s.line.slot ∧ (heardAnyPeer s).line.heldBeat = s.line.heldBeat
      ∧ (heardAnyPeer s).line.checkCount = s.line.checkCount
      ∧ (heardAnyPeer s).line.formCount = s.line.formCount ∧ (heardAnyPeer s).line.bitCount = s.line.bitCount
      ∧ (heardAnyPeer s).line.score = s.line.score ∧ (heardAnyPeer s).line.good = s.line.good
      ∧ (heardAnyPeer s).line.threshold = s.line.threshold
      ∧ (heardAnyPeer s).faults.lineDegraded = s.faults.lineDegraded
      ∧ (heardAnyPeer s).faults.duplicate = s.faults.duplicate := by
  unfold heardAnyPeer
  simp

@[simp] theorem heardFrom_line (n : Nat) :
    (heardFrom n s).line.slot = s.line.slot ∧ (heardFrom n s).line.heldBeat = s.line.heldBeat
      ∧ (heardFrom n s).line.checkCount = s.line.checkCount ∧ (heardFrom n s).line.formCount = s.line.formCount
      ∧ (heardFrom n s).line.bitCount = s.line.bitCount ∧ (heardFrom n s).line.score = s.line.score
      ∧ (heardFrom n s).line.good = s.line.good ∧ (heardFrom n s).line.threshold = s.line.threshold
      ∧ (heardFrom n s).faults.lineDegraded = s.faults.lineDegraded
      ∧ (heardFrom n s).faults.duplicate = s.faults.duplicate := by
  unfold heardFrom
  (repeat' split) <;> simp

@[simp] theorem zoneListChanged_line (o n : List PeerZone) :
    (zoneListChanged o n s).line.slot = s.line.slot ∧ (zoneListChanged o n s).line.heldBeat = s.line.heldBeat
      ∧ (zoneListChanged o n s).line.checkCount = s.line.checkCount
      ∧ (zoneListChanged o n s).line.formCount = s.line.formCount
      ∧ (zoneListChanged o n s).line.bitCount = s.line.bitCount
      ∧ (zoneListChanged o n s).line.score = s.line.score ∧ (zoneListChanged o n s).line.good = s.line.good
      ∧ (zoneListChanged o n s).line.threshold = s.line.threshold
      ∧ (zoneListChanged o n s).faults.lineDegraded = s.faults.lineDegraded
      ∧ (zoneListChanged o n s).faults.duplicate = s.faults.duplicate := by
  unfold zoneListChanged
  (repeat' split) <;> simp

@[simp] theorem takeZoneFrame_line (n : Nat) (z : PeerZone) :
    (takeZoneFrame n z s).line.slot = s.line.slot ∧ (takeZoneFrame n z s).line.heldBeat = s.line.heldBeat
      ∧ (takeZoneFrame n z s).line.checkCount = s.line.checkCount
      ∧ (takeZoneFrame n z s).line.formCount = s.line.formCount
      ∧ (takeZoneFrame n z s).line.bitCount = s.line.bitCount ∧ (takeZoneFrame n z s).line.score = s.line.score
      ∧ (takeZoneFrame n z s).line.good = s.line.good ∧ (takeZoneFrame n z s).line.threshold = s.line.threshold
      ∧ (takeZoneFrame n z s).faults.lineDegraded = s.faults.lineDegraded
      ∧ (takeZoneFrame n z s).faults.duplicate = s.faults.duplicate := by
  unfold takeZoneFrame
  simp

@[simp] theorem takeStatusFrame_line (n : Nat) (r : Role) (m : Mode) (f : FaultSet) (c : Option (CurtainState × Nat)) (zs : List PeerZone) :
    (takeStatusFrame n r m f c zs s).line.slot = s.line.slot
      ∧ (takeStatusFrame n r m f c zs s).line.heldBeat = s.line.heldBeat
      ∧ (takeStatusFrame n r m f c zs s).line.checkCount = s.line.checkCount
      ∧ (takeStatusFrame n r m f c zs s).line.formCount = s.line.formCount
      ∧ (takeStatusFrame n r m f c zs s).line.bitCount = s.line.bitCount
      ∧ (takeStatusFrame n r m f c zs s).line.score = s.line.score
      ∧ (takeStatusFrame n r m f c zs s).line.good = s.line.good
      ∧ (takeStatusFrame n r m f c zs s).line.threshold = s.line.threshold
      ∧ (takeStatusFrame n r m f c zs s).faults.lineDegraded = s.faults.lineDegraded
      ∧ (takeStatusFrame n r m f c zs s).faults.duplicate = s.faults.duplicate := by
  unfold takeStatusFrame
  (repeat' split) <;> simp

@[simp] theorem removeLost_line (n : Nat) :
    (removeLost s n).line.slot = s.line.slot ∧ (removeLost s n).line.heldBeat = s.line.heldBeat
      ∧ (removeLost s n).line.checkCount = s.line.checkCount
      ∧ (removeLost s n).line.formCount = s.line.formCount ∧ (removeLost s n).line.bitCount = s.line.bitCount
      ∧ (removeLost s n).line.score = s.line.score ∧ (removeLost s n).line.good = s.line.good
      ∧ (removeLost s n).line.threshold = s.line.threshold
      ∧ (removeLost s n).faults.lineDegraded = s.faults.lineDegraded
      ∧ (removeLost s n).faults.duplicate = s.faults.duplicate := by
  unfold removeLost
  (repeat' split) <;> simp

@[simp] theorem removeLostPeers_line :
    (removeLostPeers s).line.slot = s.line.slot ∧ (removeLostPeers s).line.heldBeat = s.line.heldBeat
      ∧ (removeLostPeers s).line.checkCount = s.line.checkCount
      ∧ (removeLostPeers s).line.formCount = s.line.formCount
      ∧ (removeLostPeers s).line.bitCount = s.line.bitCount ∧ (removeLostPeers s).line.score = s.line.score
      ∧ (removeLostPeers s).line.good = s.line.good ∧ (removeLostPeers s).line.threshold = s.line.threshold
      ∧ (removeLostPeers s).faults.lineDegraded = s.faults.lineDegraded
      ∧ (removeLostPeers s).faults.duplicate = s.faults.duplicate := by
  refine ⟨?_, ?_, ?_, ?_, ?_, ?_, ?_, ?_, ?_, ?_⟩
  all_goals unfold removeLostPeers
  · exact foldl_keeps (fun s => s.line.slot) _ (by intros; simp) _ _
  · exact foldl_keeps (fun s => s.line.heldBeat) _ (by intros; simp) _ _
  · exact foldl_keeps (fun s => s.line.checkCount) _ (by intros; simp) _ _
  · exact foldl_keeps (fun s => s.line.formCount) _ (by intros; simp) _ _
  · exact foldl_keeps (fun s => s.line.bitCount) _ (by intros; simp) _ _
  · exact foldl_keeps (fun s => s.line.score) _ (by intros; simp) _ _
  · exact foldl_keeps (fun s => s.line.good) _ (by intros; simp) _ _
  · exact foldl_keeps (fun s => s.line.threshold) _ (by intros; simp) _ _
  · exact foldl_keeps (fun s => s.faults.lineDegraded) _ (by intros; simp) _ _
  · exact foldl_keeps (fun s => s.faults.duplicate) _ (by intros; simp) _ _

@[simp] theorem agePeers_line :
    (agePeers s).line.slot = s.line.slot ∧ (agePeers s).line.heldBeat = s.line.heldBeat
      ∧ (agePeers s).line.checkCount = s.line.checkCount ∧ (agePeers s).line.formCount = s.line.formCount
      ∧ (agePeers s).line.bitCount = s.line.bitCount ∧ (agePeers s).line.score = s.line.score
      ∧ (agePeers s).line.good = s.line.good ∧ (agePeers s).line.threshold = s.line.threshold
      ∧ (agePeers s).faults.lineDegraded = s.faults.lineDegraded
      ∧ (agePeers s).faults.duplicate = s.faults.duplicate := by
  unfold agePeers
  dsimp only
  (repeat' split) <;> simp

@[simp] theorem offerStatus_line :
    (offerStatus s).line.slot = s.line.slot ∧ (offerStatus s).line.heldBeat = s.line.heldBeat
      ∧ (offerStatus s).line.checkCount = s.line.checkCount ∧ (offerStatus s).line.formCount = s.line.formCount
      ∧ (offerStatus s).line.bitCount = s.line.bitCount ∧ (offerStatus s).line.score = s.line.score
      ∧ (offerStatus s).line.good = s.line.good ∧ (offerStatus s).line.threshold = s.line.threshold := by
  unfold offerStatus
  simp

@[simp] theorem advanceSchedule_line :
    (advanceSchedule s).line.slot = s.line.slot ∧ (advanceSchedule s).line.heldBeat = s.line.heldBeat
      ∧ (advanceSchedule s).line.checkCount = s.line.checkCount
      ∧ (advanceSchedule s).line.formCount = s.line.formCount
      ∧ (advanceSchedule s).line.bitCount = s.line.bitCount ∧ (advanceSchedule s).line.score = s.line.score
      ∧ (advanceSchedule s).line.good = s.line.good ∧ (advanceSchedule s).line.threshold = s.line.threshold := by
  unfold advanceSchedule
  (repeat' split) <;> simp

@[simp] theorem judgeAlone_line :
    (judgeAlone s).line.slot = s.line.slot ∧ (judgeAlone s).line.heldBeat = s.line.heldBeat
      ∧ (judgeAlone s).line.checkCount = s.line.checkCount ∧ (judgeAlone s).line.formCount = s.line.formCount
      ∧ (judgeAlone s).line.bitCount = s.line.bitCount ∧ (judgeAlone s).line.score = s.line.score
      ∧ (judgeAlone s).line.good = s.line.good ∧ (judgeAlone s).line.threshold = s.line.threshold
      ∧ (judgeAlone s).faults.lineDegraded = s.faults.lineDegraded
      ∧ (judgeAlone s).faults.duplicate = s.faults.duplicate := by
  unfold judgeAlone
  (repeat' split) <;> simp

@[simp] theorem advanceAnyPeer_line :
    (advanceAnyPeer s).line.slot = s.line.slot ∧ (advanceAnyPeer s).line.heldBeat = s.line.heldBeat
      ∧ (advanceAnyPeer s).line.checkCount = s.line.checkCount
      ∧ (advanceAnyPeer s).line.formCount = s.line.formCount
      ∧ (advanceAnyPeer s).line.bitCount = s.line.bitCount ∧ (advanceAnyPeer s).line.score = s.line.score
      ∧ (advanceAnyPeer s).line.good = s.line.good ∧ (advanceAnyPeer s).line.threshold = s.line.threshold
      ∧ (advanceAnyPeer s).faults.lineDegraded = s.faults.lineDegraded
      ∧ (advanceAnyPeer s).faults.duplicate = s.faults.duplicate := by
  unfold advanceAnyPeer
  simp

@[simp] theorem peerBoundary_line :
    (peerBoundary s).line.slot = s.line.slot ∧ (peerBoundary s).line.heldBeat = s.line.heldBeat
      ∧ (peerBoundary s).line.checkCount = s.line.checkCount
      ∧ (peerBoundary s).line.formCount = s.line.formCount ∧ (peerBoundary s).line.bitCount = s.line.bitCount
      ∧ (peerBoundary s).line.score = s.line.score ∧ (peerBoundary s).line.good = s.line.good
      ∧ (peerBoundary s).line.threshold = s.line.threshold
      ∧ (peerBoundary s).faults.lineDegraded = s.faults.lineDegraded
      ∧ (peerBoundary s).faults.duplicate = s.faults.duplicate := by
  unfold peerBoundary
  simp

@[simp] theorem ageToThreshold_line (n : Nat) :
    (ageToThreshold n s).line.slot = s.line.slot ∧ (ageToThreshold n s).line.heldBeat = s.line.heldBeat
      ∧ (ageToThreshold n s).line.checkCount = s.line.checkCount
      ∧ (ageToThreshold n s).line.formCount = s.line.formCount
      ∧ (ageToThreshold n s).line.bitCount = s.line.bitCount ∧ (ageToThreshold n s).line.score = s.line.score
      ∧ (ageToThreshold n s).line.good = s.line.good ∧ (ageToThreshold n s).line.threshold = s.line.threshold
      ∧ (ageToThreshold n s).faults.lineDegraded = s.faults.lineDegraded
      ∧ (ageToThreshold n s).faults.duplicate = s.faults.duplicate := by
  unfold ageToThreshold
  (repeat' split) <;> simp

@[simp] theorem stallJam_line :
    (stallJam s).line.slot = s.line.slot ∧ (stallJam s).line.heldBeat = s.line.heldBeat
      ∧ (stallJam s).line.checkCount = s.line.checkCount
      ∧ (stallJam s).line.formCount = s.line.formCount
      ∧ (stallJam s).line.bitCount = s.line.bitCount ∧ (stallJam s).line.score = s.line.score
      ∧ (stallJam s).line.good = s.line.good ∧ (stallJam s).line.threshold = s.line.threshold
      ∧ (stallJam s).faults.lineDegraded = s.faults.lineDegraded
      ∧ (stallJam s).faults.duplicate = s.faults.duplicate := by
  unfold stallJam
  simp

@[simp] theorem descentStall_line (st : CurtainState) (d : Descent) :
    (descentStall st d s).line.slot = s.line.slot ∧ (descentStall st d s).line.heldBeat = s.line.heldBeat
      ∧ (descentStall st d s).line.checkCount = s.line.checkCount
      ∧ (descentStall st d s).line.formCount = s.line.formCount
      ∧ (descentStall st d s).line.bitCount = s.line.bitCount ∧ (descentStall st d s).line.score = s.line.score
      ∧ (descentStall st d s).line.good = s.line.good ∧ (descentStall st d s).line.threshold = s.line.threshold
      ∧ (descentStall st d s).faults.lineDegraded = s.faults.lineDegraded
      ∧ (descentStall st d s).faults.duplicate = s.faults.duplicate := by
  unfold descentStall
  (repeat' split) <;> simp

@[simp] theorem descentTooLate_line (st : CurtainState) (d : Descent) (p n : Nat) :
    (descentTooLate st d p n s).line.slot = s.line.slot
      ∧ (descentTooLate st d p n s).line.heldBeat = s.line.heldBeat
      ∧ (descentTooLate st d p n s).line.checkCount = s.line.checkCount
      ∧ (descentTooLate st d p n s).line.formCount = s.line.formCount
      ∧ (descentTooLate st d p n s).line.bitCount = s.line.bitCount
      ∧ (descentTooLate st d p n s).line.score = s.line.score
      ∧ (descentTooLate st d p n s).line.good = s.line.good
      ∧ (descentTooLate st d p n s).line.threshold = s.line.threshold
      ∧ (descentTooLate st d p n s).faults.lineDegraded = s.faults.lineDegraded
      ∧ (descentTooLate st d p n s).faults.duplicate = s.faults.duplicate := by
  unfold descentTooLate afterCurtain
  dsimp only
  (repeat' split) <;> simp

@[simp] theorem projectDescent_line (st : CurtainState) (d : Descent) :
    (projectDescent st d s).line.slot = s.line.slot ∧ (projectDescent st d s).line.heldBeat = s.line.heldBeat
      ∧ (projectDescent st d s).line.checkCount = s.line.checkCount
      ∧ (projectDescent st d s).line.formCount = s.line.formCount
      ∧ (projectDescent st d s).line.bitCount = s.line.bitCount
      ∧ (projectDescent st d s).line.score = s.line.score ∧ (projectDescent st d s).line.good = s.line.good
      ∧ (projectDescent st d s).line.threshold = s.line.threshold
      ∧ (projectDescent st d s).faults.lineDegraded = s.faults.lineDegraded
      ∧ (projectDescent st d s).faults.duplicate = s.faults.duplicate := by
  unfold projectDescent
  dsimp only
  (repeat' split) <;> simp

@[simp] theorem judgeDescent_line (st : CurtainState) (d : Descent) :
    (judgeDescent st d s).line.slot = s.line.slot ∧ (judgeDescent st d s).line.heldBeat = s.line.heldBeat
      ∧ (judgeDescent st d s).line.checkCount = s.line.checkCount
      ∧ (judgeDescent st d s).line.formCount = s.line.formCount
      ∧ (judgeDescent st d s).line.bitCount = s.line.bitCount ∧ (judgeDescent st d s).line.score = s.line.score
      ∧ (judgeDescent st d s).line.good = s.line.good ∧ (judgeDescent st d s).line.threshold = s.line.threshold
      ∧ (judgeDescent st d s).faults.lineDegraded = s.faults.lineDegraded
      ∧ (judgeDescent st d s).faults.duplicate = s.faults.duplicate := by
  unfold judgeDescent
  dsimp only
  (repeat' split) <;> simp

@[simp] theorem sampleDescent_line (b : Bool) :
    (sampleDescent b s).line.slot = s.line.slot ∧ (sampleDescent b s).line.heldBeat = s.line.heldBeat
      ∧ (sampleDescent b s).line.checkCount = s.line.checkCount
      ∧ (sampleDescent b s).line.formCount = s.line.formCount
      ∧ (sampleDescent b s).line.bitCount = s.line.bitCount ∧ (sampleDescent b s).line.score = s.line.score
      ∧ (sampleDescent b s).line.good = s.line.good ∧ (sampleDescent b s).line.threshold = s.line.threshold
      ∧ (sampleDescent b s).faults.lineDegraded = s.faults.lineDegraded
      ∧ (sampleDescent b s).faults.duplicate = s.faults.duplicate := by
  unfold sampleDescent
  (repeat' split) <;> simp

@[simp] theorem stallNow_line :
    (stallNow s).line.slot = s.line.slot ∧ (stallNow s).line.heldBeat = s.line.heldBeat
      ∧ (stallNow s).line.checkCount = s.line.checkCount ∧ (stallNow s).line.formCount = s.line.formCount
      ∧ (stallNow s).line.bitCount = s.line.bitCount ∧ (stallNow s).line.score = s.line.score
      ∧ (stallNow s).line.good = s.line.good ∧ (stallNow s).line.threshold = s.line.threshold
      ∧ (stallNow s).faults.lineDegraded = s.faults.lineDegraded
      ∧ (stallNow s).faults.duplicate = s.faults.duplicate := by
  unfold stallNow
  dsimp only
  (repeat' split) <;> simp

@[simp] theorem curtainStartUp_line :
    (curtainStartUp s).line.slot = s.line.slot ∧ (curtainStartUp s).line.heldBeat = s.line.heldBeat
      ∧ (curtainStartUp s).line.checkCount = s.line.checkCount
      ∧ (curtainStartUp s).line.formCount = s.line.formCount
      ∧ (curtainStartUp s).line.bitCount = s.line.bitCount ∧ (curtainStartUp s).line.score = s.line.score
      ∧ (curtainStartUp s).line.good = s.line.good ∧ (curtainStartUp s).line.threshold = s.line.threshold
      ∧ (curtainStartUp s).faults.lineDegraded = s.faults.lineDegraded
      ∧ (curtainStartUp s).faults.duplicate = s.faults.duplicate := by
  unfold curtainStartUp
  (repeat' split) <;> simp

@[simp] theorem reachTop_line :
    (reachTop s).line.slot = s.line.slot ∧ (reachTop s).line.heldBeat = s.line.heldBeat
      ∧ (reachTop s).line.checkCount = s.line.checkCount ∧ (reachTop s).line.formCount = s.line.formCount
      ∧ (reachTop s).line.bitCount = s.line.bitCount ∧ (reachTop s).line.score = s.line.score
      ∧ (reachTop s).line.good = s.line.good ∧ (reachTop s).line.threshold = s.line.threshold
      ∧ (reachTop s).faults.lineDegraded = s.faults.lineDegraded
      ∧ (reachTop s).faults.duplicate = s.faults.duplicate := by
  unfold reachTop
  (repeat' split) <;> simp

@[simp] theorem encoderCount_line (up : Bool) :
    (encoderCount up s).line.slot = s.line.slot ∧ (encoderCount up s).line.heldBeat = s.line.heldBeat
      ∧ (encoderCount up s).line.checkCount = s.line.checkCount
      ∧ (encoderCount up s).line.formCount = s.line.formCount
      ∧ (encoderCount up s).line.bitCount = s.line.bitCount ∧ (encoderCount up s).line.score = s.line.score
      ∧ (encoderCount up s).line.good = s.line.good ∧ (encoderCount up s).line.threshold = s.line.threshold
      ∧ (encoderCount up s).faults.lineDegraded = s.faults.lineDegraded
      ∧ (encoderCount up s).faults.duplicate = s.faults.duplicate := by
  unfold encoderCount
  dsimp only
  (repeat' split) <;> simp

@[simp] theorem bottomActive_line (st : CurtainState) :
    (bottomActive st s).line.slot = s.line.slot ∧ (bottomActive st s).line.heldBeat = s.line.heldBeat
      ∧ (bottomActive st s).line.checkCount = s.line.checkCount
      ∧ (bottomActive st s).line.formCount = s.line.formCount
      ∧ (bottomActive st s).line.bitCount = s.line.bitCount ∧ (bottomActive st s).line.score = s.line.score
      ∧ (bottomActive st s).line.good = s.line.good ∧ (bottomActive st s).line.threshold = s.line.threshold
      ∧ (bottomActive st s).faults.lineDegraded = s.faults.lineDegraded
      ∧ (bottomActive st s).faults.duplicate = s.faults.duplicate := by
  unfold bottomActive
  (repeat' split) <;> simp

@[simp] theorem bottomLimit_line (a : Bool) :
    (bottomLimit a s).line.slot = s.line.slot ∧ (bottomLimit a s).line.heldBeat = s.line.heldBeat
      ∧ (bottomLimit a s).line.checkCount = s.line.checkCount
      ∧ (bottomLimit a s).line.formCount = s.line.formCount ∧ (bottomLimit a s).line.bitCount = s.line.bitCount
      ∧ (bottomLimit a s).line.score = s.line.score ∧ (bottomLimit a s).line.good = s.line.good
      ∧ (bottomLimit a s).line.threshold = s.line.threshold
      ∧ (bottomLimit a s).faults.lineDegraded = s.faults.lineDegraded
      ∧ (bottomLimit a s).faults.duplicate = s.faults.duplicate := by
  unfold bottomLimit
  (repeat' split) <;> simp

@[simp] theorem topActive_line :
    (topActive s).line.slot = s.line.slot ∧ (topActive s).line.heldBeat = s.line.heldBeat
      ∧ (topActive s).line.checkCount = s.line.checkCount ∧ (topActive s).line.formCount = s.line.formCount
      ∧ (topActive s).line.bitCount = s.line.bitCount ∧ (topActive s).line.score = s.line.score
      ∧ (topActive s).line.good = s.line.good ∧ (topActive s).line.threshold = s.line.threshold
      ∧ (topActive s).faults.lineDegraded = s.faults.lineDegraded
      ∧ (topActive s).faults.duplicate = s.faults.duplicate := by
  unfold topActive
  (repeat' split) <;> simp

@[simp] theorem topLimit_line (a : Bool) :
    (topLimit a s).line.slot = s.line.slot ∧ (topLimit a s).line.heldBeat = s.line.heldBeat
      ∧ (topLimit a s).line.checkCount = s.line.checkCount ∧ (topLimit a s).line.formCount = s.line.formCount
      ∧ (topLimit a s).line.bitCount = s.line.bitCount ∧ (topLimit a s).line.score = s.line.score
      ∧ (topLimit a s).line.good = s.line.good ∧ (topLimit a s).line.threshold = s.line.threshold
      ∧ (topLimit a s).faults.lineDegraded = s.faults.lineDegraded
      ∧ (topLimit a s).faults.duplicate = s.faults.duplicate := by
  unfold topLimit
  (repeat' split) <;> simp

@[simp] theorem lowerRequest_line :
    (lowerRequest s).line.slot = s.line.slot ∧ (lowerRequest s).line.heldBeat = s.line.heldBeat
      ∧ (lowerRequest s).line.checkCount = s.line.checkCount
      ∧ (lowerRequest s).line.formCount = s.line.formCount ∧ (lowerRequest s).line.bitCount = s.line.bitCount
      ∧ (lowerRequest s).line.score = s.line.score ∧ (lowerRequest s).line.good = s.line.good
      ∧ (lowerRequest s).line.threshold = s.line.threshold
      ∧ (lowerRequest s).faults.lineDegraded = s.faults.lineDegraded
      ∧ (lowerRequest s).faults.duplicate = s.faults.duplicate := by
  unfold lowerRequest
  (repeat' split) <;> simp

@[simp] theorem dropRequest_line :
    (dropRequest s).line.slot = s.line.slot ∧ (dropRequest s).line.heldBeat = s.line.heldBeat
      ∧ (dropRequest s).line.checkCount = s.line.checkCount ∧ (dropRequest s).line.formCount = s.line.formCount
      ∧ (dropRequest s).line.bitCount = s.line.bitCount ∧ (dropRequest s).line.score = s.line.score
      ∧ (dropRequest s).line.good = s.line.good ∧ (dropRequest s).line.threshold = s.line.threshold
      ∧ (dropRequest s).faults.lineDegraded = s.faults.lineDegraded
      ∧ (dropRequest s).faults.duplicate = s.faults.duplicate := by
  unfold dropRequest
  (repeat' split) <;> simp

@[simp] theorem stopRequest_line :
    (stopRequest s).line.slot = s.line.slot ∧ (stopRequest s).line.heldBeat = s.line.heldBeat
      ∧ (stopRequest s).line.checkCount = s.line.checkCount ∧ (stopRequest s).line.formCount = s.line.formCount
      ∧ (stopRequest s).line.bitCount = s.line.bitCount ∧ (stopRequest s).line.score = s.line.score
      ∧ (stopRequest s).line.good = s.line.good ∧ (stopRequest s).line.threshold = s.line.threshold
      ∧ (stopRequest s).faults.lineDegraded = s.faults.lineDegraded
      ∧ (stopRequest s).faults.duplicate = s.faults.duplicate := by
  unfold stopRequest
  (repeat' split) <;> simp

@[simp] theorem raiseRequest_line (x : Nat) (st : CurtainState) :
    (raiseRequest x st s).line.slot = s.line.slot ∧ (raiseRequest x st s).line.heldBeat = s.line.heldBeat
      ∧ (raiseRequest x st s).line.checkCount = s.line.checkCount
      ∧ (raiseRequest x st s).line.formCount = s.line.formCount
      ∧ (raiseRequest x st s).line.bitCount = s.line.bitCount ∧ (raiseRequest x st s).line.score = s.line.score
      ∧ (raiseRequest x st s).line.good = s.line.good ∧ (raiseRequest x st s).line.threshold = s.line.threshold
      ∧ (raiseRequest x st s).faults.lineDegraded = s.faults.lineDegraded
      ∧ (raiseRequest x st s).faults.duplicate = s.faults.duplicate := by
  unfold raiseRequest
  (repeat' split) <;> simp

@[simp] theorem raiseHoldRequest_line (x : Nat) :
    (raiseHoldRequest x s).line.slot = s.line.slot ∧ (raiseHoldRequest x s).line.heldBeat = s.line.heldBeat
      ∧ (raiseHoldRequest x s).line.checkCount = s.line.checkCount
      ∧ (raiseHoldRequest x s).line.formCount = s.line.formCount
      ∧ (raiseHoldRequest x s).line.bitCount = s.line.bitCount
      ∧ (raiseHoldRequest x s).line.score = s.line.score ∧ (raiseHoldRequest x s).line.good = s.line.good
      ∧ (raiseHoldRequest x s).line.threshold = s.line.threshold
      ∧ (raiseHoldRequest x s).faults.lineDegraded = s.faults.lineDegraded
      ∧ (raiseHoldRequest x s).faults.duplicate = s.faults.duplicate := by
  unfold raiseHoldRequest
  (repeat' split) <;> simp

@[simp] theorem takeCurtainFrame_line (x : Nat) (k : CurtainKind) (t : Nat) :
    (takeCurtainFrame x k t s).line.slot = s.line.slot
      ∧ (takeCurtainFrame x k t s).line.heldBeat = s.line.heldBeat
      ∧ (takeCurtainFrame x k t s).line.checkCount = s.line.checkCount
      ∧ (takeCurtainFrame x k t s).line.formCount = s.line.formCount
      ∧ (takeCurtainFrame x k t s).line.bitCount = s.line.bitCount
      ∧ (takeCurtainFrame x k t s).line.score = s.line.score
      ∧ (takeCurtainFrame x k t s).line.good = s.line.good
      ∧ (takeCurtainFrame x k t s).line.threshold = s.line.threshold
      ∧ (takeCurtainFrame x k t s).faults.lineDegraded = s.faults.lineDegraded
      ∧ (takeCurtainFrame x k t s).faults.duplicate = s.faults.duplicate := by
  unfold takeCurtainFrame
  (repeat' split) <;> simp

@[simp] theorem lapseHold_line :
    (lapseHold s).line.slot = s.line.slot ∧ (lapseHold s).line.heldBeat = s.line.heldBeat
      ∧ (lapseHold s).line.checkCount = s.line.checkCount ∧ (lapseHold s).line.formCount = s.line.formCount
      ∧ (lapseHold s).line.bitCount = s.line.bitCount ∧ (lapseHold s).line.score = s.line.score
      ∧ (lapseHold s).line.good = s.line.good ∧ (lapseHold s).line.threshold = s.line.threshold
      ∧ (lapseHold s).faults.lineDegraded = s.faults.lineDegraded
      ∧ (lapseHold s).faults.duplicate = s.faults.duplicate := by
  unfold lapseHold
  (repeat' split) <;> simp

@[simp] theorem curtainBoundary_line :
    (curtainBoundary s).line.slot = s.line.slot ∧ (curtainBoundary s).line.heldBeat = s.line.heldBeat
      ∧ (curtainBoundary s).line.checkCount = s.line.checkCount
      ∧ (curtainBoundary s).line.formCount = s.line.formCount
      ∧ (curtainBoundary s).line.bitCount = s.line.bitCount ∧ (curtainBoundary s).line.score = s.line.score
      ∧ (curtainBoundary s).line.good = s.line.good ∧ (curtainBoundary s).line.threshold = s.line.threshold
      ∧ (curtainBoundary s).faults.lineDegraded = s.faults.lineDegraded
      ∧ (curtainBoundary s).faults.duplicate = s.faults.duplicate := by
  unfold curtainBoundary
  (repeat' split) <;> simp

@[simp] theorem warningDone_line :
    (warningDone s).line.slot = s.line.slot ∧ (warningDone s).line.heldBeat = s.line.heldBeat
      ∧ (warningDone s).line.checkCount = s.line.checkCount ∧ (warningDone s).line.formCount = s.line.formCount
      ∧ (warningDone s).line.bitCount = s.line.bitCount ∧ (warningDone s).line.score = s.line.score
      ∧ (warningDone s).line.good = s.line.good ∧ (warningDone s).line.threshold = s.line.threshold
      ∧ (warningDone s).faults.lineDegraded = s.faults.lineDegraded
      ∧ (warningDone s).faults.duplicate = s.faults.duplicate := by
  unfold warningDone
  (repeat' split) <;> simp

@[simp] theorem judgeHandshake_line (m : Bool) :
    (judgeHandshake m s).line.slot = s.line.slot ∧ (judgeHandshake m s).line.heldBeat = s.line.heldBeat
      ∧ (judgeHandshake m s).line.checkCount = s.line.checkCount
      ∧ (judgeHandshake m s).line.formCount = s.line.formCount
      ∧ (judgeHandshake m s).line.bitCount = s.line.bitCount ∧ (judgeHandshake m s).line.score = s.line.score
      ∧ (judgeHandshake m s).line.good = s.line.good ∧ (judgeHandshake m s).line.threshold = s.line.threshold
      ∧ (judgeHandshake m s).faults.lineDegraded = s.faults.lineDegraded
      ∧ (judgeHandshake m s).faults.duplicate = s.faults.duplicate := by
  unfold judgeHandshake
  (repeat' split) <;> simp

@[simp] theorem driveLost_line :
    (driveLost s).line.slot = s.line.slot ∧ (driveLost s).line.heldBeat = s.line.heldBeat
      ∧ (driveLost s).line.checkCount = s.line.checkCount ∧ (driveLost s).line.formCount = s.line.formCount
      ∧ (driveLost s).line.bitCount = s.line.bitCount ∧ (driveLost s).line.score = s.line.score
      ∧ (driveLost s).line.good = s.line.good ∧ (driveLost s).line.threshold = s.line.threshold
      ∧ (driveLost s).faults.lineDegraded = s.faults.lineDegraded
      ∧ (driveLost s).faults.duplicate = s.faults.duplicate := by
  unfold driveLost
  (repeat' split) <;> simp

@[simp] theorem driveReadyChange_line (r : Bool) :
    (driveReadyChange r s).line.slot = s.line.slot ∧ (driveReadyChange r s).line.heldBeat = s.line.heldBeat
      ∧ (driveReadyChange r s).line.checkCount = s.line.checkCount
      ∧ (driveReadyChange r s).line.formCount = s.line.formCount
      ∧ (driveReadyChange r s).line.bitCount = s.line.bitCount
      ∧ (driveReadyChange r s).line.score = s.line.score ∧ (driveReadyChange r s).line.good = s.line.good
      ∧ (driveReadyChange r s).line.threshold = s.line.threshold
      ∧ (driveReadyChange r s).faults.lineDegraded = s.faults.lineDegraded
      ∧ (driveReadyChange r s).faults.duplicate = s.faults.duplicate := by
  unfold driveReadyChange
  (repeat' split) <;> simp

@[simp] theorem curtainSample_line (i : SampleInputs) (h : Bool) :
    (curtainSample i h s).line.slot = s.line.slot ∧ (curtainSample i h s).line.heldBeat = s.line.heldBeat
      ∧ (curtainSample i h s).line.checkCount = s.line.checkCount
      ∧ (curtainSample i h s).line.formCount = s.line.formCount
      ∧ (curtainSample i h s).line.bitCount = s.line.bitCount ∧ (curtainSample i h s).line.score = s.line.score
      ∧ (curtainSample i h s).line.good = s.line.good ∧ (curtainSample i h s).line.threshold = s.line.threshold
      ∧ (curtainSample i h s).faults.lineDegraded = s.faults.lineDegraded
      ∧ (curtainSample i h s).faults.duplicate = s.faults.duplicate := by
  unfold curtainSample
  (repeat' split) <;> simp

@[simp] theorem endRepetition_line :
    (endRepetition s).line.slot = s.line.slot ∧ (endRepetition s).line.heldBeat = s.line.heldBeat
      ∧ (endRepetition s).line.checkCount = s.line.checkCount
      ∧ (endRepetition s).line.formCount = s.line.formCount ∧ (endRepetition s).line.bitCount = s.line.bitCount
      ∧ (endRepetition s).line.score = s.line.score ∧ (endRepetition s).line.good = s.line.good
      ∧ (endRepetition s).line.threshold = s.line.threshold
      ∧ (endRepetition s).faults.lineDegraded = s.faults.lineDegraded
      ∧ (endRepetition s).faults.duplicate = s.faults.duplicate := by
  unfold endRepetition
  (repeat' split) <;> simp

@[simp] theorem loaderBoundary_line :
    (loaderBoundary s).line.slot = s.line.slot ∧ (loaderBoundary s).line.heldBeat = s.line.heldBeat
      ∧ (loaderBoundary s).line.checkCount = s.line.checkCount
      ∧ (loaderBoundary s).line.formCount = s.line.formCount
      ∧ (loaderBoundary s).line.bitCount = s.line.bitCount ∧ (loaderBoundary s).line.score = s.line.score
      ∧ (loaderBoundary s).line.good = s.line.good ∧ (loaderBoundary s).line.threshold = s.line.threshold
      ∧ (loaderBoundary s).faults.lineDegraded = s.faults.lineDegraded
      ∧ (loaderBoundary s).faults.duplicate = s.faults.duplicate := by
  unfold loaderBoundary
  (repeat' split) <;> simp

@[simp] theorem deliverBoundary_line :
    (deliverBoundary s).line.slot = s.line.slot ∧ (deliverBoundary s).line.heldBeat = s.line.heldBeat
      ∧ (deliverBoundary s).line.checkCount = s.line.checkCount
      ∧ (deliverBoundary s).line.formCount = s.line.formCount
      ∧ (deliverBoundary s).line.bitCount = s.line.bitCount ∧ (deliverBoundary s).line.score = s.line.score
      ∧ (deliverBoundary s).line.good = s.line.good ∧ (deliverBoundary s).line.threshold = s.line.threshold
      ∧ (deliverBoundary s).faults.lineDegraded = s.faults.lineDegraded
      ∧ (deliverBoundary s).faults.duplicate = s.faults.duplicate := by
  unfold deliverBoundary
  simp

@[simp] theorem takeBoundary_line (n : BitVec 8) :
    (takeBoundary n s).line.slot = s.line.slot ∧ (takeBoundary n s).line.heldBeat = s.line.heldBeat
      ∧ (takeBoundary n s).line.checkCount = s.line.checkCount
      ∧ (takeBoundary n s).line.formCount = s.line.formCount
      ∧ (takeBoundary n s).line.bitCount = s.line.bitCount ∧ (takeBoundary n s).line.score = s.line.score
      ∧ (takeBoundary n s).line.good = s.line.good ∧ (takeBoundary n s).line.threshold = s.line.threshold
      ∧ (takeBoundary n s).faults.lineDegraded = s.faults.lineDegraded
      ∧ (takeBoundary n s).faults.duplicate = s.faults.duplicate := by
  unfold takeBoundary
  simp

@[simp] theorem expireBeat_line :
    (expireBeat s).line.slot = s.line.slot ∧ (expireBeat s).line.heldBeat = s.line.heldBeat
      ∧ (expireBeat s).line.checkCount = s.line.checkCount ∧ (expireBeat s).line.formCount = s.line.formCount
      ∧ (expireBeat s).line.bitCount = s.line.bitCount ∧ (expireBeat s).line.score = s.line.score
      ∧ (expireBeat s).line.good = s.line.good ∧ (expireBeat s).line.threshold = s.line.threshold
      ∧ (expireBeat s).faults.lineDegraded = s.faults.lineDegraded
      ∧ (expireBeat s).faults.duplicate = s.faults.duplicate := by
  unfold expireBeat
  (repeat' split) <;> simp

@[simp] theorem followBeat_line (n : BitVec 8) :
    (followBeat n s).line.slot = s.line.slot ∧ (followBeat n s).line.heldBeat = s.line.heldBeat
      ∧ (followBeat n s).line.checkCount = s.line.checkCount
      ∧ (followBeat n s).line.formCount = s.line.formCount ∧ (followBeat n s).line.bitCount = s.line.bitCount
      ∧ (followBeat n s).line.score = s.line.score ∧ (followBeat n s).line.good = s.line.good
      ∧ (followBeat n s).line.threshold = s.line.threshold
      ∧ (followBeat n s).faults.lineDegraded = s.faults.lineDegraded
      ∧ (followBeat n s).faults.duplicate = s.faults.duplicate := by
  unfold followBeat
  (repeat' split) <;> simp

@[simp] theorem takeBeatFrame_line (x : Nat) (n : BitVec 8) :
    (takeBeatFrame x n s).line.slot = s.line.slot ∧ (takeBeatFrame x n s).line.heldBeat = s.line.heldBeat
      ∧ (takeBeatFrame x n s).line.checkCount = s.line.checkCount
      ∧ (takeBeatFrame x n s).line.formCount = s.line.formCount
      ∧ (takeBeatFrame x n s).line.bitCount = s.line.bitCount ∧ (takeBeatFrame x n s).line.score = s.line.score
      ∧ (takeBeatFrame x n s).line.good = s.line.good ∧ (takeBeatFrame x n s).line.threshold = s.line.threshold
      ∧ (takeBeatFrame x n s).faults.lineDegraded = s.faults.lineDegraded
      ∧ (takeBeatFrame x n s).faults.duplicate = s.faults.duplicate := by
  unfold takeBeatFrame
  (repeat' split) <;> simp

@[simp] theorem carryOut_line (c : Command) (x : Nat) :
    (carryOut c x s).line.slot = s.line.slot ∧ (carryOut c x s).line.heldBeat = s.line.heldBeat
      ∧ (carryOut c x s).line.checkCount = s.line.checkCount
      ∧ (carryOut c x s).line.formCount = s.line.formCount ∧ (carryOut c x s).line.bitCount = s.line.bitCount
      ∧ (carryOut c x s).line.score = s.line.score ∧ (carryOut c x s).line.good = s.line.good
      ∧ (carryOut c x s).line.threshold = s.line.threshold
      ∧ (carryOut c x s).faults.lineDegraded = s.faults.lineDegraded
      ∧ (carryOut c x s).faults.duplicate = s.faults.duplicate := by
  unfold carryOut
  (repeat' split) <;> simp

@[simp] theorem takeCommand_line (c : Command) (x t : Nat) (l : Bool) :
    (takeCommand c x t l s).line.slot = s.line.slot ∧ (takeCommand c x t l s).line.heldBeat = s.line.heldBeat
      ∧ (takeCommand c x t l s).line.checkCount = s.line.checkCount
      ∧ (takeCommand c x t l s).line.formCount = s.line.formCount
      ∧ (takeCommand c x t l s).line.bitCount = s.line.bitCount
      ∧ (takeCommand c x t l s).line.score = s.line.score ∧ (takeCommand c x t l s).line.good = s.line.good
      ∧ (takeCommand c x t l s).line.threshold = s.line.threshold
      ∧ (takeCommand c x t l s).faults.lineDegraded = s.faults.lineDegraded
      ∧ (takeCommand c x t l s).faults.duplicate = s.faults.duplicate := by
  unfold takeCommand
  simp

@[simp] theorem takeCommandFrame_line (x : Nat) (c : Command) (t : Nat) :
    (takeCommandFrame x c t s).line.slot = s.line.slot
      ∧ (takeCommandFrame x c t s).line.heldBeat = s.line.heldBeat
      ∧ (takeCommandFrame x c t s).line.checkCount = s.line.checkCount
      ∧ (takeCommandFrame x c t s).line.formCount = s.line.formCount
      ∧ (takeCommandFrame x c t s).line.bitCount = s.line.bitCount
      ∧ (takeCommandFrame x c t s).line.score = s.line.score
      ∧ (takeCommandFrame x c t s).line.good = s.line.good
      ∧ (takeCommandFrame x c t s).line.threshold = s.line.threshold
      ∧ (takeCommandFrame x c t s).faults.lineDegraded = s.faults.lineDegraded
      ∧ (takeCommandFrame x c t s).faults.duplicate = s.faults.duplicate := by
  unfold takeCommandFrame
  (repeat' split) <;> simp

@[simp] theorem takePayload_line (x : Nat) (p : Payload) :
    (takePayload x p s).line.slot = s.line.slot ∧ (takePayload x p s).line.heldBeat = s.line.heldBeat
      ∧ (takePayload x p s).line.checkCount = s.line.checkCount
      ∧ (takePayload x p s).line.formCount = s.line.formCount
      ∧ (takePayload x p s).line.bitCount = s.line.bitCount ∧ (takePayload x p s).line.score = s.line.score
      ∧ (takePayload x p s).line.good = s.line.good ∧ (takePayload x p s).line.threshold = s.line.threshold
      ∧ (takePayload x p s).faults.lineDegraded = s.faults.lineDegraded
      ∧ (takePayload x p s).faults.duplicate = s.faults.duplicate := by
  unfold takePayload
  (repeat' split) <;> simp

@[simp] theorem handOn_line (f : Frame) :
    (handOn f s).line.slot = s.line.slot ∧ (handOn f s).line.heldBeat = s.line.heldBeat
      ∧ (handOn f s).line.checkCount = s.line.checkCount ∧ (handOn f s).line.formCount = s.line.formCount
      ∧ (handOn f s).line.bitCount = s.line.bitCount ∧ (handOn f s).line.score = s.line.score
      ∧ (handOn f s).line.good = s.line.good ∧ (handOn f s).line.threshold = s.line.threshold
      ∧ (handOn f s).faults.lineDegraded = s.faults.lineDegraded
      ∧ (handOn f s).faults.duplicate = s.faults.duplicate := by
  unfold handOn
  (repeat' split) <;> simp

end Sys2Proof.Machine
end

