-- ==== Sys2Proof/Laws/Line.lean ====
section
/-! SUPPORT. What the Line Interface does with a frame, said once: the judgement of LINE_DEGRADED (R36) and the reception of
a good frame from a peer heard lately (R31, R32, R35, R44, R56). -/

namespace Sys2Proof.Machine

variable (s : State)

/-- R36: LINE_DEGRADED stays where the score gives it no cause to change. -/
theorem judgeDegraded_still (h : if s.faults.lineDegraded then s.line.score ≠ 0 else s.line.score < s.line.threshold) :
    judgeDegraded s = s := by
  unfold judgeDegraded
  cases hd : s.faults.lineDegraded <;> simp only [hd] at h
  · rw [if_neg (by simp at h ⊢; omega), if_neg (by simp)]
  · rw [if_neg (by simp), if_neg (by simpa using h)]

/-- R44: a PRESENT station that is heard keeps its place and makes no report. -/
theorem refreshEntry_present (x : Nat) (h : isPresent x s = true) :
    refreshEntry x s = setTable (updateEntry x (fun e => { e with heard := 0, liveness := .present }) s.peers.table) s := by
  unfold isPresent at h
  unfold refreshEntry
  split at h
  · next e he => rw [he]; simp at h; simp [h]
  · cases h

/-- R44, R56: what hearing from such a peer leaves. -/
theorem heardFrom_present (x : Nat) (h : isPresent x s = true) (ha : s.faults.alone = false) :
    heardFrom x s = setTable (updateEntry x (fun e => { e with heard := 0, liveness := .present }) s.peers.table)
      (s.setPeers { s.peers with anyPeer := 0 }) := by
  simp [heardFrom, heardAnyPeer, refreshEntry_present s x h, h, putPeerFault, FaultSet.get, ha, setTable, State.setPeers]

/-- R31: a good frame from a peer heard lately is counted, refreshes the peer, and is handed to the owners of its class. -/
theorem receive_heard (x : Nat) (p : Payload) (hx : HearsPeer x s) (hf : Frame.formOk ⟨x, p⟩ = true) :
    receive ⟨x, p⟩ s = takePayload x p (heard x s) := by
  have hgood : ¬ 16 ≤ s.line.good + 1 := by have := hx.good; omega
  have hcount : s.line.countGood = { s.line with good := s.line.good + 1 } := by simp [LineState.countGood, hgood]
  have hstill : judgeDegraded (s.setLine s.line.countGood) = s.setLine s.line.countGood :=
    judgeDegraded_still _ (by simpa [hcount, State.setLine] using hx.degraded)
  have hheld : resolveHeldBeat p.isBeat (s.setLine s.line.countGood) = s.setLine s.line.countGood := by
    simp [resolveHeldBeat, hcount, State.setLine, hx.held]
  have hown : x ≠ (s.setLine s.line.countGood).cfg.station := hx.peer
  have hdup : noteDuplicate x (s.setLine s.line.countGood) = s.setLine s.line.countGood := by
    unfold noteDuplicate
    rw [if_neg (fun h => hown h.1)]
  have hpres : isPresent x (s.setLine s.line.countGood) = true := hx.present
  have halone : (s.setLine s.line.countGood).faults.alone = false := hx.company
  unfold receive
  rw [if_pos hx.working, if_pos hf]
  simp only [receiveGood, hstill, hheld, hdup, handOn]
  rw [if_neg hown, heardFrom_present _ x hpres halone, hcount]
  rfl

end Sys2Proof.Machine
end

