-- ==== Sys2Proof/Laws/Reports.lean ====
section
/-! SUPPORT. The blocks reach the Panel Port by making reports alone (R166): for each operation that can make one, one lemma
that the panel afterwards is the panel before with report records placed one after another. -/

namespace Sys2Proof.Machine

/-- Panel q is panel p with report records placed one after another. -/
def PanelGrows (p q : PanelState) : Prop := ∃ rs : List ReportRecord, q = rs.foldl PanelState.push p

theorem PanelGrows.refl (p : PanelState) : PanelGrows p p := ⟨[], rfl⟩

theorem PanelGrows.trans {p q r : PanelState} : PanelGrows p q → PanelGrows q r → PanelGrows p r := by
  rintro ⟨xs, rfl⟩ ⟨ys, rfl⟩
  exact ⟨xs ++ ys, by rw [List.foldl_append]⟩

/-- A report record placed leaves what waited in front, in order. -/
theorem PanelState.push_reports (p : PanelState) (r : ReportRecord) :
    (p.push r).reports = p.reports ∨ (p.push r).reports = p.reports ++ [r] := by
  unfold PanelState.push
  split <;> simp

/-- What waited before stands at the head of what waits after. -/
theorem PanelGrows.reports {p q : PanelState} (h : PanelGrows p q) : ∃ more, q.reports = p.reports ++ more := by
  obtain ⟨rs, rfl⟩ := h
  induction rs generalizing p with
  | nil => exact ⟨[], by simp⟩
  | cons r rs ih =>
    obtain ⟨more, hm⟩ := ih (p := p.push r)
    rcases PanelState.push_reports p r with h | h
    · exact ⟨more, by rw [List.foldl_cons, hm, h]⟩
    · exact ⟨r :: more, by rw [List.foldl_cons, hm, h, List.append_assoc]; rfl⟩

/-- The result holder and the link are left alone. -/
theorem PanelGrows.others {p q : PanelState} (h : PanelGrows p q) : q.holder = p.holder ∧ q.link = p.link := by
  obtain ⟨rs, rfl⟩ := h
  induction rs generalizing p with
  | nil => exact ⟨rfl, rfl⟩
  | cons r rs ih =>
    obtain ⟨h1, h2⟩ := ih (p := p.push r)
    rw [List.foldl_cons, h1, h2]
    unfold PanelState.push
    split <;> exact ⟨rfl, rfl⟩

/-- The first of the records placed is the first to join, where a place is free. -/
theorem FirstReport.of_grows {s t : State} {r : Report} (h : PanelGrows (report r s).panel t.panel) : FirstReport s r t := by
  intro hl
  obtain ⟨more, hm⟩ := h.reports
  refine ⟨more, ?_⟩
  have : (report r s).panel.reports = s.panel.reports ++ [⟨s.beat.number, r⟩] := by
    simp only [report, PanelState.push, State.setPanel, if_pos hl]
  rw [hm, this, List.append_assoc]
  rfl

/-- A fold of operations that make reports makes reports. -/
theorem foldl_grows {β : Type} (g : State → β → State) (h : ∀ p s x, PanelGrows p s.panel → PanelGrows p (g s x).panel)
    (p : PanelState) (xs : List β) : ∀ s : State, PanelGrows p s.panel → PanelGrows p (xs.foldl g s).panel := by
  induction xs with
  | nil => intro s hs; exact hs
  | cons x xs ih => intro s hs; exact ih _ (h p s x hs)

variable (s : State) (p : PanelState)

theorem report_grows (r : Report) (h : PanelGrows p s.panel) : PanelGrows p (report r s).panel :=
  h.trans ⟨[⟨s.beat.number, r⟩], rfl⟩

theorem reports_grows (rs : List Report) (hp : PanelGrows p s.panel) :
    PanelGrows p (reports rs s).panel := by
  exact foldl_grows _ (fun p s r h => report_grows s p r h) p rs s hp

theorem offer_grows (f : Payload) (hp : PanelGrows p s.panel) :
    PanelGrows p (offer f s).panel := by
  unfold offer
  (repeat' split) <;> repeat (first | with_reducible exact hp | with_reducible apply report_grows | simp only [setTx_panel])

theorem returnFrame_grows (f : Payload) (hp : PanelGrows p s.panel) :
    PanelGrows p (returnFrame f s).panel := by
  unfold returnFrame
  (repeat' split) <;> repeat (first | with_reducible exact hp | with_reducible apply report_grows | simp only [setTx_panel])

theorem supersede_grows (n : BitVec 16) (cs : List Channel) (hp : PanelGrows p s.panel) :
    PanelGrows p (supersede n cs s).panel := by
  unfold supersede
  dsimp only
  repeat (first | with_reducible exact hp | with_reducible apply reports_grows | simp only [setCues_panel, setChannels_panel])

theorem finishFades_grows (hp : PanelGrows p s.panel) :
    PanelGrows p (finishFades s).panel := by
  unfold finishFades
  dsimp only
  repeat (first | with_reducible exact hp | with_reducible apply reports_grows | simp only [setCues_panel, setChannels_panel])

theorem enterCue_grows (q : PreparedCue) (k : Nat) (n : BitVec 16) (cs : List Channel) (hp : PanelGrows p s.panel) :
    PanelGrows p (enterCue q k n cs s).panel := by
  unfold enterCue
  dsimp only
  repeat (first | with_reducible exact hp | with_reducible apply supersede_grows | simp only [setCues_panel])

theorem takeCue_grows (q : PreparedCue) (o : StartOutcome) (hp : PanelGrows p s.panel) :
    PanelGrows p (takeCue q o s).panel := by
  unfold takeCue
  dsimp only
  (repeat' split) <;> repeat (first | with_reducible exact hp | with_reducible apply finishFades_grows | with_reducible apply enterCue_grows | with_reducible apply report_grows | simp only [setLights_panel, refreshLights_panel])

theorem takeCueFrame_grows (x : Nat) (b : AreaBlock) (l d : Nat) (st : Start) (hp : PanelGrows p s.panel) :
    PanelGrows p (takeCueFrame x b l d st s).panel := by
  unfold takeCueFrame
  repeat (first | with_reducible exact hp | with_reducible apply takeCue_grows)

theorem takeLinkedCue_grows (o : Origin) (b : AreaBlock) (q : LinkedCue) (hp : PanelGrows p s.panel) :
    PanelGrows p (takeLinkedCue o b q s).panel := by
  unfold takeLinkedCue
  repeat (first | with_reducible exact hp | with_reducible apply takeCue_grows)

theorem stepFades_grows (hp : PanelGrows p s.panel) :
    PanelGrows p (stepFades s).panel := by
  unfold stepFades
  repeat (first | with_reducible exact hp | with_reducible apply finishFades_grows | simp only [setChannels_panel])

theorem startDueCue_grows (e : CueEntry) (hp : PanelGrows p s.panel) :
    PanelGrows p (startDueCue e s).panel := by
  unfold startDueCue
  dsimp only
  (repeat' split) <;> repeat (first | with_reducible exact hp | with_reducible apply finishFades_grows | with_reducible apply supersede_grows | with_reducible apply report_grows)

theorem lightBoundary_grows (hp : PanelGrows p s.panel) :
    PanelGrows p (lightBoundary s).panel := by
  unfold lightBoundary
  simp only [refreshLights_panel]
  exact foldl_grows _ (fun p s e h => startDueCue_grows s p e h) p _ _ (stepFades_grows _ _ hp)

theorem lightStep_grows (hp : PanelGrows p s.panel) :
    PanelGrows p (lightStep s).panel := by
  unfold lightStep
  repeat (first | with_reducible exact hp | with_reducible apply stepFades_grows | simp only [refreshLights_panel])

theorem cancelFades_grows (hp : PanelGrows p s.panel) :
    PanelGrows p (cancelFades s).panel := by
  unfold cancelFades
  dsimp only
  (repeat' split) <;> repeat (first | with_reducible exact hp | with_reducible apply report_grows | simp only [refreshLights_panel, setCues_panel, setChannels_panel])

theorem lightCondition_grows (p' : Condition) (hp : PanelGrows p s.panel) :
    PanelGrows p (lightCondition p' s).panel := by
  unfold lightCondition
  (repeat' split) <;> repeat (first | with_reducible exact hp | with_reducible apply cancelFades_grows | simp only [refreshLights_panel])

theorem setMasterLevel_grows (v : Nat) (hp : PanelGrows p s.panel) :
    PanelGrows p (setMasterLevel v s).panel := by
  unfold setMasterLevel
  repeat (first | with_reducible exact hp | simp only [refreshLights_panel, setLights_panel])

theorem completeFade_grows (n : Nat) (hp : PanelGrows p s.panel) :
    PanelGrows p (completeFade n s).panel := by
  unfold completeFade
  (repeat' split) <;> repeat (first | with_reducible exact hp | with_reducible apply finishFades_grows | simp only [refreshLights_panel, setChannels_panel])

theorem startEntry_grows (e : CallEntry) (hp : PanelGrows p s.panel) :
    PanelGrows p (startEntry e s).panel := by
  unfold startEntry
  dsimp only
  (repeat' split) <;> repeat (first | with_reducible exact hp | with_reducible apply report_grows | with_reducible apply takeLinkedCue_grows | simp only [setCalls_panel])

theorem judgeChosen_grows (b : Bool) (e : CallEntry) (hp : PanelGrows p s.panel) :
    PanelGrows p (judgeChosen b e s).panel := by
  unfold judgeChosen
  dsimp only
  (repeat' split) <;> repeat (first | with_reducible exact hp | with_reducible apply startEntry_grows | with_reducible apply report_grows | simp only [awaitEntry_frame])

theorem choose_grows (b : Bool) (hp : PanelGrows p s.panel) :
    PanelGrows p (choose b s).panel := by
  unfold choose
  (repeat' split) <;> repeat (first | with_reducible exact hp | with_reducible apply judgeChosen_grows | simp only [setCalls_panel])

theorem enqueueCall_grows (e : CallEntry) (hp : PanelGrows p s.panel) :
    PanelGrows p (enqueueCall e s).panel := by
  unfold enqueueCall
  dsimp only
  (repeat' split) <;> repeat (first | with_reducible exact hp | with_reducible apply choose_grows | with_reducible apply report_grows | simp only [setQueue_panel, removeCall_frame])

theorem takeCallFrame_grows (e : CallEntry) (hp : PanelGrows p s.panel) :
    PanelGrows p (takeCallFrame e s).panel := by
  unfold takeCallFrame
  (repeat' split) <;> repeat (first | with_reducible exact hp | with_reducible apply report_grows | with_reducible apply enqueueCall_grows)

theorem placeWarning_grows (hp : PanelGrows p s.panel) :
    PanelGrows p (placeWarning s).panel := by
  unfold placeWarning
  (repeat' split) <;> repeat (first | with_reducible exact hp | with_reducible apply enqueueCall_grows | simp only [setPlacementHeld_panel])

theorem callBoundary_grows (hp : PanelGrows p s.panel) :
    PanelGrows p (callBoundary s).panel := by
  unfold callBoundary
  (repeat' split) <;> repeat (first | with_reducible exact hp | with_reducible apply choose_grows | with_reducible apply startEntry_grows | with_reducible apply report_grows | simp only [setCalls_panel])

theorem restAfter_grows (k : CallKey) (hp : PanelGrows p s.panel) :
    PanelGrows p (restAfter k s).panel := by
  unfold restAfter
  dsimp only
  (repeat' split) <;> repeat (first | with_reducible exact hp | with_reducible apply report_grows | simp only [setQueue_panel, setCalls_panel])

theorem setSilence_grows (hp : PanelGrows p s.panel) :
    PanelGrows p (setSilence s).panel := by
  unfold setSilence
  (repeat' split) <;> repeat (first | with_reducible exact hp | with_reducible apply report_grows | simp only [setCalls_panel])

theorem clearSilence_grows (c : SilenceCause) (hp : PanelGrows p s.panel) :
    PanelGrows p (clearSilence c s).panel := by
  unfold clearSilence
  (repeat' split) <;> repeat (first | with_reducible exact hp | with_reducible apply report_grows | simp only [setCalls_panel])

theorem enterAlarmCalls_grows (hp : PanelGrows p s.panel) :
    PanelGrows p (enterAlarmCalls s).panel := by
  unfold enterAlarmCalls
  dsimp only
  (repeat' split) <;> repeat (first | with_reducible exact hp | with_reducible apply report_grows | simp only [setCalls_panel])

theorem leaveAlarmCalls_grows (hp : PanelGrows p s.panel) :
    PanelGrows p (leaveAlarmCalls s).panel := by
  unfold leaveAlarmCalls
  dsimp only
  repeat (first | with_reducible exact hp | with_reducible apply clearSilence_grows | simp only [setCalls_panel])

theorem pauseCalls_grows (hp : PanelGrows p s.panel) :
    PanelGrows p (pauseCalls s).panel := by
  unfold pauseCalls
  repeat (first | with_reducible exact hp | with_reducible apply choose_grows | simp only [setCalls_panel])

theorem resumeCalls_grows (hp : PanelGrows p s.panel) :
    PanelGrows p (resumeCalls s).panel := by
  unfold resumeCalls
  (repeat' split) <;> repeat (first | with_reducible exact hp | with_reducible apply choose_grows | simp only [setCalls_panel])

theorem callCondition_grows (p' : Condition) (hp : PanelGrows p s.panel) :
    PanelGrows p (callCondition p' s).panel := by
  unfold callCondition
  (repeat' split) <;> repeat (first | with_reducible exact hp | with_reducible apply enterAlarmCalls_grows | with_reducible apply leaveAlarmCalls_grows | with_reducible apply pauseCalls_grows | with_reducible apply resumeCalls_grows)

theorem putCurtainFault_grows (v : Bool) (hp : PanelGrows p s.panel) :
    PanelGrows p (putCurtainFault v s).panel := by
  unfold putCurtainFault
  (repeat' split) <;> repeat (first | with_reducible exact hp | with_reducible apply report_grows | simp only [setFaults_panel])

theorem entryActions_grows (p' : Option CurtainState) (n : CurtainState) (hp : PanelGrows p s.panel) :
    PanelGrows p (entryActions p' n s).panel := by
  unfold entryActions
  (repeat' split) <;> repeat (first | with_reducible exact hp | with_reducible apply placeWarning_grows | with_reducible apply putCurtainFault_grows)

theorem curtainMove_grows (n : CurtainState) (c : CurtainCause) (hp : PanelGrows p s.panel) :
    PanelGrows p (curtainMove n c s).panel := by
  unfold curtainMove
  dsimp only
  repeat (first | with_reducible exact hp | with_reducible apply report_grows | with_reducible apply entryActions_grows | with_reducible apply offer_grows | simp only [setCurtain_panel])

theorem curtainGo_grows (n : CurtainState) (c : CurtainCause) (hp : PanelGrows p s.panel) :
    PanelGrows p (curtainGo n c s).panel := by
  unfold curtainGo
  (repeat' split) <;> repeat (first | with_reducible exact hp | with_reducible apply curtainMove_grows | simp only [setCurtain_panel])

theorem curtainLowerTo_grows (c : CurtainCause) (hp : PanelGrows p s.panel) :
    PanelGrows p (curtainLowerTo c s).panel := by
  unfold curtainLowerTo
  (repeat' split) <;> repeat (first | with_reducible exact hp | with_reducible apply curtainGo_grows)

theorem curtainCondition_grows (hp : PanelGrows p s.panel) :
    PanelGrows p (curtainCondition s).panel := by
  unfold curtainCondition
  (repeat' split) <;> repeat (first | with_reducible exact hp | with_reducible apply curtainGo_grows | with_reducible apply curtainMove_grows)

theorem deliverCondition_grows (p' : Condition) (hp : PanelGrows p s.panel) :
    PanelGrows p (deliverCondition p' s).panel := by
  unfold deliverCondition
  repeat (first | with_reducible exact hp | with_reducible apply callCondition_grows | with_reducible apply lightCondition_grows | with_reducible apply curtainCondition_grows)

theorem recompute_grows (hp : PanelGrows p s.panel) :
    PanelGrows p (recompute s).panel := by
  unfold recompute
  dsimp only
  (repeat' split) <;> repeat (first | with_reducible exact hp | with_reducible apply deliverCondition_grows | with_reducible apply report_grows | simp only [setCondition_panel])

theorem afterCurtain_grows (t : State) (h : PanelGrows p t.panel) : PanelGrows p (afterCurtain s t).panel := by
  unfold afterCurtain
  split
  · exact h
  · exact recompute_grows _ _ h

theorem curtainChange_grows (n : CurtainState) (c : CurtainCause) (hp : PanelGrows p s.panel) :
    PanelGrows p (curtainChange n c s).panel := by
  unfold curtainChange
  repeat (first | with_reducible exact hp | with_reducible apply afterCurtain_grows | with_reducible apply curtainGo_grows)

theorem curtainLowering_grows (c : CurtainCause) (hp : PanelGrows p s.panel) :
    PanelGrows p (curtainLowering c s).panel := by
  unfold curtainLowering
  repeat (first | with_reducible exact hp | with_reducible apply afterCurtain_grows | with_reducible apply curtainLowerTo_grows)

theorem enterCurtainFault_grows (hp : PanelGrows p s.panel) :
    PanelGrows p (enterCurtainFault s).panel := by
  unfold enterCurtainFault
  repeat (first | with_reducible exact hp | with_reducible apply afterCurtain_grows | with_reducible apply putCurtainFault_grows)

theorem failSafe_grows (hp : PanelGrows p s.panel) :
    PanelGrows p (failSafe s).panel := by
  unfold failSafe
  (repeat' split) <;> repeat (first | with_reducible exact hp | with_reducible apply curtainLowering_grows)

theorem putPeerFault_grows (x : StationFault) (v : Bool) (hp : PanelGrows p s.panel) :
    PanelGrows p (putPeerFault x v s).panel := by
  unfold putPeerFault
  dsimp only
  (repeat' split) <;> repeat (first | with_reducible exact hp | with_reducible apply recompute_grows | with_reducible apply report_grows | with_reducible apply failSafe_grows | simp only [setFaults_panel])

theorem putLineFault_grows (x : StationFault) (v : Bool) (r : Report) (hp : PanelGrows p s.panel) :
    PanelGrows p (putLineFault x v r s).panel := by
  unfold putLineFault
  repeat (first | with_reducible exact hp | with_reducible apply recompute_grows | with_reducible apply report_grows | simp only [setFaults_panel])

theorem countedAlarm_grows (hp : PanelGrows p s.panel) :
    PanelGrows p (countedAlarm s).panel := by
  unfold countedAlarm
  repeat (first | with_reducible exact hp | with_reducible apply clearSilence_grows)

theorem judgeRequired_grows (hp : PanelGrows p s.panel) :
    PanelGrows p (judgeRequired s).panel := by
  unfold judgeRequired
  (repeat' split) <;> repeat (first | with_reducible exact hp | with_reducible apply putPeerFault_grows)

theorem enterActive_grows (c : ListenCause) (hp : PanelGrows p s.panel) :
    PanelGrows p (enterActive c s).panel := by
  unfold enterActive
  dsimp only
  repeat (first | with_reducible exact hp | with_reducible apply report_grows | with_reducible apply offer_grows | with_reducible apply judgeRequired_grows | simp only [setPhase_panel, setPeers_panel])

theorem announceZone_grows (n : Nat) (p' : ZoneState) (z : ZoneRecord) (c : ZoneCause) (hp : PanelGrows p s.panel) :
    PanelGrows p (announceZone n p' z c s).panel := by
  unfold announceZone
  dsimp only
  (repeat' split) <;> repeat (first | with_reducible exact hp | with_reducible apply report_grows | with_reducible apply enterActive_grows | with_reducible apply recompute_grows | with_reducible apply offer_grows | with_reducible apply countedAlarm_grows | simp only [setListenCount_panel])

theorem changeZone_grows (n : Nat) (z : ZoneRecord) (c : ZoneCause) (hp : PanelGrows p s.panel) :
    PanelGrows p (changeZone n z c s).panel := by
  unfold changeZone
  (repeat' split) <;> repeat (first | with_reducible exact hp | with_reducible apply announceZone_grows | simp only [setZone_panel])

theorem escalateZone_grows (n : Nat) (hp : PanelGrows p s.panel) :
    PanelGrows p (escalateZone n s).panel := by
  unfold escalateZone
  (repeat' split) <;> repeat (first | with_reducible exact hp | with_reducible apply changeZone_grows)

theorem escalate_grows (x : Option Nat) (hp : PanelGrows p s.panel) :
    PanelGrows p (escalate x s).panel := by
  refine foldl_grows _ (fun p s n h => ?_) p _ s hp
  split
  · exact h
  · exact escalateZone_grows _ _ _ h

theorem moveZone_grows (n : Nat) (z : ZoneRecord) (c : ZoneCause) (hp : PanelGrows p s.panel) :
    PanelGrows p (moveZone n z c s).panel := by
  unfold moveZone
  dsimp only
  (repeat' split) <;> repeat (first | with_reducible exact hp | with_reducible apply changeZone_grows | with_reducible apply escalate_grows)

theorem startAlarm_grows (n : Nat) (z : ZoneRecord) (hp : PanelGrows p s.panel) :
    PanelGrows p (startAlarm n z s).panel := by
  unfold startAlarm
  (repeat' split) <;> repeat (first | with_reducible exact hp | with_reducible apply moveZone_grows)

theorem applyReading_grows (n : Nat) (r : Reading) (z : ZoneRecord) (hp : PanelGrows p s.panel) :
    PanelGrows p (applyReading n r z s).panel := by
  unfold applyReading
  dsimp only
  (repeat' split) <;> repeat (first | with_reducible exact hp | with_reducible apply startAlarm_grows | with_reducible apply moveZone_grows | simp only [setZone_panel])

theorem expireZone_grows (n : Nat) (hp : PanelGrows p s.panel) :
    PanelGrows p (expireZone n s).panel := by
  unfold expireZone
  (repeat' split) <;> repeat (first | with_reducible exact hp | with_reducible apply moveZone_grows)

theorem countTimer_grows (n : Nat) (hp : PanelGrows p s.panel) :
    PanelGrows p (countTimer n s).panel := by
  unfold countTimer
  (repeat' split) <;> repeat (first | with_reducible exact hp | with_reducible apply expireZone_grows | simp only [setZone_panel])

theorem sampleZone_grows (n : Nat) (p' : Bool × Bool) (hp : PanelGrows p s.panel) :
    PanelGrows p (sampleZone n p' s).panel := by
  unfold sampleZone
  dsimp only
  (repeat' split) <;> repeat (first | with_reducible exact hp | with_reducible apply applyReading_grows | simp only [setZone_panel])

theorem handleZone_grows (i : SampleInputs) (h : List Bool) (n : Nat) (hp : PanelGrows p s.panel) :
    PanelGrows p (handleZone i h s n).panel := by
  unfold handleZone
  dsimp only
  (repeat' split) <;> repeat (first | with_reducible exact hp | with_reducible apply sampleZone_grows | with_reducible apply countTimer_grows)

theorem sampleZones_grows (i : SampleInputs) (hp : PanelGrows p s.panel) :
    PanelGrows p (sampleZones i s).panel := by
  exact foldl_grows _ (fun p s n h => handleZone_grows s p _ _ n h) p _ s hp

theorem ackZone_grows (n : Nat) (hp : PanelGrows p s.panel) :
    PanelGrows p (ackZone n s).panel := by
  unfold ackZone
  (repeat' split) <;> repeat (first | with_reducible exact hp | with_reducible apply moveZone_grows)

theorem ackZones_grows (n : Nat) (hp : PanelGrows p s.panel) :
    PanelGrows p (ackZones n s).panel := by
  unfold ackZones
  split
  · exact foldl_grows _ (fun p s n h => ackZone_grows s p n h) p _ s hp
  · exact ackZone_grows _ _ _ hp

theorem resetZones_grows (hp : PanelGrows p s.panel) :
    PanelGrows p (resetZones s).panel := by
  exact foldl_grows _ (fun p s x h => changeZone_grows s p _ _ _ h) p _ s hp

theorem isolateZone_grows (n : Nat) (hp : PanelGrows p s.panel) :
    PanelGrows p (isolateZone n s).panel := by
  unfold isolateZone
  (repeat' split) <;> repeat (first | with_reducible exact hp | with_reducible apply report_grows | with_reducible apply moveZone_grows)

theorem restoreZone_grows (n : Nat) (hp : PanelGrows p s.panel) :
    PanelGrows p (restoreZone n s).panel := by
  unfold restoreZone
  (repeat' split) <;> repeat (first | with_reducible exact hp | with_reducible apply moveZone_grows)

theorem judgeStation_grows (n : Nat) (hp : PanelGrows p s.panel) :
    PanelGrows p (judgeStation n s).panel := by
  unfold judgeStation
  (repeat' split) <;> repeat (first | with_reducible exact hp | with_reducible apply judgeRequired_grows)

theorem refreshEntry_grows (n : Nat) (hp : PanelGrows p s.panel) :
    PanelGrows p (refreshEntry n s).panel := by
  unfold refreshEntry
  dsimp only
  (repeat' split) <;> repeat (first | with_reducible exact hp | with_reducible apply report_grows | simp only [setTable_panel])

theorem heardAnyPeer_grows (hp : PanelGrows p s.panel) :
    PanelGrows p (heardAnyPeer s).panel := by
  unfold heardAnyPeer
  repeat (first | with_reducible exact hp | with_reducible apply putPeerFault_grows | simp only [setPeers_panel])

theorem heardFrom_grows (n : Nat) (hp : PanelGrows p s.panel) :
    PanelGrows p (heardFrom n s).panel := by
  unfold heardFrom
  dsimp only
  (repeat' split) <;> repeat (first | with_reducible exact hp | with_reducible apply heardAnyPeer_grows | with_reducible apply refreshEntry_grows | with_reducible apply judgeStation_grows)

theorem zoneListChanged_grows (o n : List PeerZone) (hp : PanelGrows p s.panel) :
    PanelGrows p (zoneListChanged o n s).panel := by
  unfold zoneListChanged
  dsimp only
  (repeat' split) <;> repeat (first | with_reducible exact hp | with_reducible apply recompute_grows | with_reducible apply escalate_grows | with_reducible apply countedAlarm_grows)

theorem takeZoneFrame_grows (n : Nat) (z : PeerZone) (hp : PanelGrows p s.panel) :
    PanelGrows p (takeZoneFrame n z s).panel := by
  unfold takeZoneFrame
  dsimp only
  repeat (first | with_reducible exact hp | with_reducible apply zoneListChanged_grows | simp only [setTable_panel])

theorem takeStatusFrame_grows (n : Nat) (r : Role) (m : Mode) (f : FaultSet) (c : Option (CurtainState × Nat)) (zs : List PeerZone) (hp : PanelGrows p s.panel) :
    PanelGrows p (takeStatusFrame n r m f c zs s).panel := by
  unfold takeStatusFrame
  dsimp only
  (repeat' split) <;> repeat (first | with_reducible exact hp | with_reducible apply zoneListChanged_grows | simp only [setTable_panel])

theorem removeLost_grows (n : Nat) (hp : PanelGrows p s.panel) :
    PanelGrows p (removeLost s n).panel := by
  unfold removeLost
  dsimp only
  (repeat' split) <;> repeat (first | with_reducible exact hp | with_reducible apply report_grows | with_reducible apply judgeStation_grows | with_reducible apply zoneListChanged_grows | simp only [setTable_panel])

theorem removeLostPeers_grows (hp : PanelGrows p s.panel) :
    PanelGrows p (removeLostPeers s).panel := by
  exact foldl_grows _ (fun p s n h => removeLost_grows s p n h) p _ s hp

theorem agePeers_grows (hp : PanelGrows p s.panel) :
    PanelGrows p (agePeers s).panel := by
  unfold agePeers
  dsimp only
  (repeat' split) <;> repeat (first | with_reducible exact hp | with_reducible apply reports_grows | with_reducible apply judgeRequired_grows | simp only [setTable_panel])

theorem offerStatus_grows (hp : PanelGrows p s.panel) :
    PanelGrows p (offerStatus s).panel := by
  unfold offerStatus
  repeat (first | with_reducible exact hp | with_reducible apply offer_grows | simp only [setPeers_panel])

theorem advanceSchedule_grows (hp : PanelGrows p s.panel) :
    PanelGrows p (advanceSchedule s).panel := by
  unfold advanceSchedule
  (repeat' split) <;> repeat (first | with_reducible exact hp | with_reducible apply offerStatus_grows | simp only [setPeers_panel])

theorem judgeAlone_grows (hp : PanelGrows p s.panel) :
    PanelGrows p (judgeAlone s).panel := by
  unfold judgeAlone
  (repeat' split) <;> repeat (first | with_reducible exact hp | with_reducible apply putPeerFault_grows)

theorem advanceAnyPeer_grows (hp : PanelGrows p s.panel) :
    PanelGrows p (advanceAnyPeer s).panel := by
  unfold advanceAnyPeer
  repeat (first | with_reducible exact hp | with_reducible apply judgeAlone_grows | simp only [setPeers_panel])

theorem peerBoundary_grows (hp : PanelGrows p s.panel) :
    PanelGrows p (peerBoundary s).panel := by
  unfold peerBoundary
  repeat (first | with_reducible exact hp | with_reducible apply advanceAnyPeer_grows | with_reducible apply advanceSchedule_grows | with_reducible apply agePeers_grows)

theorem ageToThreshold_grows (n : Nat) (hp : PanelGrows p s.panel) :
    PanelGrows p (ageToThreshold n s).panel := by
  unfold ageToThreshold
  dsimp only
  (repeat' split) <;> repeat (first | with_reducible exact hp | with_reducible apply judgeStation_grows | with_reducible apply report_grows | simp only [setTable_panel])

theorem stallJam_grows (hp : PanelGrows p s.panel) : PanelGrows p (stallJam s).panel :=
  curtainChange_grows _ _ _ _ hp

theorem descentStall_grows (st : CurtainState) (d : Descent) (hp : PanelGrows p s.panel) :
    PanelGrows p (descentStall st d s).panel := by
  unfold descentStall
  dsimp only
  (repeat' split) <;> repeat (first | with_reducible exact hp | with_reducible apply report_grows | with_reducible apply stallJam_grows | with_reducible apply enterCurtainFault_grows | simp only [setDescent_panel])

theorem descentTooLate_grows (st : CurtainState) (d : Descent) (p' n : Nat) (hp : PanelGrows p s.panel) :
    PanelGrows p (descentTooLate st d p' n s).panel := by
  unfold descentTooLate
  dsimp only
  (repeat' split) <;> repeat (first | with_reducible exact hp | with_reducible apply report_grows | with_reducible apply curtainGo_grows | with_reducible apply afterCurtain_grows | with_reducible apply putCurtainFault_grows | simp only [setDescent_panel])

theorem projectDescent_grows (st : CurtainState) (d : Descent) (hp : PanelGrows p s.panel) :
    PanelGrows p (projectDescent st d s).panel := by
  unfold projectDescent
  dsimp only
  (repeat' split) <;> repeat (first | with_reducible exact hp | with_reducible apply descentTooLate_grows | simp only [setDescent_panel])

theorem judgeDescent_grows (st : CurtainState) (d : Descent) (hp : PanelGrows p s.panel) :
    PanelGrows p (judgeDescent st d s).panel := by
  unfold judgeDescent
  dsimp only
  (repeat' split) <;> repeat (first | with_reducible exact hp | with_reducible apply descentStall_grows | with_reducible apply projectDescent_grows | simp only [setDescent_panel])

theorem sampleDescent_grows (b : Bool) (hp : PanelGrows p s.panel) :
    PanelGrows p (sampleDescent b s).panel := by
  unfold sampleDescent
  (repeat' split) <;> repeat (first | with_reducible exact hp | with_reducible apply judgeDescent_grows)

theorem stallNow_grows (hp : PanelGrows p s.panel) :
    PanelGrows p (stallNow s).panel := by
  unfold stallNow
  dsimp only
  (repeat' split) <;> repeat (first | with_reducible exact hp | with_reducible apply descentStall_grows)

theorem curtainStartUp_grows (hp : PanelGrows p s.panel) :
    PanelGrows p (curtainStartUp s).panel := by
  unfold curtainStartUp
  (repeat' split) <;> repeat (first | with_reducible exact hp | with_reducible apply curtainChange_grows)

theorem reachTop_grows (hp : PanelGrows p s.panel) :
    PanelGrows p (reachTop s).panel := by
  unfold reachTop
  (repeat' split) <;> repeat (first | with_reducible exact hp | with_reducible apply curtainChange_grows)

theorem encoderCount_grows (up : Bool) (hp : PanelGrows p s.panel) :
    PanelGrows p (encoderCount up s).panel := by
  unfold encoderCount
  dsimp only
  (repeat' split) <;> repeat (first | with_reducible exact hp | with_reducible apply reachTop_grows | simp only [setCurtain_panel])

theorem bottomActive_grows (st : CurtainState) (hp : PanelGrows p s.panel) :
    PanelGrows p (bottomActive st s).panel := by
  unfold bottomActive
  dsimp only
  (repeat' split) <;> repeat (first | with_reducible exact hp | with_reducible apply bottomLimit_grows | with_reducible apply report_grows | with_reducible apply curtainChange_grows | simp only [setPins_panel, setCurtain_panel])

theorem bottomLimit_grows (a : Bool) (hp : PanelGrows p s.panel) :
    PanelGrows p (bottomLimit a s).panel := by
  unfold bottomLimit
  (repeat' split) <;> repeat (first | with_reducible exact hp | with_reducible apply bottomActive_grows | simp only [setPins_panel])

theorem topActive_grows (hp : PanelGrows p s.panel) :
    PanelGrows p (topActive s).panel := by
  unfold topActive
  dsimp only
  (repeat' split) <;> repeat (first | with_reducible exact hp | with_reducible apply topLimit_grows | with_reducible apply report_grows | with_reducible apply reachTop_grows | simp only [setPins_panel, setCurtain_panel])

theorem topLimit_grows (a : Bool) (hp : PanelGrows p s.panel) :
    PanelGrows p (topLimit a s).panel := by
  unfold topLimit
  (repeat' split) <;> repeat (first | with_reducible exact hp | with_reducible apply topActive_grows | simp only [setPins_panel])

theorem lowerRequest_grows (hp : PanelGrows p s.panel) :
    PanelGrows p (lowerRequest s).panel := by
  unfold lowerRequest
  (repeat' split) <;> repeat (first | with_reducible exact hp | with_reducible apply curtainLowering_grows)

theorem dropRequest_grows (hp : PanelGrows p s.panel) :
    PanelGrows p (dropRequest s).panel := by
  unfold dropRequest
  (repeat' split) <;> repeat (first | with_reducible exact hp | with_reducible apply curtainChange_grows)

theorem stopRequest_grows (hp : PanelGrows p s.panel) :
    PanelGrows p (stopRequest s).panel := by
  unfold stopRequest
  (repeat' split) <;> repeat (first | with_reducible exact hp | with_reducible apply curtainChange_grows)

theorem raiseRequest_grows (x : Nat) (st : CurtainState) (hp : PanelGrows p s.panel) :
    PanelGrows p (raiseRequest x st s).panel := by
  unfold raiseRequest
  (repeat' split) <;> repeat (first | with_reducible exact hp | with_reducible apply report_grows | with_reducible apply curtainChange_grows | simp only [setCurtain_panel])

theorem raiseHoldRequest_grows (x : Nat) (hp : PanelGrows p s.panel) :
    PanelGrows p (raiseHoldRequest x s).panel := by
  unfold raiseHoldRequest
  (repeat' split) <;> repeat (first | with_reducible exact hp | with_reducible apply raiseRequest_grows | with_reducible apply report_grows | simp only [refreshHold_frame])

theorem takeCurtainFrame_grows (x : Nat) (k : CurtainKind) (t : Nat) (hp : PanelGrows p s.panel) :
    PanelGrows p (takeCurtainFrame x k t s).panel := by
  unfold takeCurtainFrame
  (repeat' split) <;> repeat (first | with_reducible exact hp | with_reducible apply lowerRequest_grows | with_reducible apply dropRequest_grows | with_reducible apply stopRequest_grows | with_reducible apply raiseHoldRequest_grows | with_reducible apply report_grows)

theorem lapseHold_grows (hp : PanelGrows p s.panel) :
    PanelGrows p (lapseHold s).panel := by
  unfold lapseHold
  (repeat' split) <;> repeat (first | with_reducible exact hp | with_reducible apply curtainChange_grows)

theorem curtainBoundary_grows (hp : PanelGrows p s.panel) :
    PanelGrows p (curtainBoundary s).panel := by
  unfold curtainBoundary
  dsimp only
  (repeat' split) <;> repeat (first | with_reducible exact hp | with_reducible apply lapseHold_grows | simp only [setCurtain_panel])

theorem warningDone_grows (hp : PanelGrows p s.panel) :
    PanelGrows p (warningDone s).panel := by
  unfold warningDone
  (repeat' split) <;> repeat (first | with_reducible exact hp | with_reducible apply curtainChange_grows)

theorem judgeHandshake_grows (m : Bool) (hp : PanelGrows p s.panel) :
    PanelGrows p (judgeHandshake m s).panel := by
  unfold judgeHandshake
  (repeat' split) <;> repeat (first | with_reducible exact hp | with_reducible apply curtainChange_grows | simp only [setHandshake_panel])

theorem driveLost_grows (hp : PanelGrows p s.panel) :
    PanelGrows p (driveLost s).panel := by
  unfold driveLost
  (repeat' split) <;> repeat (first | with_reducible exact hp | with_reducible apply curtainChange_grows)

theorem driveReadyChange_grows (r : Bool) (hp : PanelGrows p s.panel) :
    PanelGrows p (driveReadyChange r s).panel := by
  unfold driveReadyChange
  dsimp only
  (repeat' split) <;> repeat (first | with_reducible exact hp | with_reducible apply driveLost_grows | simp only [setPins_panel])

theorem curtainSample_grows (i : SampleInputs) (h : Bool) (hp : PanelGrows p s.panel) :
    PanelGrows p (curtainSample i h s).panel := by
  unfold curtainSample
  (repeat' split) <;> repeat (first | with_reducible exact hp | with_reducible apply sampleDescent_grows | with_reducible apply judgeHandshake_grows)

theorem endRepetition_grows (hp : PanelGrows p s.panel) :
    PanelGrows p (endRepetition s).panel := by
  unfold endRepetition
  dsimp only
  (repeat' split) <;> repeat (first | with_reducible exact hp | with_reducible apply restAfter_grows | with_reducible apply warningDone_grows | simp only [endPlaying_frame])

theorem loaderBoundary_grows (hp : PanelGrows p s.panel) :
    PanelGrows p (loaderBoundary s).panel := by
  unfold loaderBoundary
  dsimp only
  (repeat' split) <;> repeat (first | with_reducible exact hp | with_reducible apply enterActive_grows | simp only [setListenCount_panel])

theorem releasePlacement_grows (hp : PanelGrows p s.panel) :
    PanelGrows p (releasePlacement s).panel := by
  unfold releasePlacement
  dsimp only
  (repeat' split) <;> repeat (first | with_reducible exact hp | with_reducible apply placeWarning_grows | simp only [setBoundaryUnderway_panel, setPlacementHeld_panel])

theorem deliverBoundary_grows (hp : PanelGrows p s.panel) :
    PanelGrows p (deliverBoundary s).panel := by
  unfold deliverBoundary
  repeat (first | with_reducible exact hp | with_reducible apply loaderBoundary_grows | with_reducible apply curtainBoundary_grows | with_reducible apply releasePlacement_grows | with_reducible apply callBoundary_grows | with_reducible apply lightBoundary_grows | with_reducible apply peerBoundary_grows | simp only [setBoundaryUnderway_panel])

theorem takeBoundary_grows (n : BitVec 8) (hp : PanelGrows p s.panel) :
    PanelGrows p (takeBoundary n s).panel := by
  unfold takeBoundary
  repeat (first | with_reducible exact hp | with_reducible apply deliverBoundary_grows | simp only [setBeat_panel])

theorem expireBeat_grows (hp : PanelGrows p s.panel) :
    PanelGrows p (expireBeat s).panel := by
  unfold expireBeat
  dsimp only
  (repeat' split) <;> repeat (first | with_reducible exact hp | with_reducible apply offer_grows | with_reducible apply takeBoundary_grows)

theorem judgeLock_grows (n : BitVec 8) (hp : PanelGrows p s.panel) :
    PanelGrows p (judgeLock n s).panel := by
  unfold judgeLock
  dsimp only
  (repeat' split) <;> repeat (first | with_reducible exact hp | with_reducible apply report_grows | simp only [setBeat_panel])

theorem measureBeat_grows (n : BitVec 8) (hp : PanelGrows p s.panel) :
    PanelGrows p (measureBeat n s).panel := by
  unfold measureBeat
  repeat (first | with_reducible exact hp | with_reducible apply judgeLock_grows | simp only [setBeat_panel])

theorem followBeat_grows (n : BitVec 8) (hp : PanelGrows p s.panel) :
    PanelGrows p (followBeat n s).panel := by
  unfold followBeat
  (repeat' split) <;> repeat (first | with_reducible exact hp | with_reducible apply takeBoundary_grows | simp only [setBeat_panel, overtakeExpiry_panel, withdrawBeat_frame])

theorem afterAlignment_grows (hp : PanelGrows p s.panel) :
    PanelGrows p (afterAlignment s).panel := by
  unfold afterAlignment
  (repeat' split) <;> repeat (first | with_reducible exact hp | with_reducible apply report_grows | simp only [setBeat_panel])

theorem takeBeatFrame_grows (x : Nat) (n : BitVec 8) (hp : PanelGrows p s.panel) :
    PanelGrows p (takeBeatFrame x n s).panel := by
  unfold takeBeatFrame
  dsimp only
  (repeat' split) <;> repeat (first | with_reducible exact hp | with_reducible apply measureBeat_grows | with_reducible apply afterAlignment_grows | with_reducible apply followBeat_grows)

theorem fadeStepDue_grows (hp : PanelGrows p s.panel) :
    PanelGrows p (fadeStepDue s).panel := by
  unfold fadeStepDue
  dsimp only
  (repeat' split) <;> repeat (first | with_reducible exact hp | with_reducible apply lightStep_grows | simp only [setBeat_panel])

theorem changeMode_grows (m : Mode) (x : Nat) (hp : PanelGrows p s.panel) :
    PanelGrows p (changeMode m x s).panel := by
  unfold changeMode
  (repeat' split) <;> repeat (first | with_reducible exact hp | with_reducible apply report_grows | simp only [setMode_panel])

theorem carryOut_grows (c : Command) (x : Nat) (hp : PanelGrows p s.panel) :
    PanelGrows p (carryOut c x s).panel := by
  unfold carryOut
  (repeat' split) <;> repeat (first | with_reducible exact hp | with_reducible apply ackZones_grows | with_reducible apply clearSilence_grows | with_reducible apply resetZones_grows | with_reducible apply removeLostPeers_grows | with_reducible apply setSilence_grows | with_reducible apply isolateZone_grows | with_reducible apply restoreZone_grows | with_reducible apply changeMode_grows | simp only [setMode_panel])

theorem takeCommand_grows (c : Command) (x t : Nat) (l : Bool) (hp : PanelGrows p s.panel) :
    PanelGrows p (takeCommand c x t l s).panel := by
  unfold takeCommand
  repeat (first | with_reducible exact hp | with_reducible apply carryOut_grows | with_reducible apply report_grows)

theorem takeCommandFrame_grows (x : Nat) (c : Command) (t : Nat) (hp : PanelGrows p s.panel) :
    PanelGrows p (takeCommandFrame x c t s).panel := by
  unfold takeCommandFrame
  (repeat' split) <;> repeat (first | with_reducible exact hp | with_reducible apply report_grows | with_reducible apply takeCommand_grows)

theorem judgeDegraded_grows (hp : PanelGrows p s.panel) :
    PanelGrows p (judgeDegraded s).panel := by
  unfold judgeDegraded
  (repeat' split) <;> repeat (first | with_reducible exact hp | with_reducible apply putLineFault_grows)

theorem takePayload_grows (x : Nat) (p' : Payload) (hp : PanelGrows p s.panel) :
    PanelGrows p (takePayload x p' s).panel := by
  unfold takePayload
  (repeat' split) <;> repeat (first | with_reducible exact hp | with_reducible apply takeZoneFrame_grows | with_reducible apply takeBeatFrame_grows | with_reducible apply takeCommandFrame_grows | with_reducible apply takeCurtainFrame_grows | with_reducible apply takeCueFrame_grows | with_reducible apply takeCallFrame_grows | with_reducible apply takeStatusFrame_grows | simp only [takeStateFrame_frame])

theorem handOn_grows (f : Frame) (hp : PanelGrows p s.panel) :
    PanelGrows p (handOn f s).panel := by
  unfold handOn
  (repeat' split) <;> repeat (first | with_reducible exact hp | with_reducible apply takePayload_grows | with_reducible apply heardFrom_grows)

theorem resolveHeldBeat_grows (w : Bool) (hp : PanelGrows p s.panel) :
    PanelGrows p (resolveHeldBeat w s).panel := by
  unfold resolveHeldBeat
  dsimp only
  (repeat' split) <;> repeat (first | with_reducible exact hp | with_reducible apply returnFrame_grows | simp only [setLine_panel])

theorem noteDuplicate_grows (x : Nat) (hp : PanelGrows p s.panel) :
    PanelGrows p (noteDuplicate x s).panel := by
  unfold noteDuplicate
  (repeat' split) <;> repeat (first | with_reducible exact hp | with_reducible apply putLineFault_grows)

theorem receiveError_grows (k : LineError) (hp : PanelGrows p s.panel) :
    PanelGrows p (receiveError k s).panel := by
  unfold receiveError
  repeat (first | with_reducible exact hp | with_reducible apply resolveHeldBeat_grows | with_reducible apply judgeDegraded_grows | simp only [setLine_panel])

theorem receiveGood_grows (f : Frame) (hp : PanelGrows p s.panel) :
    PanelGrows p (receiveGood f s).panel := by
  unfold receiveGood
  repeat (first | with_reducible exact hp | with_reducible apply handOn_grows | with_reducible apply noteDuplicate_grows | with_reducible apply resolveHeldBeat_grows | with_reducible apply judgeDegraded_grows | simp only [setLine_panel])

theorem receive_grows (f : Frame) (hp : PanelGrows p s.panel) :
    PanelGrows p (receive f s).panel := by
  unfold receive
  (repeat' split) <;> repeat (first | with_reducible exact hp | with_reducible apply receiveGood_grows | with_reducible apply receiveError_grows)

theorem receiveBytes_grows (bs : List Byte) (e : Bool) (hp : PanelGrows p s.panel) :
    PanelGrows p (receiveBytes bs e s).panel := by
  unfold receiveBytes
  (repeat' split) <;> repeat (first | with_reducible exact hp | with_reducible apply receiveError_grows | with_reducible apply receiveGood_grows)

theorem loseArbitration_grows (hp : PanelGrows p s.panel) :
    PanelGrows p (loseArbitration s).panel := by
  unfold loseArbitration
  (repeat' split) <;> repeat (first | with_reducible exact hp | with_reducible apply returnFrame_grows | simp only [setLine_panel, setSlot_panel])

theorem abandonFrame_grows (hp : PanelGrows p s.panel) :
    PanelGrows p (abandonFrame s).panel := by
  unfold abandonFrame
  (repeat' split) <;> repeat (first | with_reducible exact hp | with_reducible apply report_grows | with_reducible apply judgeDegraded_grows | simp only [setLine_panel])

theorem reflectFrame_grows (hp : PanelGrows p s.panel) :
    PanelGrows p (reflectFrame s).panel := by
  unfold reflectFrame
  (repeat' split) <;> repeat (first | with_reducible exact hp | with_reducible apply handOn_grows | simp only [setSlot_panel])

end Sys2Proof.Machine
end

