-- ==== Sys2Proof/Laws/StartUp.lean ====
section
/-! SUPPORT. How a configuration read is judged (R170). -/

namespace Sys2Proof.Machine

variable (r : List Byte)

theorem judgeRead_check (h : ¬checkMatches r) : judgeRead (.bytes r) = .failed .check := by
  unfold judgeRead
  dsimp only
  rw [if_pos h]

theorem judgeRead_station (h : checkMatches r) (h' : byteAt r 0 = 0 ∨ 31 < byteAt r 0) :
    judgeRead (.bytes r) = .failed .station := by
  unfold judgeRead
  dsimp only
  rw [if_neg (not_not.mpr h), if_pos h']

theorem judgeRead_role (h : checkMatches r) (h' : ¬(byteAt r 0 = 0 ∨ 31 < byteAt r 0)) (hr : Role.ofCode (byteAt r 1) = none) :
    judgeRead (.bytes r) = .failed .role := by
  unfold judgeRead
  dsimp only
  rw [if_neg (not_not.mpr h), if_neg h', hr]

theorem judgeRead_usable (role : Role) (h : checkMatches r) (h' : ¬(byteAt r 0 = 0 ∨ 31 < byteAt r 0))
    (hr : Role.ofCode (byteAt r 1) = some role) : judgeRead (.bytes r) = .usable r role := by
  unfold judgeRead
  dsimp only
  rw [if_neg (not_not.mpr h), if_neg h', hr]

/-- A usable record in CONFIG_READ, with RESET not held, completes configuration. -/
theorem endConfigRead_usable (role : Role) (pins : CurtainPins) (s : State) (hp : s.phase = .configRead)
    (hr : s.resetHeld = false) (h : judgeRead (.bytes r) = .usable r role) :
    endConfigRead (.bytes r) pins s = completeConfiguration r role pins s := by
  unfold endConfigRead
  rw [if_pos ⟨hp, hr⟩, h]

/-- The corrected record keeps the role it was judged with. -/
@[simp] theorem readConfig_role (role : Role) : (readConfig r role).value.role = role := rfl

end Sys2Proof.Machine
end

