-- ==== Sys2Proof/Tests/Slice0.lean ====
section
/-! SUPPORT. Tests: the manual's own figures, a term that each well-formedness check refuses, and for each statement with
hypotheses a concrete state that meets them, clause by clause. Small states are built from `house`. -/

namespace Sys2Proof.Tests

open Sys2Proof.Machine

/-! ## Small states -/

/-- Station 12 with every area in both blocks and nothing enabled. -/
def desk (role : Role) : ConfigRecord :=
  { ConfigRecord.recommended with
    station := 12, role := role
    zones := List.replicate 8 ⟨false, .detector, 0, 300, 1800, 5⟩
    sounders := List.replicate 4 ⟨0, false⟩
    channels := List.replicate 8 ⟨0, false⟩
    patterns := List.replicate 8 ⟨500, 1000, 3, 2000⟩ }

/-- A peer heard one beat ago. -/
def peer3 (role : Option Role) : PeerEntry :=
  { station := 3, role := role, mode := some .inShow, faults := some noFaults, curtain := none, zones := [], heard := 1
    liveness := .present }

/-- Station 12 in ACTIVE and SHOW, hearing station 3. -/
def houseOf (own : Role) (peer : Option Role) : State :=
  { State.reset with
    phase := .active, mode := .inShow, config := some (desk own)
    beat := { BeatState.reset with running := true }
    peers := { PeerState.reset with table := [peer3 peer] }
    lights := { LightState.reset with sending := none } }

def house (own peer : Role) : State := houseOf own (some peer)

/-- The state after a command. -/
def after (c : Instr) (s : State) : State :=
  match exec c s with
  | .next t => t
  | _ => s

/-- An enabled detector zone. -/
def detector (state : ZoneState) (timer : Option Nat) : ZoneRecord :=
  { ZoneRecord.reset with enabled := true, state := state, timer := timer }

/-- The state with one enabled zone, zone 0. -/
def withZone (z : ZoneRecord) (s : State) : State := { s with zones := z :: List.replicate 7 ZoneRecord.reset }

/-- The state with one channel enabled, channel 0. -/
def withChannel (c : Channel) (s : State) : State :=
  { s with lights := { s.lights with channels := { c with enabled := true } :: List.replicate 7 Channel.reset } }

/-- A CURTAIN station hearing station 3, its curtain in the given state. -/
def stage (peer : Role) (st : CurtainState) : State :=
  { house .curtain peer with
    curtain := { CurtainRecord.reset with state := some st, known := true, pos := 500 }
    pins := { driveReady := true, topLimit := false, bottomLimit := false } }

/-- The fields of `HearsPeer`, in a form that can be decided. -/
abbrev HeardLately (x : Nat) (s : State) : Prop :=
  s.working = true ∧ (1 ≤ x ∧ x ≤ 31) ∧ x ≠ s.cfg.station ∧ s.line.heldBeat = none ∧ s.line.good < 15
    ∧ (if s.faults.lineDegraded then s.line.score ≠ 0 else s.line.score < s.line.threshold)
    ∧ s.faults.alone = false ∧ isPresent x s = true

theorem hears_of {x : Nat} {s : State} (h : HeardLately x s) : HearsPeer x s :=
  ⟨h.1, h.2.1, h.2.2.1, h.2.2.2.1, h.2.2.2.2.1, h.2.2.2.2.2.1, h.2.2.2.2.2.2.1, h.2.2.2.2.2.2.2⟩

/-! ## The manual's figures -/

/-- R179: the nine bytes 31h to 39h give 29B1h. -/
theorem test_check_figure : crc [0x31#8, 0x32, 0x33, 0x34, 0x35, 0x36, 0x37, 0x38, 0x39] = 0x29B1 := by decide +kernel

/-- 12 section 12.2: station 12's ZONE frame for its zone 0, area 7, in ALARM. -/
theorem test_zone_frame_bytes : Frame.body 0 ⟨12, .zone 0 7 .alarm⟩ = [0x0C#8, 0x03, 0x00, 0x07, 0x03] := by decide

/-- 02: the arbitration values 132, 137 and 162 of the worked example. -/
theorem test_arbitration_values :
    (Frame.body 0 ⟨4, .cue ⟨16, 0⟩ 0 0 .now⟩).headD 0 = 132 ∧ (Frame.body 0 ⟨9, .cue ⟨16, 0⟩ 0 0 .now⟩).headD 0 = 137
      ∧ (Frame.body 0 ⟨2, .call ⟨16, 0⟩ 0 .routine 1 .now none⟩).headD 0 = 162 := by decide

/-- R71 with P = 250: position 125 is late by 125, position 126 is early by 124. -/
theorem test_phase_error : phaseErrorAt 250 125 = 125 ∧ phaseErrorAt 250 126 = -124 := by decide

/-- R136: the ends of the output scale. -/
theorem test_output_code_ends : outputCode false 1000 1000 = 255 ∧ outputCode false 1000 0 = 0 ∧ outputCode true 0 0 = 255 := by
  decide

/-! ## Well-formedness: each check refuses a term -/

theorem test_wf_config_length : (Instr.configReadDone (.bytes [0]) ⟨true, true, true⟩).wellFormed = false := by decide
theorem test_wf_sample_pins : (Instr.sampleEvent ⟨[(true, true)], true, true⟩).wellFormed = false := by decide
theorem test_wf_zone_number :
    (Instr.t1Expiry 8).wellFormed = false ∧ (Instr.t2Expiry 8).wellFormed = false := by decide
theorem test_wf_channel_number : (Instr.fadeComplete 8).wellFormed = false := by decide
theorem test_wf_station_number :
    (Instr.peerLivenessChange 0).wellFormed = false ∧ (Instr.peerLivenessChange 32).wellFormed = false := by decide
theorem test_wf_frame_length : (Instr.rxFrameError (List.replicate 260 0) true).wellFormed = false := by decide +kernel
theorem test_wf_sender :
    (Instr.beatFrame 0 5).wellFormed = false ∧ (Instr.beatFrame 32 5).wellFormed = false := by decide
theorem test_wf_zone_frame :
    (Instr.zoneFrame 3 8 0 .quiet).wellFormed = false ∧ (Instr.zoneFrame 3 0 16 .quiet).wellFormed = false := by decide
theorem test_wf_command_zone :
    (Instr.commandAck 3 0 9).wellFormed = false ∧ (Instr.commandIsolate 3 0 8).wellFormed = false
      ∧ (Instr.commandRestore 3 0 8).wellFormed = false := by decide
theorem test_wf_target :
    (Instr.commandReset 3 32).wellFormed = false ∧ (Instr.commandSilence 3 32).wellFormed = false
      ∧ (Instr.commandSetMode 3 32 .test).wellFormed = false ∧ (Instr.curtainLowerFrame 3 32).wellFormed = false
      ∧ (Instr.curtainDropFrame 3 32).wellFormed = false ∧ (Instr.curtainStopFrame 3 32).wellFormed = false
      ∧ (Instr.curtainRaiseHoldFrame 3 32).wellFormed = false := by decide
theorem test_wf_curtain_position :
    (Instr.curtainStateFrame 3 0 .up 65536).wellFormed = false ∧ (Instr.curtainStateFrame 3 32 .up 0).wellFormed = false := by
  decide
theorem test_wf_cue_frame :
    (Instr.cueFrame 3 ⟨3, 0⟩ 0 0 .now).wellFormed = false ∧ (Instr.cueFrame 3 ⟨1, 16⟩ 0 0 .now).wellFormed = false
      ∧ (Instr.cueFrame 3 ⟨1, 0⟩ 65536 0 .now).wellFormed = false
      ∧ (Instr.cueFrame 3 ⟨1, 0⟩ 0 256 .now).wellFormed = false := by decide
theorem test_wf_call_frame :
    (Instr.callFrame 3 ⟨1, 0⟩ 8 .routine 1 .now none).wellFormed = false
      ∧ (Instr.callFrame 3 ⟨1, 0⟩ 0 .safety 1 .now none).wellFormed = false
      ∧ (Instr.callFrame 3 ⟨1, 0⟩ 0 .routine 256 .now none).wellFormed = false
      ∧ (Instr.callFrame 3 ⟨1, 0⟩ 0 .routine 1 .now (some ⟨65536, 0⟩)).wellFormed = false
      ∧ (Instr.callFrame 3 ⟨1, 0⟩ 0 .routine 1 .now (some ⟨0, 256⟩)).wellFormed = false := by decide
theorem test_wf_status_frame :
    (Instr.statusFrame 3 .stage .test noFaults (some (.up, 0)) []).wellFormed = false
      ∧ (Instr.statusFrame 3 .curtain .test noFaults none []).wellFormed = false
      ∧ (Instr.statusFrame 3 .stage .test noFaults none [⟨0, 0, .quiet⟩]).wellFormed = false
      ∧ (Instr.statusFrame 3 .stage .test noFaults none [⟨0, 0, .fault⟩, ⟨0, 1, .alarm⟩]).wellFormed = false
      ∧ (Instr.statusFrame 3 .stage .test noFaults none (List.replicate 9 ⟨0, 0, .fault⟩)).wellFormed = false := by decide
theorem test_wf_unknown_request :
    (Instr.unknownRequest 20 0).wellFormed = false ∧ (Instr.unknownRequest 256 0).wellFormed = false := by decide
theorem test_wf_request_tag :
    (Instr.readZone 256 0).wellFormed = false ∧ (Instr.readPeer 256 0).wellFormed = false
      ∧ (Instr.readChannel 256 0).wellFormed = false ∧ (Instr.readCurtain 256 true).wellFormed = false
      ∧ (Instr.readCounters 256 0).wellFormed = false ∧ (Instr.readQueue 256 0).wellFormed = false
      ∧ (Instr.readBeat 256 0).wellFormed = false := by decide
theorem test_wf_request_bytes :
    (Instr.curtainLower 0 256).wellFormed = false ∧ (Instr.curtainDrop 0 256).wellFormed = false
      ∧ (Instr.curtainStop 0 256).wellFormed = false ∧ (Instr.curtainRaiseHold 0 256).wellFormed = false
      ∧ (Instr.ack 0 true 0 256).wellFormed = false ∧ (Instr.reset 0 true 256).wellFormed = false
      ∧ (Instr.silence 0 true 256).wellFormed = false ∧ (Instr.isolate 0 true 0 256).wellFormed = false
      ∧ (Instr.restore 0 true 256 0).wellFormed = false ∧ (Instr.setMode 0 true 0 256).wellFormed = false := by decide
theorem test_wf_master_word : (Instr.setMaster 0 65536).wellFormed = false := by decide
theorem test_wf_call_args :
    (Instr.call 0 ⟨256, 0, 0, 0, 0, 0, 0, 0, 0, 0⟩).wellFormed = false
      ∧ (Instr.call 0 ⟨0, 0, 0, 0, 0, 0, 0, 0, 65536, 0⟩).wellFormed = false := by decide
theorem test_wf_cue_args :
    (Instr.cue 0 ⟨0, 0, 65536, 0, 0, 0⟩).wellFormed = false ∧ (Instr.cue 0 ⟨0, 0, 0, 0, 0, 256⟩).wellFormed = false := by
  decide

/-! ## Worked figures of the manual, one step each -/

/-- R4, R5, 01 section 1.9: at sample 10 all three classes differ and the reading is kept; at sample 11 it is CLEAR. -/
theorem test_majority_reading :
    formReading (pushHistory .clear [.openCircuit, .openCircuit, .active]) (some .openCircuit) = some .openCircuit
      ∧ formReading (pushHistory .clear [.openCircuit, .active, .clear]) (some .openCircuit) = some .clear := by decide

/-- 08 section 8.8: level 800 under master 900 has code 132; after the ALARM level 1000 has code 207. -/
theorem test_output_codes : outputCode false 900 800 = 132 ∧ outputCode false 900 1000 = 207 := by decide

/-- 08 section 8.8: the fade from 800 to 150 over 40 steps at steps 1, 10 and 40. -/
theorem test_fade_levels :
    fadeLevel 800 150 1 40 = 784 ∧ fadeLevel 800 150 10 40 = 638 ∧ fadeLevel 800 150 40 40 = 150 := by decide

/-- 02 section 2.9, step 3: the error that takes the score to 5 sets LINE_DEGRADED. -/
theorem test_score_threshold :
    (after (.zoneFrame 3 8 0 .quiet) { house .area .stage with
      line := { LineState.reset with score := 4, good := 10 } }).faults.lineDegraded = true := by decide

/-- 04 section 4.8, step 5: the fourth in-window BEAT locks. -/
theorem test_fourth_beat_locks :
    (after (.beatFrame 3 122) { house .area .stage with
      beat := { BeatState.reset with running := true, number := 121, position := 247, run := 3 } }).beat.lock = .locked := by
  decide

/-- 06 section 6.12: an ALARM drops a raised curtain in the same event. -/
theorem test_alarm_drops_curtain : (after (.zoneFrame 3 4 2 .alarm) (stage .stage .up)).curtain.state = some .dropping := by
  decide

/-- 07 section 7.6, t = 152: need 162 takes the descent past 300, and it is dropped. -/
theorem test_late_descent_drops :
    (after (.sampleEvent ⟨List.replicate 8 (false, false), true, true⟩) { stage .stage .lowering with
      curtain := { CurtainRecord.reset with
        state := some .lowering, known := true, pos := 4200, handshake := .running
        descent := some { t := 151, kind := .position, readings := [4356, 4304, 4252, 4200, 4200], stallCount := 0
                          lateReported := false } } }).curtain.state = some .dropping := by decide

/-- 10 section 10.6, step 2: the freed place takes REPORTS_LOST. -/
theorem test_reports_lost :
    (after .none { house .foh .stage with
      panel := { PanelState.reset with
        reports := List.replicate 32 ⟨0, .duplicateStation⟩, lost := 3, attention := true
        link := .sending .report [] } }).panel.reports.getLast? = some ⟨0, .reportsLost 3⟩ := by decide

/-- 11 section 11.6: a call point in LISTEN ends LISTEN, its ZONE frame ahead of the STATUS. -/
theorem test_own_alarm_ends_listen :
    (after (.sampleEvent ⟨(true, false) :: List.replicate 7 (false, false), true, true⟩)
      (withZone { detector .quiet none with kind := .callPoint, area := 6, history := [.clear, .active] }
        { house .area .stage with phase := .listen })).line.tx.map Payload.cls = [0, 6] := by decide

/-- R70: the BEAT is taken first; the expiry that falls with it does not come, and the number is 8 either way. -/
theorem test_beat_before_expiry :
    (let s : State := { house .foh .stage with beat := { BeatState.reset with running := true, number := 7, position := 249 } }
     (after .beatExpiry (after (.beatFrame 3 8) s)).beat.number = 8
      ∧ (after (.beatFrame 3 8) (after .beatExpiry s)).beat.number = 8) := by decide

/-- R62: the timer's position ends at P - 1. -/
theorem test_timer_ends_at_last_position :
    (BeatState.tick { BeatState.reset with running := true, position := 249 }).position = 249
      ∧ (BeatState.tick { BeatState.reset with running := true, position := 248 }).position = 249 := by decide

/-- R137: code 129, bits 10000001, is sent most significant bit first. -/
theorem test_codes_on_ldata :
    ({ LightState.reset with sending := some [129, 255] } : LightState).ldata
      = some [true, false, false, false, false, false, false, true, true, true, true, true, true, true, true, true] := by decide

/-- 12 section 12.3: an ACK (7) with tag 5 for zone 2 of station 12, and a CUE (2) with level 0102h. -/
theorem test_request_bytes :
    readRequest true false ([7, 5, 12, 2] ++ List.replicate 60 0) = .ack 5 true 12 2
      ∧ readRequest false false ([2, 9, 16, 0, 1, 2, 4, 1] ++ List.replicate 56 0) = .cue 9 ⟨16, 0, 258, 4, 1, 0⟩ := by decide

/-- R162: 63 bytes are a void transfer, and what follows the 64th is disregarded. -/
theorem test_transfer_length :
    transferCommand true false (List.replicate 63 0) = .transferVoid
      ∧ transferCommand true false ([14, 1, 3] ++ List.replicate 61 0 ++ [9]) = .readZone 1 3 := by decide

/-- R162: zero bytes follow the record on PSDO. -/
theorem test_bytes_past_the_record :
    (Link.sending .empty (List.replicate 64 7)).psdo 63 = some 7 ∧ (Link.sending .empty (List.replicate 64 7)).psdo 64 = some 0 := by
  decide

/-- R168, R169: of a transfer that begins while RESET is held no request is taken. -/
theorem test_transfer_begun_under_reset :
    (after (.readZone 1 0) (after .resetRelease (after .transferStart { State.reset with resetHeld := true }))).panel.holder
      = none := by decide

/-! ## The hypotheses of the statements can be met

One theorem a statement, named after it. Where a statement has clauses, each has its own state, at a boundary of its
range. -/

/-- A configuration record of zeros but for its station, its role and its check. -/
def record (station role checkHigh checkLow : Byte) : List Byte :=
  station :: role :: List.replicate 188 0 ++ [checkHigh, checkLow]

theorem test_witness_FrontCommandIsRun :
    ({ State.reset with pending := [.fadeStep, .alone] } : State).pending = .fadeStep :: [.alone] := rfl

/-- A call of pattern 0 for the whole house. -/
def bell (cls : CallClass) (repeats : Nat) : CallEntry :=
  { key := ⟨0, ⟨16, 0⟩, cls⟩, repeats := repeats, origin := .station 3, start := .now, linked := none, started := true
    playing := true }

/-- The state with an entry playing at a place of its repetition. -/
def ringing (e : CallEntry) (x : RepPosition) (s : State) : State :=
  { s with calls := { s.calls with queue := [e], cadence := .playing, chosen := some e.key, position := some x } }

theorem test_witness_EmptyQueuePassesOneMillisecond :
    (let s : State := ringing (bell .routine 1) ⟨0, .on, 500⟩
      { house .foh .stage with calls := { CallState.reset with evacPos := some ⟨true, 20⟩ } }
     s.pending = [] ∧ s.calls.chosen = some ⟨0, ⟨16, 0⟩, .routine⟩ ∧ s.calls.position = some ⟨0, .on, 500⟩
      ∧ s.calls.evacPos = some ⟨true, 20⟩)
    ∧ (State.reset.pending = [] ∧ State.reset.calls.position = none ∧ State.reset.calls.evacPos = none)
    ∧ (let b : BeatState := { BeatState.reset with running := true, position := 248 }
       b.running = true ∧ b.position + 1 < b.period) := by decide

theorem test_witness_ResetValuesOfEveryBlock : (0 ≤ 7) ∧ (7 ≤ 7) := by decide

set_option maxRecDepth 20000 in
theorem test_witness_UnusableReadLeavesUnconfigured :
    State.reset.phase = .configRead ∧ State.reset.resetHeld = false
      ∧ ¬checkMatches (record 1 0 0 0)
      ∧ (checkMatches (record 0 0 0x14 0xEB) ∧ byteAt (record 0 0 0x14 0xEB) 0 = 0)
      ∧ (checkMatches (record 32 0 0x98 0x17) ∧ 31 < byteAt (record 32 0 0x98 0x17) 0)
      ∧ (checkMatches (record 12 5 0xDD 0x66) ∧ 1 ≤ byteAt (record 12 5 0xDD 0x66) 0
          ∧ byteAt (record 12 5 0xDD 0x66) 0 ≤ 31 ∧ 4 < byteAt (record 12 5 0xDD 0x66) 1) := by decide +kernel

set_option maxRecDepth 20000 in
theorem test_witness_UsableReadEntersListen :
    (checkMatches (record 1 0 0xFE 0x90) ∧ 1 ≤ byteAt (record 1 0 0xFE 0x90) 0 ∧ byteAt (record 1 0 0xFE 0x90) 0 ≤ 31
      ∧ Role.ofCode (byteAt (record 1 0 0xFE 0x90) 1) = some .stage)
    ∧ (checkMatches (record 31 4 0xAF 0xED) ∧ 1 ≤ byteAt (record 31 4 0xAF 0xED) 0
      ∧ byteAt (record 31 4 0xAF 0xED) 0 ≤ 31 ∧ Role.ofCode (byteAt (record 31 4 0xAF 0xED) 1) = some .area)
    ∧ State.reset.phase = .configRead ∧ State.reset.resetHeld = false := by decide +kernel

set_option maxRecDepth 20000 in
theorem test_witness_CurtainStationTakesFirstState :
    checkMatches (record 12 1 0xB4 0x02) ∧ 1 ≤ byteAt (record 12 1 0xB4 0x02) 0 ∧ byteAt (record 12 1 0xB4 0x02) 0 ≤ 31
      ∧ Role.ofCode (byteAt (record 12 1 0xB4 0x02) 1) = some .curtain ∧ State.reset.phase = .configRead
      ∧ State.reset.resetHeld = false ∧ State.reset.curtain = CurtainRecord.reset := by decide +kernel

theorem test_witness_CorrectedRecordLiesInItsRanges :
    byteAt (record 1 0 0 0) 0 = 1 ∧ byteAt (record 31 0 0 0) 0 = 31 := by decide

theorem test_witness_ListenEndsIntoActive :
    (let s : State := { house .foh .stage with phase := .listen, config := some { desk .foh with required := [12, 3] } }
     s.phase = .listen ∧ s.line.tx = [] ∧ s.faults.requiredLost = false
      ∧ ∀ n ∈ s.cfg.required, n = s.cfg.station ∨ satisfied s.peers.table n = true) := by decide

theorem test_witness_ReadingIsTheMajorityOfThree :
    Reading.clear ≠ .active ∧ Reading.clear ≠ .short ∧ Reading.active ≠ .short := by decide

/-- A sample in which every zone circuit is closed, the drive still. -/
def clearSample : SampleInputs := ⟨List.replicate 8 (false, false), false, true⟩

theorem clearSample_pins (n : Nat) : clearSample.zonePins.getD n (false, false) = (false, false) := by
  rcases n with _ | _ | _ | _ | _ | _ | _ | _ | _ <;> rfl

/-- What ClearSampleOnlyTakesReadings asks of a zone. -/
abbrev RestsClear (z : ZoneRecord) : Prop :=
  z.enabled = true → z.state = .quiet ∧ z.timer = none ∧ z.faultScore ≤ z.threshold ∧ 0 < z.threshold
    ∧ (formReading (pushHistory .clear z.history) z.reading = none
        ∨ formReading (pushHistory .clear z.history) z.reading = some .clear)

theorem test_witness_ClearSampleOnlyTakesReadings :
    (∀ n, clearSample.zonePins.getD n (false, false) = (false, false))
      ∧ (let s := withZone (detector .quiet none) (house .foh .stage)
         s.working = true ∧ s.curtain.handshake = .idle ∧ s.curtain.descent = none ∧ ∀ z ∈ s.zones, RestsClear z)
      ∧ (let s := withZone { detector .quiet none with history := [.active, .clear], faultScore := 5 } (house .foh .stage)
         s.working = true ∧ ∀ z ∈ s.zones, RestsClear z) :=
  ⟨clearSample_pins, by decide, by decide⟩

theorem others_disabled (z : ZoneRecord) (s : State) (m : Nat) (y : ZoneRecord) (hm : m ≠ 0)
    (h : (withZone z s).zones[m]? = some y) : y.enabled = false := by
  obtain ⟨k, rfl⟩ := Nat.exists_eq_succ_of_ne_zero hm
  simp only [withZone, List.getElem?_cons_succ, List.getElem?_replicate] at h
  split at h
  · cases h; rfl
  · cases h

/-- A zone with a history that the next sample, of class c, makes a reading of class c. -/
def reads (c : Reading) (z : ZoneRecord) : ZoneRecord := { z with history := [.clear, c] }

/-- The reading after a sample of class c. -/
abbrev nextReading (c : Reading) (z : ZoneRecord) : Option Reading := formReading (pushHistory c z.history) z.reading

theorem test_witness_SampleMovesTheZoneByItsReading :
    (house .foh .stage).working = true
    ∧ (∀ z m y, m ≠ 0 → (withZone z (house .foh .stage)).zones[m]? = some y → y.enabled = false)
    ∧ (∀ z, (withZone z (house .foh .stage)).zones[0]? = some z)
    ∧ classOf (false, false) = .clear ∧ classOf (true, false) = .active ∧ classOf (false, true) = .openCircuit
    ∧ classOf (true, true) = .short
    ∧ (nextReading .clear (detector .quiet none) = none ∧ (detector .quiet none).timer = none)
    ∧ nextReading .active (reads .active (detector .quiet none)) = some .active
    ∧ nextReading .openCircuit (reads .openCircuit (detector .quiet none)) = some .openCircuit
    ∧ nextReading .short (reads .short (detector .quiet none)) = some .short
    ∧ nextReading .clear (reads .clear (detector .fault none)) = some .clear
    ∧ (detector .isolated none).state = .isolated ∧ (detector .alarm none).state = .alarm
    ∧ nextReading .clear (reads .clear (detector .preAlarm (some 1))) = some .clear
    ∧ nextReading .clear (reads .clear (detector .investigating (some 2))) = some .clear
    ∧ (∀ c ∈ [Reading.clear, .active, .openCircuit, .short], ∀ st ∈ [ZoneState.quiet, .fault, .alarm, .preAlarm, .investigating],
        nextReading c (reads c (detector st none)) = some c)
    ∧ 0 < (detector .fault none).threshold ∧ (detector .quiet none).faultScore ≤ (detector .quiet none).threshold :=
  ⟨by decide, fun z m y => others_disabled z _ m y, fun _ => rfl, by decide⟩

/-- The detector of withZone, in PRE_ALARM with T1 running, that still reads ACTIVE. -/
def smoking : ZoneRecord := { detector .preAlarm (some 7) with reading := some .active }

/-- The house after a RESET that found that detector so. -/
def afterReset : State := after (.commandReset 3 0) (withZone smoking (house .foh .stage))

/-- 01 R20: the T1 that a RESET has restarted does not expire, and the zone ends as with the expiry first. -/
theorem test_reset_then_expiry :
    (after (.t1Expiry 0) afterReset).zones[0]? = some { smoking with timer := some 300 }
    ∧ (after (.commandReset 3 0) (after (.t1Expiry 0) (withZone smoking (house .foh .stage)))).zones
        = (after (.t1Expiry 0) afterReset).zones := by decide

theorem test_witness_TimerExpiryTakesAlarm :
    (afterReset.working = true ∧ ∃ z, afterReset.zones[0]? = some z ∧ z.enabled = true ∧ z.timer.isSome = true
      ∧ z.state = .preAlarm ∧ z.restarted = true)
    ∧ (detector .preAlarm (some 1)).restarted = false ∧ (detector .investigating (some 1)).restarted = false
    ∧ (let s := withZone (detector .preAlarm (some 1)) (house .foh .stage)
     s.working = true ∧ s.zones[0]? = some (detector .preAlarm (some 1)))
    ∧ (let s := withZone (detector .investigating (some 1)) (house .foh .stage)
       s.working = true ∧ s.zones[0]? = some (detector .investigating (some 1))) :=
  ⟨⟨by decide, { smoking with timer := some 300, restarted := true }, by decide⟩, by decide⟩

theorem test_witness_ZoneCommandFrames :
    (∀ z, HearsPeer 3 (withZone z (house .foh .stage)) ∧ roleOf 3 (withZone z (house .foh .stage)) = some .stage
      ∧ (withZone z (house .foh .stage)).zones[0]? = some z)
    ∧ (house .foh .stage).cfg.station = 12 ∧ (detector .preAlarm (some 1)).enabled = true
    ∧ (detector .preAlarm (some 1)).state = .preAlarm ∧ (detector .alarm none).state = .alarm
    ∧ (detector .isolated none).state = .isolated ∧ (detector .fault none).state = .fault :=
  ⟨fun _ => ⟨hears_of (show HeardLately 3 (house .foh .stage) by decide), rfl, rfl⟩, by decide⟩

theorem test_witness_ResetFrameGivesEachZoneItsOutcome :
    HearsPeer 3 (withZone (detector .alarm none) (house .foh .fire))
      ∧ PeerLaw (withZone (detector .alarm none) (house .foh .fire))
      ∧ roleOf 3 (withZone (detector .alarm none) (house .foh .fire)) = some .fire
      ∧ (detector .alarm none).enabled = true ∧ inActivity (detector .alarm none).state = true
      ∧ (detector .alarm none).reading ≠ some .active
      ∧ ({ detector .alarm none with reading := some .active, kind := .callPoint } : ZoneRecord).reading = some .active
      ∧ (detector .alarm none).kind = .detector ∧ ZoneRecord.reset.enabled = false
      ∧ ({ detector .alarm none with t1 := 0 } : ZoneRecord).t1 = 0 :=
  ⟨hears_of (by decide), by decide⟩

/-- The second pass of a RESET with a companion in the house, and without one. -/
theorem test_witness_CompanionAtReset :
    (let s : State := { house .foh .fire with
        peers := { PeerState.reset with table := [{ peer3 (some .fire) with zones := [⟨7, 15, .alarm⟩] }] } }
     s.concerns 0 = true ∧ CompanionAtReset s 0)
    ∧ ¬CompanionAtReset (withZone (detector .alarm none) (house .foh .fire)) 0 := by
  refine ⟨⟨by decide, .inr ⟨_, List.mem_singleton.2 rfl, by decide, _, List.mem_singleton.2 rfl, by decide⟩⟩, ?_⟩
  rintro (⟨m, y, hm, hy, he, -⟩ | ⟨e, he, -, y, hy, -⟩)
  · rw [others_disabled _ _ m y hm hy] at he
    cases he
  · cases List.mem_singleton.1 he
    cases hy

/-- The bytes of a frame from station 3 with one payload byte changed. -/
def damaged : List Byte := (Frame.bytes 0 ⟨3, .zone 0 0 .quiet⟩).set 2 1

theorem test_witness_LineErrorsAreCounted :
    judgeBytes damaged false = .checkError ∧ judgeBytes (Frame.bytes 0 ⟨3, .zone 0 0 .quiet⟩) true = .formError
    ∧ (let s := house .foh .stage
       s.working = true ∧ s.line.heldBeat = none ∧ min 15 (s.line.score + 1) < s.line.threshold)
    ∧ (let s : State := { house .foh .stage with line := { LineState.reset with score := 4, slot := some (.beat 7) } }
       s.line.slot = some (.beat 7) ∧ s.faults.lineDegraded = false ∧ s.line.threshold ≤ min 15 (s.line.score + 1))
    ∧ (let s : State := { house .foh .stage with
        line := { LineState.reset with score := 15, slot := some (.beat 7) }, faults := { noFaults with lineDegraded := true } }
       s.line.slot = some (.beat 7) ∧ s.faults.lineDegraded = true) := by decide +kernel

/-- The house with LINE_DEGRADED, at its fifteenth good frame. -/
def leaking (score : Nat) : State :=
  { house .foh .stage with
    condition := .fault, faults := { noFaults with lineDegraded := true }
    line := { LineState.reset with score := score, good := 15 } }

theorem test_witness_SixteenthGoodFrame :
    HearsPeer 3 { leaking 1 with line := { (leaking 1).line with good := 0 } }
    ∧ HearsPeer 3 { leaking 2 with line := { (leaking 2).line with good := 0 } }
    ∧ ConditionLaw (leaking 1) ∧ ConditionLaw (leaking 2) ∧ (leaking 2).line.good = 15
    ∧ (leaking 1).faults.lineDegraded = true ∧ (leaking 1).line.score = 1 ∧ 2 ≤ (leaking 2).line.score :=
  ⟨hears_of (by decide), hears_of (by decide), by decide⟩

theorem test_witness_SendSlotTakesAndReturnsFrames :
    (let s : State := { house .foh .stage with line := { LineState.reset with tx := [.beat 7, .zone 0 0 .alarm] } }
     s.phase = .active ∧ s.line.slot = none ∧ s.line.heldBeat = none ∧ s.line.tx = .beat 7 :: [.zone 0 0 .alarm])
    ∧ (house .foh .stage).line.tx = []
    ∧ (let s : State := { house .foh .stage with
        line := { LineState.reset with slot := some (.zone 1 0 .alarm), tx := [.zone 1 0 .fault] } }
       s.line.slot = some (.zone 1 0 .alarm) ∧ (Payload.zone 1 0 .alarm).isBeat = false
        ∧ ∃ g ∈ s.line.tx, sameSort g (.zone 1 0 .alarm) = true)
    ∧ (let s : State := { house .foh .stage with
        line := { LineState.reset with slot := some (.zone 1 0 .alarm), tx := List.replicate 8 (.command .reset 0) } }
       (∀ g ∈ s.line.tx, sameSort g (.zone 1 0 .alarm) = false) ∧ inClassOrder s.line.tx = true ∧ 8 ≤ s.line.tx.length)
    ∧ ([] : List Payload).length < 8 ∧ inClassOrder [] = true := by decide

/-- The house with a BEAT held aside. -/
def holdingBeat (tx : List Payload) : State :=
  { house .foh .stage with line := { LineState.reset with tx := tx, heldBeat := some 7 } }

theorem test_witness_HeldBeatReturns :
    (∀ tx, HearsPeer 3 { holdingBeat tx with line := { (holdingBeat tx).line with heldBeat := none } })
    ∧ (∀ tx ∈ [[], [.beat 8], List.replicate 8 (Payload.command .reset 0)],
        (holdingBeat tx).line.heldBeat = some 7 ∧ inClassOrder (holdingBeat tx).line.tx = true
          ∧ (holdingBeat tx).working = true ∧ min 15 ((holdingBeat tx).line.score + 1) < (holdingBeat tx).line.threshold) :=
  ⟨fun _ => hears_of (show HeardLately 3 (house .foh .stage) by decide), by decide⟩

theorem test_witness_SentFrameIsTakenBySender :
    (∀ f : Payload, ({ house .foh .stage with line := { LineState.reset with slot := some f } } : State).line.slot = some f)
    ∧ (house .foh .stage).cfg.role ≠ .curtain
    ∧ (let s : State := { house .foh .stage with mode := .standby }
       s.cfg.role = .foh ∧ s.mode = .standby ∧ Mode.inShow ≠ s.mode)
    ∧ (∀ st ∈ [CurtainState.up, .stopped, .jammed, .warnRaise, .raising, .down, .warnLower, .lowering, .dropping],
        (stage .stage st).cfg.role = .curtain ∧ (stage .stage st).cfg.station = 12 ∧ (stage .stage st).working = true
          ∧ ConditionLaw (stage .stage st) ∧ (stage .stage st).curtain.state = some st)
    ∧ (∀ m, Command.ack 8 ≠ .setMode m) ∧ (house .fire .stage).cfg.role = .fire
    ∧ (31 : Nat) ≠ (house .fire .stage).cfg.station
    ∧ (house .area .stage).cfg.role = .area ∧ (house .foh .stage).condition ≠ .alarm :=
  ⟨fun _ => rfl, by decide, by decide, by decide, nofun, by decide⟩

theorem test_witness_OwnNumberFrameSetsDuplicate :
    (let s := house .foh .stage
     s.working = true ∧ s.cfg.station = 12 ∧ s.line.heldBeat = none ∧ s.faults.duplicate = false ∧ s.line.good < 15
      ∧ s.line.score < s.line.threshold)
    ∧ (let s : State := { house .foh .stage with
        faults := { noFaults with duplicate := true, lineDegraded := true }
        line := { LineState.reset with good := 15, score := 2 } }
       s.faults.duplicate = true ∧ 15 ≤ s.line.good ∧ 1 < s.line.score)
    ∧ (let s : State := { house .foh .stage with line := { LineState.reset with slot := some (.zone 7 15 .alarm) } }
       s.line.slot = some (.zone 7 15 .alarm)) := by decide

theorem test_witness_FrameBytesDecodeToTheFrame :
    Frame.wellFormed ⟨1, .zone 7 15 .isolated⟩ = true
      ∧ Frame.wellFormed ⟨31, .status .curtain .test noFaults (some (.jammed, 65535)) [⟨7, 15, .fault⟩]⟩ = true
      ∧ Frame.wellFormed ⟨31, .call ⟨16, 15⟩ 7 .showCall 255 (.atBeat 255) (some ⟨65535, 255⟩)⟩ = true
      ∧ Frame.wellFormed ⟨31, .cue ⟨1, 15⟩ 65535 255 .nextBoundary⟩ = true
      ∧ Frame.wellFormed ⟨31, .command (.ack 8) 31⟩ = true := by decide

theorem test_witness_OneDamagedByteIsACheckError :
    Frame.wellFormed ⟨3, .zone 0 0 .quiet⟩ = true ∧ 6 < (Frame.bytes 0 ⟨3, .zone 0 0 .quiet⟩).length ∧ (6 : Nat) ≠ 1
      ∧ (Frame.bytes 0 ⟨3, .zone 0 0 .quiet⟩)[0]? ≠ some 4#8 := by decide +kernel

theorem test_witness_ZoneFrameUpdatesThePeer :
    HearsPeer 3 (house .foh .stage) ∧ PeerLaw (house .foh .stage) ∧ (house .foh .stage).concerns 15 = true
      ∧ (⟨7, 15, .alarm⟩ : PeerZone) ∉ (peer3 (some .stage)).zones :=
  ⟨hears_of (by decide), by decide⟩

theorem test_witness_StatusFrameReplacesTheEntry :
    HearsPeer 3 (house .foh .stage) ∧ PeerLaw (house .foh .stage)
      ∧ Frame.wellFormed ⟨3, .status .curtain .test noFaults (some (.up, 65535)) [⟨7, 15, .alarm⟩]⟩ = true
      ∧ Frame.wellFormed ⟨3, .status .stage .standby noFaults none []⟩ = true
      ∧ (∀ y ∈ ([] : List PeerZone), y ∈ (peer3 (some .stage)).zones)
      ∧ (house .foh .stage).concerns 15 = true ∧ (⟨7, 15, .alarm⟩ : PeerZone) ∉ (peer3 (some .stage)).zones
      ∧ (let s := withZone (detector .preAlarm (some 1)) (house .foh .stage)
         HearsPeer 3 s ∧ PeerLaw s ∧ escalates s (detector .preAlarm (some 1)) = true) :=
  ⟨hears_of (by decide), by decide, by decide, by decide, by decide, by decide, by decide, hears_of (by decide), by decide,
    by decide⟩

theorem test_witness_StateFrameGivesThePeersCurtain :
    HearsPeer 3 (house .foh .stage)
      ∧ (let s := house .foh .stage
         s.working = true ∧ 31 ≠ s.cfg.station ∧ s.line.heldBeat = none ∧ s.line.good < 15
          ∧ s.line.score < s.line.threshold ∧ s.faults.lineDegraded = false ∧ findPeer 31 s.peers.table = none)
      ∧ (∀ x ∈ [Liveness.late, .lost],
          let s : State := { house .foh .stage with
            config := some { desk .foh with required := [12, 3] }
            peers := { PeerState.reset with table := [{ peer3 (some .stage) with liveness := x }] } }
          s.working = true ∧ findPeer 3 s.peers.table = some { peer3 (some .stage) with liveness := x } ∧ x ≠ .present
            ∧ s.phase = .active ∧ 3 ∈ s.cfg.required
            ∧ ∀ n ∈ s.cfg.required, n = s.cfg.station ∨ n = 3 ∨ satisfied s.peers.table n = true) :=
  ⟨hears_of (by decide), by decide⟩

/-- The house with its peer in a given liveness. -/
def fading (x : Liveness) (required : List Nat) : State :=
  { house .foh .stage with
    config := some { desk .foh with required := required }
    peers := { PeerState.reset with table := [{ peer3 (some .stage) with liveness := x }] } }

theorem test_witness_LivenessFallsAtItsThreshold :
    (∀ x ∈ [Liveness.present, .late, .lost],
      (fading x []).working = true
        ∧ findPeer 3 (fading x []).peers.table = some { peer3 (some .stage) with liveness := x }
        ∧ 1 ≤ (fading x []).cfg.statusInterval ∧ 3 ∉ (fading x []).cfg.required)
    ∧ (3 ≠ (fading .late [3]).cfg.station ∧ 3 ∈ (fading .late [3]).cfg.required ∧ (fading .late [3]).phase = .active) := by
  decide

theorem test_witness_AloneLowersTheCurtain :
    (∀ st ∈ [CurtainState.up, .stopped, .jammed, .warnRaise, .raising, .down, .warnLower, .lowering, .dropping],
      (stage .stage st).phase = .active ∧ (stage .stage st).cfg.solo = false ∧ (stage .stage st).faults.alone = false
        ∧ ConditionLaw (stage .stage st) ∧ (stage .stage st).curtain.state = some st)
    ∧ (house .foh .stage).curtain.state = none ∧ ConditionLaw (house .foh .stage) := by decide

theorem test_witness_StatusIntervalOffersStatus :
    (house .foh .stage).phase = .active ∧ (house .foh .stage).line.tx.length < 8
    ∧ (∃ g ∈ [ownStatus (house .foh .stage)], g.cls = 6)
    ∧ (∀ g ∈ List.replicate 8 (Payload.command .reset 0), g.cls ≠ 6)
    ∧ 8 ≤ (List.replicate 8 (Payload.command .reset 0)).length := by decide

theorem test_witness_BeatExpiryAdvancesTheBeat :
    (let s := house .foh .stage
     s.working = true ∧ s.beat.running = true ∧ s.phase = .active ∧ s.beat.sync ≠ .monitor ∧ s.curtain.state = none
      ∧ s.line.tx.length ≤ 6 ∧ s.beat.overtaken = false)
    ∧ (let s : State := { house .foh .stage with phase := .listen }
       s.working = true ∧ s.beat.running = true ∧ s.phase = .listen) := by decide

/-- The house with its beat timer at a position, in MONITOR. -/
def monitoring (lock : LockState) (position run : Nat) : State :=
  { house .foh .stage with
    beat := { BeatState.reset with running := true, sync := .monitor, lock := lock, position := position, run := run } }

/-- The condition of MonitorMeasuresTheBeat on a BEAT of the held number. -/
abbrev near (s : State) : Prop :=
  (if s.beat.position ≤ s.beat.period / 2 then (s.beat.position : Int) else s.beat.position - s.beat.period).natAbs
    ≤ s.beat.window

theorem test_witness_MonitorMeasuresTheBeat :
    HearsPeer 3 (monitoring .seeking 20 2) ∧ HearsPeer 3 (monitoring .seeking 230 3) ∧ HearsPeer 3 (monitoring .seeking 21 3)
      ∧ HearsPeer 3 (monitoring .locked 0 0) ∧ HearsPeer 3 (monitoring .locked 125 0)
      ∧ near (monitoring .seeking 20 2) ∧ near (monitoring .seeking 230 3) ∧ ¬near (monitoring .seeking 21 3)
      ∧ near (monitoring .locked 0 0) ∧ ¬near (monitoring .locked 125 0) :=
  ⟨hears_of (by decide), hears_of (by decide), hears_of (by decide), hears_of (by decide), hears_of (by decide), by decide⟩

theorem test_witness_TrackFollowsTheBeat :
    HearsPeer 3 (house .foh .stage) ∧ (house .foh .stage).beat.sync ≠ .monitor ∧ (house .foh .stage).beat.number = 0 :=
  ⟨hears_of (by decide), by decide⟩

/-- A channel fading from 1000 to 0, at a step of 10. -/
def fadingChannel (elapsed : Nat) : Channel :=
  { Channel.reset with
    enabled := true, level := 1000 - 100 * elapsed
    active := some { cue := 0, start := 1000, target := 0, duration := 10, elapsed := elapsed } }

/-- No fade of the channel is at its end, in a form that can be decided. -/
abbrev runs (c : Channel) : Prop := c.active.all (fun f => decide (f.elapsed < f.duration)) = true

theorem running_of {c : Channel} (h : runs c) : c.running := by
  intro f hf
  simpa [runs, hf] using h

theorem test_witness_FadesStepAndComplete :
    (let s := withChannel (fadingChannel 9) (house .foh .stage)
     s.working = true ∧ LightLaw s ∧ s.beat.running = true ∧ s.beat.stepIndex < 9)
    ∧ (let s : State := { house .foh .stage with beat := { BeatState.reset with running := true, stepIndex := 9 } }
       s.working = true ∧ LightLaw s ∧ 9 ≤ s.beat.stepIndex)
    ∧ (let s := withChannel (fadingChannel 9) (house .foh .stage)
       s.lights.channels[0]? = some (fadingChannel 9) ∧ s.lights.channels[7]? = some Channel.reset)
    ∧ (∀ y ∈ (withChannel (fadingChannel 9) (house .foh .stage)).lights.channels, y.running) :=
  ⟨by decide, by decide, by decide,
    fun y hy => running_of ((by decide : ∀ y ∈ (withChannel (fadingChannel 9) (house .foh .stage)).lights.channels, runs y) y hy)⟩

theorem test_witness_FadeLevelNeverOvershoots : (0 < 1 ∧ 0 ≤ 1 ∧ 1 ≤ 1) ∧ (0 < 2400 ∧ 2400 ≤ 2400) := by decide

theorem test_witness_CurtainRecordAfterEachChange :
    (stage .stage .raising).curtain.state = some .raising ∧ (stage .stage .lowering).curtain.state = some .lowering
      ∧ (stage .stage .down).curtain.state ≠ some .raising ∧ (stage .stage .warnRaise).curtain.state = some .warnRaise
      ∧ (stage .stage .up).curtain.known = true ∧ CurtainRecord.reset.known = false := by decide

/-- What the statements about curtain requests ask beside the hearing. -/
abbrev CurtainReady (s : State) : Prop := s.cfg.role = .curtain ∧ s.cfg.station ≤ 31 ∧ ConditionLaw s

theorem test_witness_LowerFrameStartsTheLowering :
    (∀ st, HearsPeer 3 (stage .area st))
    ∧ (∀ st ∈ [CurtainState.up, .stopped, .jammed, .warnRaise, .raising, .down, .warnLower, .lowering, .dropping],
        CurtainReady (stage .area st) ∧ (stage .area st).curtain.state = some st)
    ∧ loweringTarget (stage .area .up) = .warnLower ∧ (stage .area .up).boundaryUnderway = false
    ∧ (stage .area .up).calls.queue.length < 16 :=
  ⟨fun st => hears_of (by cases st <;> decide), by decide⟩

theorem test_witness_DropAndStopFrames :
    (∀ st, HearsPeer 3 (stage .stage st)) ∧ (∀ st, HearsPeer 3 (stage .fire st)) ∧ (∀ st, HearsPeer 3 (stage .curtain st))
      ∧ (∀ st ∈ [CurtainState.up, .stopped, .jammed, .warnRaise, .raising, .down, .warnLower, .lowering, .dropping],
          CurtainReady (stage .stage st) ∧ roleOf 3 (stage .stage st) = some .stage
            ∧ roleOf 3 (stage .fire st) = some .fire ∧ roleOf 3 (stage .curtain st) = some .curtain) :=
  ⟨fun st => hears_of (by cases st <;> decide), fun st => hears_of (by cases st <;> decide),
    fun st => hears_of (by cases st <;> decide), by decide⟩

/-- The curtain station with an ALARM or a PRE_ALARM of the peer's. -/
def stageUnder (z : ZoneState) (c : Condition) : State :=
  { stage .stage .down with
    condition := c
    peers := { PeerState.reset with table := [{ peer3 (some .stage) with zones := [⟨7, 15, z⟩] }] } }

theorem test_witness_RaiseHoldFrameRaisesOrIsRefused :
    (∀ st, HearsPeer 3 (stage .stage st))
    ∧ (∀ st ∈ [CurtainState.up, .warnLower, .lowering, .dropping, .jammed, .down, .stopped, .warnRaise, .raising],
        CurtainReady (stage .stage st) ∧ roleOf 3 (stage .stage st) = some .stage)
    ∧ (let s : State := { stage .stage .raising with
        curtain := { (stage .stage .raising).curtain with hold := some ⟨1, .stopped⟩ } }
       CurtainReady s ∧ s.curtain.hold = some ⟨1, .stopped⟩)
    ∧ CurtainReady { stage .stage .down with phase := .listen }
    ∧ CurtainReady { stage .stage .down with curtain := { (stage .stage .down).curtain with known := false } }
    ∧ CurtainReady (stageUnder .alarm .alarm) ∧ CurtainReady (stageUnder .preAlarm .preAlarm)
    ∧ (let s : State := { stage .stage .down with condition := .fault, faults := { noFaults with curtain := true } }
       CurtainReady s ∧ s.faults.curtain = true)
    ∧ CurtainReady { stage .stage .stopped with pins := ⟨false, false, false⟩ }
    ∧ (let s := stage .stage .stopped
       s.phase = .active ∧ s.curtain.known = true ∧ s.condition = .quiet ∧ s.faults.any = false
        ∧ s.pins.driveReady = true ∧ s.boundaryUnderway = false ∧ s.calls.queue.length < 16) :=
  ⟨fun st => hears_of (by cases st <;> decide), by decide⟩

theorem test_witness_CurtainRequestsNotPermitted :
    HearsPeer 3 (house .foh .stage) ∧ HearsPeer 3 (stage .stage .up) ∧ HearsPeer 3 (stage .fire .up)
      ∧ HearsPeer 3 (stage .area .up) ∧ HearsPeer 3 (houseOf .curtain none)
      ∧ (house .foh .stage).cfg.role ≠ .curtain ∧ (31 : Nat) ≠ (stage .stage .up).cfg.station
      ∧ (stage .fire .up).cfg.station = 12 ∧ roleOf 3 (stage .fire .up) ≠ some .stage
      ∧ roleOf 3 (stage .area .up) ≠ some .fire ∧ roleOf 3 (stage .area .up) ≠ some .curtain
      ∧ roleOf 3 (houseOf .curtain none) = none :=
  ⟨hears_of (by decide), hears_of (by decide), hears_of (by decide), hears_of (by decide), hears_of (by decide), by decide⟩

/-- What the statements about the curtain inputs ask. -/
abbrev CurtainAt (st : CurtainState) (s : State) : Prop :=
  s.working = true ∧ s.curtain.state = some st ∧ ConditionLaw s

theorem test_witness_BottomLimitTakesDown :
    CurtainAt .down (stage .stage .down) ∧ CurtainAt .raising (stage .stage .raising) := by decide

theorem test_witness_TopLimitAndEncoderReachTheTop :
    CurtainAt .up (stage .stage .up) ∧ CurtainAt .stopped (stage .stage .stopped)
    ∧ (let s : State := { stage .stage .raising with curtain := { (stage .stage .raising).curtain with pos := 999 } }
       CurtainAt .raising s ∧ s.curtain.known = true ∧ s.curtain.pos < s.cfg.pTop
        ∧ s.cfg.pTop ≤ min 65535 (s.curtain.pos + 1)) := by decide

/-- The curtain station with a drive handshake. -/
def driving (st : CurtainState) (h : Handshake) : State :=
  { stage .stage st with curtain := { (stage .stage st).curtain with handshake := h } }

theorem test_witness_DriveHandshakeIsJudged :
    (∀ h ∈ [Handshake.start 18, .start 19, .running], CurtainAt .raising (driving .raising h)
      ∧ (driving .raising h).curtain.handshake = h ∧ (driving .raising h).curtain.descent = none
      ∧ ∀ z ∈ (driving .raising h).zones, z.enabled = false)
    ∧ (∀ h ∈ [Handshake.stop 18, .stop 19], CurtainAt .up (driving .up h) ∧ (driving .up h).curtain.handshake = h)
    ∧ (18 + 1 < (driving .up .idle).cfg.startTimeout) ∧ (driving .up .idle).cfg.startTimeout ≤ 19 + 1 := by decide

/-- The curtain station with a raise hold. -/
def holding (st back : CurtainState) : State :=
  { stage .stage st with curtain := { (stage .stage st).curtain with hold := some ⟨1, back⟩ } }

theorem test_witness_HoldLapseAndDriveLoss :
    CurtainAt .warnRaise (holding .warnRaise .down) ∧ CurtainAt .warnRaise (holding .warnRaise .stopped)
      ∧ CurtainAt .raising (holding .raising .down) ∧ (holding .raising .down).curtain.hold = some ⟨1, .down⟩
      ∧ (stage .stage .up).curtain.hold = none
      ∧ (∀ st ∈ [CurtainState.raising, .lowering, .warnLower, .down, .up, .stopped, .dropping, .jammed],
          CurtainAt st (stage .stage st) ∧ (stage .stage st).curtain.stalledNow = false) := by decide

/-- A lowering at the sample whose judgement finds it stalled, its drive still running. -/
def snagged : State :=
  { stage .stage .lowering with
    curtain := { (stage .stage .lowering).curtain with
      handshake := .running
      descent := some { t := 40, kind := .position, readings := [500], stallCount := 9, lateReported := false } } }

theorem test_witness_DriveLostAtTheMomentOfAStall :
    (∀ c ∈ [Instr.sampleEvent ⟨List.replicate 8 (false, false), true, false⟩, .descentStalled],
      CurtainAt .jammed (after c snagged) ∧ (after c snagged).curtain.stalledNow = true
        ∧ (after c snagged).pins.bottomLimit = false) := by decide

/-- 07 R124, DRIVE_READY lost after the judgement: a stall gives JAMMED, and the loss DROPPING, timed afresh. -/
theorem test_drive_lost_after_stall :
    (let t := after (.driveReadyLost false) (after .descentStalled snagged)
     t.curtain.state = some .dropping ∧ t.curtain.descent.map (fun d => d.t) = some 0 ∧ t.faults.curtain = true) := by decide

/-- 06 R110: a curtain jammed before stays jammed when the drive drops out. -/
theorem test_drive_lost_in_jammed : (after (.driveReadyLost false) (stage .stage .jammed)).curtain.state = some .jammed := by
  decide

/-- The curtain station in a descent with its handshake and record. -/
def descending (st : CurtainState) (h : Handshake) (d : Descent) : State :=
  { stage .stage st with curtain := { (stage .stage st).curtain with handshake := h, descent := some d } }

/-- A descent record at sample t whose list holds one reading, the present one (500) raised by `above`. -/
def descent (t above stall : Nat) (late : Bool) : Descent :=
  { t := t, kind := .position, readings := [500 + above], stallCount := stall, lateReported := late }

/-- The handshakes that HandshakeLaw gives the two states: a lowering RUNNING or in START, a drop with none. -/
theorem test_witness_DescentIsSupervised :
    (∀ p ∈ [(CurtainState.lowering, Handshake.running), (.lowering, .start 18), (.lowering, .start 19), (.dropping, .idle)],
      ∀ d ∈ [descent 0 0 8 false, descent 0 0 9 false, descent 0 0 10 false, descent 0 1 0 false, descent 299 500 0 false,
        descent 299 500 0 true, { descent 0 0 0 false with kind := .movement, readings := [1] }],
      CurtainAt p.1 (descending p.1 p.2 d) ∧ HandshakeLaw (descending p.1 p.2 d) ∧ DescentLaw (descending p.1 p.2 d)
        ∧ (∀ z ∈ (descending p.1 p.2 d).zones, z.enabled = false)
        ∧ (descending p.1 p.2 d).curtain.handshake = p.2 ∧ (descending p.1 p.2 d).curtain.descent = some d
        ∧ (descending p.1 p.2 d).cfg.stallLimit = 10 ∧ (descending p.1 p.2 d).cfg.descentLimit = 300
        ∧ (descending p.1 p.2 d).cfg.startTimeout = 20) := by decide

/-- A channel of area 0, enabled. -/
def lamp : Channel := { Channel.reset with enabled := true }

theorem test_witness_CueFrameStartsOrStages :
    (∀ l n, HearsPeer 3 { withChannel lamp (house .foh .stage) with
      beat := { BeatState.reset with running := true, lock := l, number := n } })
    ∧ (∀ c ∈ (withChannel lamp (house .foh .stage)).lights.channels, c.running)
    ∧ AreaBlock.named ⟨1, 0⟩ = true ∧ AreaBlock.named ⟨16, 15⟩ = true
    ∧ (∀ c ∈ (house .foh .stage).lights.channels, (c.enabled && AreaBlock.contains ⟨16, 0⟩ c.area) = false)
    ∧ (∃ c ∈ (withChannel lamp (house .foh .stage)).lights.channels, (c.enabled && AreaBlock.contains ⟨1, 0⟩ c.area) = true)
    ∧ (0x80#8 - 0x00#8).toNat = 128 ∧ (0x7F#8 - 0x00#8).toNat = 127 ∧ (0x01#8 - 0x00#8).toNat = 1
    ∧ (0x05#8 - 0x05#8).toNat = 0 :=
  ⟨fun _ _ => hears_of (show HeardLately 3 (house .foh .stage) by decide),
    fun y hy => running_of ((by decide : ∀ y ∈ (withChannel lamp (house .foh .stage)).lights.channels, runs y) y hy),
    by decide⟩

theorem test_witness_DimmerTransferAndMaster :
    (house .foh .stage).lights.sending = none ∧ (house .foh .stage).resetHeld = false
    ∧ (State.reset.lights.sending = some (List.replicate 8 255) ∧ State.reset.lights.pendingTransfer = false)
    ∧ (let s : State := { State.reset with lights := { LightState.reset with pendingTransfer := true } }
       s.resetHeld = false ∧ s.lights.sending = some (List.replicate 8 255) ∧ s.lights.pendingTransfer = true)
    ∧ (List.replicate 8 255)[7]? = some 255
    ∧ PanelFree (house .foh .stage) ∧ (house .foh .stage).working = true := by
  unfold PanelFree
  decide

theorem test_witness_CallFrameIsJudgedInOrder :
    (∀ m c q, HearsPeer 3 { house .foh .stage with mode := m, condition := c, calls := q })
    ∧ AreaBlock.named ⟨16, 15⟩ = true ∧ CallClass.routine ≠ .safety
    ∧ AreaBlock.intersects ⟨1, 15⟩ (house .foh .stage).cfg.served = true
    ∧ AreaBlock.intersects ⟨1, 15⟩ ⟨4, 4⟩ = false
    ∧ (house .foh .stage).condition ≠ .alarm ∧ (house .foh .stage).mode ≠ .standby
    ∧ (house .foh .stage).calls.cadence = .idle ∧ (house .foh .stage).calls.queue = []
    ∧ (house .foh .stage).calls.pause = false
    ∧ (let s := ringing (bell .routine 16) ⟨0, .on, 0⟩ (house .foh .stage)
       s.calls.cadence = .playing ∧ callOrder s.calls.queue = true
        ∧ s.calls.queue.find? (fun y => y.key == ⟨0, ⟨16, 0⟩, .routine⟩) = some (bell .routine 16)
        ∧ s.calls.queue.find? (fun y => y.key == ⟨7, ⟨16, 0⟩, .showCall⟩) = none)
    ∧ 16 ≤ (List.replicate 16 (bell .showCall 1)).length
    ∧ (∀ e ∈ List.replicate 16 (bell .showCall 1), e.playing = true ∨ CallClass.showCall.code ≤ e.key.cls.code) :=
  ⟨fun _ _ _ => hears_of (show HeardLately 3 (house .foh .stage) by decide), by decide⟩

/-- A full queue: one SHOW entry, which plays, ahead of fifteen ROUTINE entries with their own keys. -/
def crowded : List CallEntry :=
  { bell .showCall 2 with playing := true } ::
    (List.range 15).map (fun i => { bell .routine 1 with playing := false, key := ⟨i % 8, ⟨8 * (1 + i / 8), 0⟩, .routine⟩ })

theorem test_witness_CallEvictsTheYoungest :
    (let s : State := { house .foh .stage with
        calls := { CallState.reset with
          queue := crowded, cadence := .playing, chosen := some (bell .showCall 2).key, position := some ⟨0, .on, 0⟩ } }
     let v : CallEntry := { bell .routine 1 with playing := false, key := ⟨6, ⟨16, 0⟩, .routine⟩ }
     s.calls.cadence = .playing ∧ s.calls.queue = crowded.dropLast ++ v :: [] ∧ 16 ≤ s.calls.queue.length
      ∧ callOrder s.calls.queue = true ∧ s.calls.chosen ≠ some v.key ∧ v.key.cls.code < CallClass.showCall.code
      ∧ s.calls.queue.find? (fun y => y.key == ⟨7, ⟨16, 0⟩, .showCall⟩) = none
      ∧ ∀ e ∈ crowded.dropLast, e.key ≠ v.key ∧ (e.playing = true ∨ v.key.cls.code ≤ e.key.cls.code)) := by decide

theorem test_witness_CadenceRunsItsPattern :
    (∀ x ∈ [RepPosition.mk 0 .on 500, ⟨1, .off, 2000⟩, ⟨2, .off, 3000⟩],
      (ringing (bell .routine 1) x (house .foh .stage)).working = true
        ∧ (ringing (bell .routine 1) x (house .foh .stage)).calls.position = some x
        ∧ (ringing (bell .routine 1) x (house .foh .stage)).calls.chosen = some (bell .routine 1).key)
    ∧ (let p := (house .foh .stage).pattern 0
       1 + 1 < p.cycles ∧ p.cycles ≤ 2 + 1 ∧ 0 < p.gap)
    ∧ (ringing (bell .routine 2) ⟨2, .gap, 5000⟩ (house .foh .stage)).calls.queue.find?
        (fun y => y.key == (bell .routine 2).key) = some (bell .routine 2)
    ∧ (bell .routine 2).key.cls ≠ .safety ∧ (bell .routine 1).repeats = 1
    ∧ (house .foh .stage).calls.cadence ≠ .playing ∧ (house .foh .stage).calls.evacPos = none := by decide

theorem test_witness_WarningDoneStartsTheDrive :
    (let s := ringing (bell .safety 1) ⟨2, .gap, 5000⟩ (stage .stage .warnLower)
     CurtainAt .warnLower s ∧ s.calls.cadence = .playing ∧ s.calls.chosen = some (bell .safety 1).key
      ∧ (bell .safety 1).key.cls = .safety ∧ s.pins.driveReady = true)
    ∧ (let s := ringing (bell .safety 1) ⟨2, .gap, 5000⟩ (holding .warnRaise .down)
       CurtainAt .warnRaise s ∧ s.calls.cadence = .playing ∧ s.curtain.hold.isSome = true) := by decide

theorem test_witness_SilenceAndModeFrames :
    (∀ own peer m c q, HearsPeer 3 { houseOf own peer with mode := m, condition := c, calls := q })
    ∧ (∀ peer : Role, roleOf 3 (house .foh peer) = some peer) ∧ roleOf 3 (houseOf .foh none) = none
    ∧ (31 : Nat) ≠ (house .foh .stage).cfg.station ∧ (house .foh .stage).cfg.station = 12
    ∧ (∀ c ∈ [Command.ack 8, .reset, .silence, .isolate 7, .restore 7, .setMode .test], c.zoneOk = true)
    ∧ (house .foh .stage).condition ≠ .alarm ∧ (house .foh .stage).calls.silence = false
    ∧ Mode.inShow = (house .foh .stage).mode ∧ Mode.standby ≠ (house .foh .stage).mode
    ∧ Mode.rehearsal ≠ (house .foh .stage).mode :=
  ⟨fun own peer _ _ _ => hears_of (show HeardLately 3 (houseOf own peer) by
      cases own <;> exact (by decide : HeardLately 3 (house .foh .stage))),
    fun _ => rfl, by decide⟩

theorem test_witness_AlarmTakesTheHouse :
    (let s := withZone (detector .preAlarm (some 1)) (stage .stage .up)
     s.working = true ∧ s.condition ≠ .alarm ∧ s.zones[0]? = some (detector .preAlarm (some 1))
      ∧ s.concerns (detector .preAlarm (some 1)).area = true ∧ (detector .preAlarm (some 1)).restarted = false)
    ∧ (let s : State := withZone (detector .preAlarm (some 1)) { house .foh .stage with phase := .listen }
       s.working = true ∧ s.phase = .listen ∧ s.curtain.state = none) := by decide

/-- The house under a peer's zone, its condition with it. -/
def houseUnder (z : ZoneState) (c : Condition) : State :=
  { house .foh .stage with
    condition := c
    peers := { PeerState.reset with table := [{ peer3 (some .stage) with zones := [⟨7, 15, z⟩] }] } }

theorem test_witness_ConditionChangesByAZoneFrame :
    HearsPeer 3 (houseUnder .alarm .alarm) ∧ HearsPeer 3 (houseUnder .preAlarm .preAlarm) ∧ HearsPeer 3 (house .foh .stage)
    ∧ PeerLaw (houseUnder .alarm .alarm) ∧ ConditionLaw (houseUnder .alarm .alarm)
    ∧ PeerLaw (houseUnder .preAlarm .preAlarm) ∧ ConditionLaw (houseUnder .preAlarm .preAlarm)
    ∧ ConditionLaw (house .foh .stage) ∧ (house .foh .stage).calls.cadence = .idle ∧ (house .foh .stage).calls.queue = []
    ∧ (after (.zoneFrame 3 7 15 .quiet) (houseUnder .alarm .alarm)).condition = .quiet
    ∧ (after (.zoneFrame 3 7 15 .quiet) (houseUnder .preAlarm .preAlarm)).condition = .quiet
    ∧ (after (.zoneFrame 3 7 15 .preAlarm) (house .foh .stage)).condition = .preAlarm :=
  ⟨hears_of (by decide), hears_of (by decide), hears_of (by decide), by decide⟩

/-- The state with a panel. -/
def withPanel (link : Link) (reports lost : Nat) : State :=
  { house .foh .stage with
    panel := { PanelState.reset with
      link := link, lost := lost, reports := List.replicate reports ⟨0, .duplicateStation⟩ } }

theorem test_witness_TransferSendsOneRecord :
    (withPanel .idle 0 0).resetHeld = false ∧ (withPanel .idle 0 0).panel.link = .idle
      ∧ (withPanel .void 0 0).panel.link ≠ .idle
      ∧ (withPanel (.sending .holder []) 0 0).panel.link = .sending .holder []
      ∧ (withPanel (.sending .empty []) 0 0).panel.link = .sending .empty []
      ∧ (withPanel (.sending .report []) 31 0).panel.reports = ⟨0, .duplicateStation⟩ :: List.replicate 30 ⟨0, .duplicateStation⟩
      ∧ (List.replicate 30 (0 : Nat)).length < 31
      ∧ (withPanel (.sending .report []) 32 255).panel.reports
          = ⟨0, .duplicateStation⟩ :: List.replicate 31 ⟨0, .duplicateStation⟩
      ∧ 0 < (withPanel (.sending .report []) 32 255).panel.lost
      ∧ (withPanel (.sending .report [5]) 0 0).panel.link = .sending .report [5] ∧ [(5 : Byte)][0]? = some 5
      ∧ (withPanel .void 0 0).panel.link = .void
      ∧ ({ withPanel .idle 0 0 with resetHeld := true } : State).resetHeld = true
      ∧ (∀ k ≤ 21, ((([byte k] : List Byte).getD 0 0).toNat = k)) := by decide

theorem test_witness_ReadsAnswerWithACopy :
    PanelFree (house .foh .stage) ∧ PanelFree (withPanel (.sending .report []) 1 0)
      ∧ (house .foh .stage).zones[7]? = some ZoneRecord.reset ∧ (house .foh .stage).lights.channels[7]? = some Channel.reset
      ∧ (stage .stage .up).curtain.state.isSome = true ∧ (house .foh .stage).curtain.state = none := by
  unfold PanelFree
  decide

theorem test_witness_FrameRequestsAreJudgedInOrder :
    (∀ p m c l, PanelFree { house .stage .curtain with phase := p, mode := m, condition := c, line := l })
    ∧ Start.ofCodes 2 255 = some (.atBeat 255) ∧ Start.ofCodes 3 0 = none ∧ Start.ofCodes 0 0 = some .now
    ∧ AreaBlock.named ⟨16, 15⟩ = true ∧ AreaBlock.named ⟨3, 0⟩ = false ∧ CallClass.ofCode 2 = some .showCall
    ∧ (let s := house .stage .curtain
       inClassOrder s.line.tx = true ∧ s.line.tx.length < 8 ∧ s.cfg.role = .stage
        ∧ satisfied s.peers.table 3 = true ∧ satisfied s.peers.table 31 = false)
    ∧ (∀ g ∈ (house .stage .curtain).line.tx, ∀ y, g ≠ .curtain .raiseHold y)
    ∧ (house .fire .stage).cfg.role ≠ .stage ∧ 8 ≤ (List.replicate 8 (Payload.command .reset 0)).length
    ∧ (∃ g ∈ [Payload.curtain .raiseHold 3], ∃ y, g = .curtain .raiseHold y)
    ∧ ((house .area .stage).cfg.role ≠ .stage ∧ (house .area .stage).cfg.role ≠ .fire
        ∧ (house .area .stage).cfg.role ≠ .curtain)
    ∧ CallClass.ofCode 0 = none ∧ CallClass.ofCode 3 = none :=
  ⟨fun _ _ _ _ => ⟨nofun, rfl⟩, by decide, by decide, by decide, by decide, by decide, by decide, by decide,
    fun g hg => (by cases hg), by decide, by decide, ⟨_, List.mem_singleton.2 rfl, 3, rfl⟩, by decide⟩

theorem test_witness_CommandRequestsSendTheirFrame :
    PanelFree (house .fire .stage) ∧ PanelFree (house .stage .fire)
      ∧ (let s := house .fire .stage
         s.phase = .active ∧ inClassOrder s.line.tx = true ∧ s.line.tx.length < 8 ∧ s.cfg.role = .fire
          ∧ 31 ≠ s.cfg.station ∧ s.working = true)
      ∧ (house .stage .fire).cfg.role = .stage ∧ (house .stage .fire).cfg.station = 12
      ∧ (house .stage .fire).condition ≠ .alarm ∧ (house .curtain .fire).cfg.role = .curtain
      ∧ (∀ p c l, PanelFree { house .stage .fire with phase := p, condition := c, line := l })
      ∧ (∀ p ∈ [Phase.active, .listen], ({ house .stage .fire with phase := p } : State).working = true) :=
  ⟨⟨nofun, rfl⟩, ⟨nofun, rfl⟩, by decide, by decide, by decide, by decide, by decide, fun _ _ _ => ⟨nofun, rfl⟩, by decide⟩

theorem test_witness_LocalCommandsActAtOnce :
    (∀ z, PanelFree (withZone z (house .fire .stage)))
    ∧ (∀ st ∈ [ZoneState.quiet, .preAlarm, .investigating, .alarm, .fault, .isolated],
        (let s := withZone (detector st none) (house .fire .stage)
         PeerLaw s ∧ s.working = true ∧ s.cfg.role = .fire ∧ s.cfg.station ≤ 31 ∧ s.zones[0]? = some (detector st none)
          ∧ (detector st none).enabled = true ∧ (detector st none).reading ≠ some .active))
    ∧ (∀ z m y, m ≠ 0 → (withZone z (house .fire .stage)).zones[m]? = some y → y.enabled = true → y.state ≠ .preAlarm) :=
  ⟨fun _ => ⟨nofun, rfl⟩, by decide, fun z m y hm hy he => by
    rw [others_disabled z _ m y hm hy] at he
    cases he⟩

theorem house_laws : DeviceLaws (house .foh .stage) := by
  repeat' apply And.intro
  all_goals decide

/-- The house with its call queue in a given state. -/
def queued (cadence : Cadence) (chosen : Option CallKey) (wait : Option Wait) (lock : LockState) (start : Start) : State :=
  { house .foh .stage with
    beat := { BeatState.reset with running := true, lock := lock }
    calls := { CallState.reset with
      queue := [{ bell .routine 1 with start := start, started := false, playing := false }]
      cadence := cadence, chosen := chosen, wait := wait } }

/-- R152, R153: a boundary finds an entry that starts, one for a beat ahead, and a wait that is due or is not. -/
theorem test_witness_BoundaryAtTheCallUnit :
    DeviceLaws (queued .idle none none .locked (.atBeat 1)) ∧ DeviceLaws (queued .resting none none .seeking (.atBeat 9))
      ∧ DeviceLaws (queued .waitingStart (some (bell .routine 1).key) (some (.beat 2)) .locked (.atBeat 2))
      ∧ DeviceLaws (queued .waitingStart (some (bell .routine 1).key) (some .next) .locked .nextBoundary)
      ∧ dueAt (0 + 1) (.beat 1) ∧ ¬dueAt (0 + 1) (.beat 9) ∧ ¬dueAt (0 + 1) (.beat 2) ∧ dueAt (0 + 1) .next
      ∧ (queued .idle none none .locked (.atBeat 1)).curtain.state = none := by
  unfold dueAt
  repeat' apply And.intro
  all_goals decide

/-- The house with a staged fade and its cue. -/
def staging (w : Wait) (duration : Nat) : State :=
  let s := withChannel { Channel.reset with staged := some { cue := 0, target := 300, duration := duration, wait := w } }
    (house .foh .stage)
  { s with
    lights := { s.lights with
      cues := [{ key := 0, serial := 0, source := .line, origin := .station 3, block := ⟨16, 0⟩, level := 300
                 duration := duration / 10, start := .nextBoundary }]
      nextKey := 1 } }

/-- R133: a boundary finds a staged fade that is due, with and without duration, and one that waits on. -/
theorem test_witness_BoundaryAtTheFader :
    DeviceLaws (staging .next 10) ∧ DeviceLaws (staging .next 0) ∧ DeviceLaws (staging (.beat 9) 10)
      ∧ (staging .next 10).calls.queue = [] := by
  repeat' apply And.intro
  all_goals decide

/-- A solo curtain station in a raise, its hold with `left` beats. -/
def raising (st back : CurtainState) (left : Nat) : State :=
  { stage .stage st with
    config := some { desk .curtain with solo := true }
    curtain := { curtainRecordAfter st CurtainRecord.reset with known := true, hold := some ⟨left, back⟩ } }

/-- R105: a boundary finds a hold with beats left, and at its last beat in either raising state. -/
theorem test_witness_BoundaryAtTheCurtain :
    DeviceLaws (raising .raising .down 2) ∧ DeviceLaws (raising .raising .down 1) ∧ DeviceLaws (raising .warnRaise .stopped 1)
      ∧ (raising .raising .down 2).cfg.solo = true ∧ (raising .raising .down 2).cfg.required = []
      ∧ (raising .raising .down 2).curtain.hold = some ⟨2, .down⟩ := by
  repeat' apply And.intro
  all_goals decide

/-- The five statements that every step keeps the laws: a state that meets all of them, and its step. -/
theorem test_witness_StepKeeps :
    DeviceLaws (house .foh .stage) ∧ step (house .foh .stage) = .next { house .foh .stage with
      beat := { BeatState.reset with running := true, position := 1 } } :=
  ⟨house_laws, rfl⟩

end Sys2Proof.Tests
end

section
/-! PROOFS. A frame bearing the own number at the Line Interface (R17, R31 to R36), and the majority of three samples (R5). -/

namespace Sys2Proof.Machine

variable (s : State)

/-! ## Counting a good frame (R35) -/

/-- R35: below the sixteenth a good frame advances the good-frame counter; the sixteenth returns it to 0 and lowers the
score. -/
theorem countGood_eq (l : LineState) : l.countGood = { l with
    good := if l.good < 15 then l.good + 1 else 0
    score := if l.good < 15 then l.score else l.score - 1 } := by
  unfold LineState.countGood
  by_cases h : l.good < 15
  · rw [if_neg (by omega)]
    simp [h]
  · rw [if_pos (by omega)]
    simp [h]

/-- Counting a good frame leaves the BEAT held aside. -/
@[simp] theorem countGood_heldBeat (l : LineState) : l.countGood.heldBeat = l.heldBeat := by
  rw [countGood_eq]

/-- R35, R36: LINE_DEGRADED is not entered by a good frame, for the score does not rise, and it is not left while the
score does not come to 0. -/
theorem judgeDegraded_countGood (hquiet : s.faults.lineDegraded = false → s.line.score < s.line.threshold)
    (hlow : s.line.good < 15 → s.faults.lineDegraded = true → s.line.score ≠ 0)
    (hhigh : 15 ≤ s.line.good → s.faults.lineDegraded = true → 1 < s.line.score) :
    judgeDegraded (s.setLine s.line.countGood) = s.setLine s.line.countGood := by
  apply judgeDegraded_still
  rw [setLine_faults, setLine_line, countGood_eq]
  cases hd : s.faults.lineDegraded
  · have := hquiet hd
    by_cases hg : s.line.good < 15 <;> simp [hg] <;> omega
  · by_cases hg : s.line.good < 15
    · simpa [hg] using hlow hg hd
    · have := hhigh (not_lt.mp hg) hd
      simp [hg]
      omega

/-! ## DUPLICATE_STATION (R33) -/

/-- R69: with no BEAT held aside there is nothing to resolve. -/
theorem resolveHeldBeat_none (wonByBeat : Bool) (h : s.line.heldBeat = none) : resolveHeldBeat wonByBeat s = s := by
  unfold resolveHeldBeat
  rw [h]

/-- R33: a duplicate that stands is not noted again. -/
theorem noteDuplicate_standing (x : Nat) (h : s.faults.duplicate = true) : noteDuplicate x s = s := by
  unfold noteDuplicate
  rw [if_neg (by simp [h])]

/-- R33: the first frame of the own number enters DUPLICATE_STATION with its report. -/
theorem noteDuplicate_first {x : Nat} (hx : x = s.cfg.station) (h : s.faults.duplicate = false) :
    noteDuplicate x s = putLineFault .duplicate true .duplicateStation s := by
  unfold noteDuplicate
  rw [if_pos ⟨hx, h⟩]

/-- Two line states that agree outside the transmit queue. -/
theorem LineState.eq_with_tx {l l' : LineState} (hslot : l.slot = l'.slot) (hheld : l.heldBeat = l'.heldBeat)
    (hcheck : l.checkCount = l'.checkCount) (hform : l.formCount = l'.formCount) (hbit : l.bitCount = l'.bitCount)
    (hscore : l.score = l'.score) (hgood : l.good = l'.good) (hthreshold : l.threshold = l'.threshold) :
    l = { l' with tx := l.tx } := by
  cases l
  simp_all

/-- R33, R36: a line fault that enters or leaves reaches the line by its transmit queue alone. -/
theorem putLineFault_line (x : StationFault) (v : Bool) (r : Report) :
    (putLineFault x v r s).line = { s.line with tx := (putLineFault x v r s).line.tx } := by
  unfold putLineFault
  apply LineState.eq_with_tx <;> simp

/-- R33: DUPLICATE_STATION is as it was put; the recomputation that follows does not touch it. -/
@[simp] theorem putLineFault_duplicate (v : Bool) (r : Report) :
    (putLineFault .duplicate v r s).faults.duplicate = v := by
  unfold putLineFault
  simp [FaultSet.put]

/-- R33, R166: the caller's report is the first that a line fault makes. -/
theorem putLineFault_firstReport (x : StationFault) (v : Bool) (r : Report) :
    FirstReport s r (putLineFault x v r s) :=
  FirstReport.of_grows (recompute_grows _ _ (PanelGrows.refl _))

/-- R33: the first frame of the own number enters DUPLICATE_STATION with its report and reaches the rest of the
line by its transmit queue alone. -/
theorem noteDuplicate_first_effect {x : Nat} (hx : x = s.cfg.station) (h : s.faults.duplicate = false) :
    (noteDuplicate x s).faults.duplicate = true
      ∧ (noteDuplicate x s).line = { s.line with tx := (noteDuplicate x s).line.tx }
      ∧ FirstReport s .duplicateStation (noteDuplicate x s) := by
  rw [noteDuplicate_first s hx h]
  exact ⟨putLineFault_duplicate s true _, putLineFault_line s _ _ _, putLineFault_firstReport s _ _ _⟩

/-! ## A ZONE frame of the own number (R17) -/

/-- R17, R31: neither the Peer Monitor nor the zones take a ZONE frame of the own number. -/
theorem handOn_ownZone {x : Nat} (i a : Nat) (z : ZoneState) (h : x = s.cfg.station) :
    handOn ⟨x, .zone i a z⟩ s = s := by
  simp [handOn, takePayload, h]

/-- R17: a received ZONE frame of the own number leaves the zone records, whatever the phase and the line's state. -/
theorem receive_ownZone_zones (i a : Nat) (z : ZoneState) :
    (receive ⟨s.cfg.station, .zone i a z⟩ s).zones = s.zones := by
  unfold receive
  split
  · split
    · unfold receiveGood
      rw [handOn_ownZone _ i a z (by simp [State.cfg])]
      simp
    · simp
  · rfl

/-- R17, R29: a ZONE frame sent empties the send slot and is taken by no block. -/
theorem reflectFrame_zone {i a : Nat} {z : ZoneState} (h : s.line.slot = some (.zone i a z)) :
    reflectFrame s = setSlot none s := by
  unfold reflectFrame
  rw [h]
  exact handOn_ownZone _ i a z rfl

/-- R31 to R36: where LINE_DEGRADED stays and no BEAT is held aside, a good ZONE frame of the own number is counted and
noted as a duplicate, and that is all. -/
theorem receive_ownZone {i a : Nat} {z : ZoneState} (hw : s.working = true)
    (hf : Frame.formOk ⟨s.cfg.station, .zone i a z⟩ = true) (hheld : s.line.heldBeat = none)
    (hjudge : judgeDegraded (s.setLine s.line.countGood) = s.setLine s.line.countGood) :
    receive ⟨s.cfg.station, .zone i a z⟩ s = noteDuplicate s.cfg.station (s.setLine s.line.countGood) := by
  have hbeat : resolveHeldBeat false (s.setLine s.line.countGood) = s.setLine s.line.countGood :=
    resolveHeldBeat_none _ _ (by simpa using hheld)
  unfold receive
  rw [if_pos hw, if_pos hf]
  unfold receiveGood
  rw [hjudge, show Payload.isBeat (.zone i a z) = false from rfl, hbeat]
  exact handOn_ownZone _ i a z (by simp [State.cfg])

/-- R32: a ZONE frame of a station whose zone and area have a meaning is of good form. -/
theorem formOk_zone {x i a : Nat} (z : ZoneState) (hx : 1 ≤ x) (hx' : x ≤ 31) (hi : i ≤ 7) (ha : a ≤ 15) :
    Frame.formOk ⟨x, .zone i a z⟩ = true := by
  simp [Frame.formOk, Payload.formOk, hx, hx', hi, ha]

/-- Settles O19: in every state by the two ways a frame of the own number comes, received and sent; then by the count of
good frames where DUPLICATE_STATION stands, and by what its entry makes of the state where it does not. -/
theorem ownNumberFrameSetsDuplicate : Obligations.OwnNumberFrameSetsDuplicate := by
  refine ⟨fun s i a z => ⟨⟨_, exec_zoneFrame s _ i a z, receive_ownZone_zones s i a z⟩, fun hslot => ?sent⟩,
    fun s i a z hw h1 h31 hi ha hheld => ⟨fun hdup hquiet hlow hhigh => ?standing, fun hdup hgood hquiet hdegraded => ?first⟩⟩
  case sent =>
    exact ⟨_, exec_frameSent s, by rw [reflectFrame_zone s hslot, setSlot_zones]⟩
  case standing =>
    have hjudge := judgeDegraded_countGood s hquiet hlow hhigh
    rw [exec_zoneFrame, receive_ownZone s hw (formOk_zone z h1 h31 hi ha) hheld hjudge,
      noteDuplicate_standing (s.setLine s.line.countGood) _ hdup, countGood_eq]
    rfl
  case first =>
    have hjudge := judgeDegraded_countGood s hquiet (fun _ => hdegraded) (fun h => by omega)
    have hcount : s.line.countGood = { s.line with good := s.line.good + 1 } := by simp [countGood_eq, hgood]
    obtain ⟨hfault, hline, hreport⟩ :=
      noteDuplicate_first_effect (x := s.cfg.station) (s.setLine s.line.countGood) rfl hdup
    refine ⟨_, exec_zoneFrame s _ i a z, ?_⟩
    rw [receive_ownZone s hw (formOk_zone z h1 h31 hi ha) hheld hjudge]
    refine ⟨hfault, hline.trans ?_, by simp, by simp, by simp, by simp, hreport⟩
    rw [setLine_line, hcount]

/-! ## The majority of three samples (R5) -/

/-- R5: fewer than three samples leave the reading. -/
theorem formReading_of_length_lt {h : List Reading} (previous : Option Reading) (hlen : h.length < 3) :
    formReading h previous = previous := by
  match h, hlen with
  | [], _ => rfl
  | [_], _ => rfl
  | [_, _], _ => rfl

/-- R5: a class that two of the three samples hold is the reading. -/
theorem formReading_of_majority {a b c r : Reading} (previous : Option Reading)
    (h : (a = r ∧ b = r) ∨ (a = r ∧ c = r) ∨ (b = r ∧ c = r)) : formReading [a, b, c] previous = some r := by
  unfold formReading
  obtain ⟨ha, hb⟩ | ⟨ha, hc⟩ | ⟨hb, hc⟩ := h
  · simp [ha, hb]
  · simp [ha, hc]
  · by_cases ha : a = r <;> simp [ha, hb, hc]

/-- R5: three different classes leave the reading. -/
theorem formReading_of_distinct {a b c : Reading} (previous : Option Reading) (hab : a ≠ b) (hac : a ≠ c) (hbc : b ≠ c) :
    formReading [a, b, c] previous = previous := by
  simp [formReading, hab, hac, hbc]

/-- Settles O10: by the history's length, and for three samples by which two of them agree, if any. -/
theorem readingIsTheMajorityOfThree : Obligations.ReadingIsTheMajorityOfThree := by
  intro a b c d previous
  exact ⟨rfl, rfl,
    formReading_of_length_lt previous (by decide), formReading_of_length_lt previous (by simp),
    formReading_of_length_lt previous (by simp),
    formReading_of_majority previous (.inl ⟨rfl, rfl⟩), formReading_of_majority previous (.inr (.inl ⟨rfl, rfl⟩)),
    formReading_of_majority previous (.inr (.inr ⟨rfl, rfl⟩)), formReading_of_distinct previous⟩

end Sys2Proof.Machine
end

section
/-! PROOFS. The law of the call queue fails at a reflected SAFETY call (R29, R106, R147). -/

namespace Sys2Proof.Machine

/-- A configured FOH station: every area in both blocks, no zone, sounder or channel enabled. -/
def plainConfig : ConfigRecord :=
  { ConfigRecord.recommended with
    role := .foh
    zones := List.replicate 8 ⟨false, .detector, 0, 300, 1800, 5⟩
    sounders := List.replicate 4 ⟨0, false⟩
    channels := List.replicate 8 ⟨0, false⟩
    patterns := List.replicate 8 ⟨500, 1000, 3, 2000⟩ }

/-- In ACTIVE and SHOW, with a CALL of class SAFETY and pattern 5 in the send slot. No law of the device says which frames
a send slot holds. -/
def safetyCallInSlot : State :=
  { State.reset with
    phase := .active, mode := .inShow, config := some plainConfig
    line := { LineState.reset with slot := some (.call ⟨16, 0⟩ 5 .safety 1 .now none) }
    beat := { BeatState.reset with running := true } }

theorem safetyCallInSlot_laws : DeviceLaws { safetyCallInSlot with pending := [.frameSent] } := by
  repeat' apply And.intro
  all_goals decide

/-- R29, R148: the sender takes its own CALL, and a SAFETY entry that is not the warning call stands in the queue. -/
theorem safetyCallInSlot_queued :
    ¬CallQueueLaw (reflectFrame safetyCallInSlot) := by
  decide

/-- Refutes O60: the send slot may hold a CALL of class SAFETY under the laws of the device, and its reflection puts an
entry of class SAFETY other than the warning call into the queue. -/
theorem not_stepKeepsTheCalls : ¬Obligations.StepKeepsTheCalls := by
  intro h
  have laws := h _ (reflectFrame safetyCallInSlot) safetyCallInSlot_laws rfl
  exact safetyCallInSlot_queued laws.1

end Sys2Proof.Machine
end

section
/-! PROOFS. The transmit queue: places by class, and the laws of R37 and R38 under each operation. -/

namespace Sys2Proof.Machine

variable (s : State)

/-! ## Sorts and classes (R37, R38) -/

/-- The sort of a frame (R38); `none` is of no sort. -/
def sortOf : Payload → Option (Nat × Nat)
  | .zone i _ _ => some (0, i)
  | .beat _ => some (1, 0)
  | .curtain .raiseHold _ => some (2, 0)
  | .status .. => some (3, 0)
  | _ => none

theorem sameSort_iff (f g : Payload) : sameSort f g = true ↔ (sortOf f).isSome = true ∧ sortOf f = sortOf g := by
  cases f with
  | curtain k t => cases k <;> cases g with
    | curtain k' t' => cases k' <;> simp [sameSort, sortOf]
    | _ => simp [sameSort, sortOf]
  | _ => cases g with
    | curtain k' t' => cases k' <;> simp [sameSort, sortOf]
    | _ => simp [sameSort, sortOf]

theorem sameSort_symm (f g : Payload) : sameSort f g = sameSort g f := by
  rw [Bool.eq_iff_iff, sameSort_iff, sameSort_iff]
  constructor <;> rintro ⟨hsome, heq⟩ <;> exact ⟨heq ▸ hsome, heq.symm⟩

/-- R38: frames of one sort are of one class. -/
theorem cls_of_sameSort {f g : Payload} (h : sameSort f g = true) : f.cls = g.cls := by
  unfold sameSort at h
  split at h <;> simp_all [Payload.cls]

/-- R38: being of one sort with a frame g says what any other frame shares with it. -/
theorem sameSort_congr {f g : Payload} (h : sameSort f g = true) (x : Payload) : sameSort f x = sameSort g x := by
  obtain ⟨-, heq⟩ := (sameSort_iff f g).1 h
  rw [Bool.eq_iff_iff, sameSort_iff, sameSort_iff, heq]

theorem waits_iff {f : Payload} {q : List Payload} : waits f q = true ↔ ∃ g ∈ q, sameSort g f = true := by
  simp [waits]

theorem waits_eq_false {f : Payload} {q : List Payload} : waits f q = false ↔ ∀ g ∈ q, sameSort g f = false := by
  simp [waits]

theorem oneOfEachSort_iff {q : List Payload} : oneOfEachSort q = true ↔ q.Pairwise (fun f g => sameSort f g = false) := by
  induction q with
  | nil => simp [oneOfEachSort]
  | cons f q ih => simp [oneOfEachSort, ih, waits_eq_false, sameSort_symm f]

theorem inClassOrder_iff {q : List Payload} : inClassOrder q = true ↔ q.Pairwise (fun f g => f.cls ≤ g.cls) := by
  induction q with
  | nil => simp [inClassOrder]
  | cons f q ih => simp [inClassOrder, ih]

/-! ## Places by class (R37, R40) -/

/-- R37: a frame joins behind every frame of a lower or equal class and, in a queue in order, ahead of all others. -/
theorem joinQueue_joined (f : Payload) {q : List Payload} (h : inClassOrder q = true) :
    JoinedByClass f q (joinQueue f q) := by
  induction q with
  | nil => exact ⟨[], [], rfl, rfl, by simp, by simp⟩
  | cons g q ih =>
    rw [inClassOrder_iff, List.pairwise_cons, ← inClassOrder_iff] at h
    obtain ⟨hg, hq⟩ := h
    unfold joinQueue
    split
    · next hle =>
      obtain ⟨before, after, hold, hnew, hbefore, hafter⟩ := ih hq
      exact ⟨g :: before, after, by rw [hold, List.cons_append], by rw [hnew, List.cons_append],
        by simpa [hle] using hbefore, hafter⟩
    · next hlt =>
      refine ⟨[], g :: q, rfl, rfl, by simp, ?_⟩
      intro x hx
      rcases List.mem_cons.1 hx with rfl | hx
      · omega
      · have := hg x hx; omega

/-- R40: a frame returns ahead of every frame of its class and, in a queue in order, behind all of lower class. -/
theorem rejoinQueue_rejoined (f : Payload) {q : List Payload} (h : inClassOrder q = true) :
    ∃ before after, q = before ++ after ∧ rejoinQueue f q = before ++ f :: after ∧ (∀ g ∈ before, g.cls < f.cls)
      ∧ (∀ g ∈ after, f.cls ≤ g.cls) := by
  induction q with
  | nil => exact ⟨[], [], rfl, rfl, by simp, by simp⟩
  | cons g q ih =>
    rw [inClassOrder_iff, List.pairwise_cons, ← inClassOrder_iff] at h
    obtain ⟨hg, hq⟩ := h
    unfold rejoinQueue
    split
    · next hlt =>
      obtain ⟨before, after, hold, hnew, hbefore, hafter⟩ := ih hq
      exact ⟨g :: before, after, by rw [hold, List.cons_append], by rw [hnew, List.cons_append],
        by simpa [hlt] using hbefore, hafter⟩
    · next hle =>
      refine ⟨[], g :: q, rfl, rfl, by simp, ?_⟩
      intro x hx
      rcases List.mem_cons.1 hx with rfl | hx
      · omega
      · have := hg x hx; omega

/-- A frame placed between frames of classes up to its own and of classes from its own on keeps the order. -/
theorem inClassOrder_insert {f : Payload} {before after : List Payload} (h : inClassOrder (before ++ after) = true)
    (hbefore : ∀ g ∈ before, g.cls ≤ f.cls) (hafter : ∀ g ∈ after, f.cls ≤ g.cls) :
    inClassOrder (before ++ f :: after) = true := by
  rw [inClassOrder_iff, List.pairwise_append] at *
  obtain ⟨hb, ha, hba⟩ := h
  refine ⟨hb, List.pairwise_cons.2 ⟨hafter, ha⟩, fun g hg x hx => ?_⟩
  rcases List.mem_cons.1 hx with rfl | hx
  · exact hbefore g hg
  · exact hba g hg x hx

theorem joinQueue_inClassOrder (f : Payload) {q : List Payload} (h : inClassOrder q = true) :
    inClassOrder (joinQueue f q) = true := by
  obtain ⟨before, after, hold, hnew, hbefore, hafter⟩ := joinQueue_joined f h
  rw [hnew]
  exact inClassOrder_insert (hold ▸ h) hbefore (fun g hg => (hafter g hg).le)

theorem rejoinQueue_inClassOrder (f : Payload) {q : List Payload} (h : inClassOrder q = true) :
    inClassOrder (rejoinQueue f q) = true := by
  obtain ⟨before, after, hold, hnew, hbefore, hafter⟩ := rejoinQueue_rejoined f h
  rw [hnew]
  exact inClassOrder_insert (hold ▸ h) (fun g hg => (hbefore g hg).le) hafter

theorem joinQueue_perm (f : Payload) (q : List Payload) : (joinQueue f q).Perm (f :: q) := by
  induction q with
  | nil => rfl
  | cons g q ih =>
    unfold joinQueue
    split
    · exact (ih.cons g).trans (List.Perm.swap f g q)
    · rfl

theorem rejoinQueue_perm (f : Payload) (q : List Payload) : (rejoinQueue f q).Perm (f :: q) := by
  induction q with
  | nil => rfl
  | cons g q ih =>
    unfold rejoinQueue
    split
    · exact (ih.cons g).trans (List.Perm.swap f g q)
    · rfl

/-- R38: a frame of a sort that does not wait may join anywhere. -/
theorem oneOfEachSort_perm_cons {f : Payload} {q r : List Payload} (hr : r.Perm (f :: q)) (hw : waits f q = false)
    (h : oneOfEachSort q = true) : oneOfEachSort r = true := by
  rw [oneOfEachSort_iff] at *
  rw [hr.pairwise_iff (fun h => by rwa [sameSort_symm]), List.pairwise_cons]
  exact ⟨fun g hg => by rw [sameSort_symm]; exact waits_eq_false.1 hw g hg, h⟩

/-- R38: a replaced frame is of the sort and the class of the frame that replaces it. -/
theorem replaceIn_laws (f : Payload) {q : List Payload} (hsort : oneOfEachSort q = true) (horder : inClassOrder q = true) :
    oneOfEachSort (replaceIn f q) = true ∧ inClassOrder (replaceIn f q) = true := by
  have hcls : ∀ g : Payload, (if sameSort g f then f else g).cls = g.cls := by
    intro g
    split
    · next h => exact (cls_of_sameSort h).symm
    · rfl
  rw [oneOfEachSort_iff] at hsort
  rw [inClassOrder_iff] at horder
  rw [oneOfEachSort_iff, inClassOrder_iff, replaceIn, List.pairwise_map, List.pairwise_map]
  refine ⟨hsort.imp (fun {a b} h => ?_), horder.imp (fun {a b} h => by rw [hcls, hcls]; exact h)⟩
  by_cases ha : sameSort a f = true <;> by_cases hb : sameSort b f = true <;> simp only [ha, hb, if_true]
  · rw [sameSort_congr ha, sameSort_symm, hb] at h; cases h
  · rw [← sameSort_congr ha]; exact h
  · rw [sameSort_symm, ← sameSort_congr hb, sameSort_symm]; exact h
  · exact h

/-! ## The queue's laws (R37 to R41) -/

/-- R37, R38: a queue of at most 8 frames, one of each sort, in order of class. -/
def txOk (q : List Payload) : Prop := q.length ≤ 8 ∧ oneOfEachSort q = true ∧ inClassOrder q = true

theorem txOk.sublist {q r : List Payload} (h : txOk q) (hr : r.Sublist q) : txOk r := by
  obtain ⟨hlen, hsort, horder⟩ := h
  rw [oneOfEachSort_iff] at hsort
  rw [inClassOrder_iff] at horder
  exact ⟨hr.length_le.trans hlen, oneOfEachSort_iff.2 (hsort.sublist hr), inClassOrder_iff.2 (horder.sublist hr)⟩

theorem txOk.replaceIn {q : List Payload} (f : Payload) (h : txOk q) : txOk (replaceIn f q) :=
  ⟨by simpa [Machine.replaceIn] using h.1, replaceIn_laws f h.2.1 h.2.2⟩

theorem txOk.joinQueue {q : List Payload} {f : Payload} (h : txOk q) (hlen : q.length < 8) (hw : waits f q = false) :
    txOk (joinQueue f q) :=
  ⟨by simpa [(joinQueue_perm f q).length_eq] using hlen, oneOfEachSort_perm_cons (joinQueue_perm f q) hw h.2.1,
    joinQueue_inClassOrder f h.2.2⟩

/-- R40: a full queue with a returned frame loses its last. -/
theorem txOk.rejoin_dropLast {q : List Payload} {f : Payload} (h : txOk q) (hw : waits f q = false) :
    txOk (rejoinQueue f q).dropLast := by
  have hsub := (rejoinQueue f q).dropLast_sublist
  have hsort := oneOfEachSort_iff.1 (oneOfEachSort_perm_cons (rejoinQueue_perm f q) hw h.2.1)
  have horder := inClassOrder_iff.1 (rejoinQueue_inClassOrder f h.2.2)
  have hlen := (rejoinQueue_perm f q).length_eq
  refine ⟨?_, oneOfEachSort_iff.2 (hsort.sublist hsub), inClassOrder_iff.2 (horder.sublist hsub)⟩
  have := h.1
  simp only [List.length_dropLast, List.length_cons] at *
  omega

theorem txOk.rejoin {q : List Payload} {f : Payload} (h : txOk q) (hlen : q.length < 8) (hw : waits f q = false) :
    txOk (rejoinQueue f q) :=
  ⟨by simpa [(rejoinQueue_perm f q).length_eq] using hlen, oneOfEachSort_perm_cons (rejoinQueue_perm f q) hw h.2.1,
    rejoinQueue_inClassOrder f h.2.2⟩

theorem waits_sublist {f : Payload} {q r : List Payload} (hw : waits f q = false) (hr : r.Sublist q) : waits f r = false :=
  waits_eq_false.2 (fun g hg => waits_eq_false.1 hw g (hr.mem hg))

/-- R37 to R39: an offered frame keeps the laws of the queue. -/
theorem offer_txOk (f : Payload) (h : txOk s.line.tx) : txOk (offer f s).line.tx := by
  unfold offer
  split
  · exact h
  split
  · exact h.replaceIn f
  next hw =>
  rw [Bool.not_eq_true] at hw
  split
  · next hlen => exact h.joinQueue hlen hw
  split
  · have hsub := s.line.tx.dropLast_sublist
    split
    · next g hg =>
      refine (h.sublist hsub).joinQueue ?_ (waits_sublist hw hsub)
      have := h.1
      have : s.line.tx ≠ [] := by rintro hnil; simp [hnil] at hg
      have := List.length_pos_iff.2 this
      rw [List.length_dropLast]
      omega
    · exact h
  · exact h

/-- R40: a returning frame keeps the laws of the queue. -/
theorem returnFrame_txOk (f : Payload) (h : txOk s.line.tx) : txOk (returnFrame f s).line.tx := by
  unfold returnFrame
  split
  · exact h
  next hw =>
  rw [Bool.not_eq_true] at hw
  split
  · next hlen => exact h.rejoin hlen hw
  split
  · exact h.rejoin_dropLast hw
  · exact h

/-- R41: withdrawing the own BEAT keeps the laws of the queue. -/
theorem withdrawBeat_txOk (h : txOk s.line.tx) : txOk (withdrawBeat s).line.tx := h.sublist List.filter_sublist

/-- R39: outside ACTIVE an offer changes nothing. -/
theorem offer_inactive (f : Payload) (h : s.phase ≠ .active) : offer f s = s := if_pos h

end Sys2Proof.Machine
end

section
/-! PROOFS. The Light Fader: the level of a fade (R134), and the laws of the channels, the codes, the transfer and the cue
table under each of its operations. -/

namespace Sys2Proof.Machine

variable (s : State)

/-! ## The level of a fade (R134) -/

/-- The travel of a fade after e of D steps (R134). -/
def fadeTravel (S T e D : Nat) : Int := Int.tdiv (((T : Int) - S) * e) D

theorem fadeLevel_eq (S T e D : Nat) : fadeLevel S T e D = ((S : Int) + fadeTravel S T e D).toNat := rfl

theorem fadeTravel_start (S T D : Nat) : fadeTravel S T 0 D = 0 := by
  simp [fadeTravel]

theorem fadeTravel_end (S T : Nat) {D : Nat} (hD : 0 < D) : fadeTravel S T D D = (T : Int) - S :=
  Int.mul_tdiv_cancel _ (by omega)

/-- An upward fade travels up only. -/
theorem fadeTravel_mono {S T D e e' : Nat} (hD : 0 < D) (h : S ≤ T) (he : e ≤ e') : fadeTravel S T e D ≤ fadeTravel S T e' D := by
  apply Int.tdiv_le_tdiv (by omega)
  exact Int.mul_le_mul_of_nonneg_left (by omega) (by omega)

/-- A downward fade travels down only. -/
theorem fadeTravel_anti {S T D e e' : Nat} (hD : 0 < D) (h : T ≤ S) (he : e ≤ e') : fadeTravel S T e' D ≤ fadeTravel S T e D := by
  apply Int.tdiv_le_tdiv (by omega)
  exact Int.mul_le_mul_of_nonpos_left (by omega) (by omega)

/-- Settles O32: the travel is 0 at the start and T - S at the end, and moves one way between. -/
theorem fadeLevelNeverOvershoots : Obligations.FadeLevelNeverOvershoots := by
  intro S T D e hD he
  have h0 := fadeTravel_start S T D
  have hT := fadeTravel_end S T hD
  simp only [fadeLevel_eq, h0, hT]
  refine ⟨by omega, by omega, ?low, ?high, fun e' he' hD' => ⟨fun h => ?up, fun h => ?down⟩⟩
  case low =>
    rcases le_total S T with h | h
    · have := fadeTravel_mono hD h (Nat.zero_le e); omega
    · have := fadeTravel_anti hD h he; omega
  case high =>
    rcases le_total S T with h | h
    · have := fadeTravel_mono hD h he; omega
    · have := fadeTravel_anti hD h (Nat.zero_le e); omega
  case up => have := fadeTravel_mono hD h he'; omega
  case down => have := fadeTravel_anti hD h he'; omega

/-- R134: the level of a fade lies between its start and its target. -/
theorem fadeLevel_between {S T D e : Nat} (hD : 0 < D) (he : e ≤ D) :
    min S T ≤ fadeLevel S T e D ∧ fadeLevel S T e D ≤ max S T := by
  obtain ⟨-, -, hlow, hhigh, -⟩ := fadeLevelNeverOvershoots S T D e hD he
  exact ⟨hlow, hhigh⟩

/-! ## What a channel holds (R126) -/

/-- R126, R134: a channel in the midst of an operation, whose fade may be at its end. -/
structure ChannelFits (c : Channel) : Prop where
  level    : c.level ≤ 1000
  code     : c.code ≤ 255
  disabled : c.enabled = false → c.level = 1000 ∧ c.code = 255 ∧ c.staged = none ∧ c.active = none
  active   : ∀ f, c.active = some f →
    f.start ≤ 1000 ∧ f.target ≤ 1000 ∧ min f.start f.target ≤ c.level ∧ c.level ≤ max f.start f.target
  staged   : ∀ f, c.staged = some f → f.target ≤ 1000

/-- The law of a channel is that it fits and that no fade of it is at its end. -/
theorem channelOk_iff (c : Channel) : channelOk c = true ↔ ChannelFits c ∧ c.running := by
  unfold channelOk
  simp only [Bool.and_eq_true, Bool.or_eq_true, decide_eq_true_eq, Option.all_eq_true]
  constructor
  · rintro ⟨⟨⟨⟨hl, hc⟩, hd⟩, ha⟩, hs⟩
    refine ⟨⟨hl, hc, fun he => ?_, fun f hf => ?_, fun f hf => by simpa using hs f hf⟩, fun f hf => ?_⟩
    · rw [he] at hd; simp at hd; tauto
    · have := ha f hf; simp at this ⊢; tauto
    · have := ha f hf; simp at this; tauto
  · rintro ⟨⟨hl, hc, hd, ha, hs⟩, hr⟩
    refine ⟨⟨⟨⟨hl, hc⟩, ?_⟩, fun f hf => ?_⟩, fun f hf => by simpa using hs f hf⟩
    · cases he : c.enabled
      · simp [hd he]
      · simp
    · have := ha f hf; have := hr f hf; simp at *; tauto

/-- R135: the end of a fade leaves a channel that fits, with no fade at its end. -/
theorem ChannelFits.finish {c : Channel} (h : ChannelFits c) : ChannelFits c.finish ∧ c.finish.running := by
  unfold Channel.finish
  split
  · next f hf =>
    split
    · have hen : c.enabled ≠ false := fun he => by simp [(h.disabled he).2.2.2] at hf
      exact ⟨⟨(h.active f hf).2.1, h.code, fun he => absurd he hen, nofun, h.staged⟩, nofun⟩
    · next hlt => exact ⟨h, fun g hg => by rw [hf] at hg; cases hg; omega⟩
  · next hf => exact ⟨h, fun g hg => by rw [hf] at hg; cases hg⟩

/-- R134: a step of a running fade. -/
theorem ChannelFits.step {c : Channel} (h : ChannelFits c) (hr : c.running) : ChannelFits c.step := by
  unfold Channel.step
  split
  · next f hf =>
    split
    · next hen =>
      have hlt := hr f hf
      obtain ⟨hs, ht, -, -⟩ := h.active f hf
      obtain ⟨hlow, hhigh⟩ := fadeLevel_between (S := f.start) (T := f.target) (D := f.duration) (e := f.elapsed + 1)
        (by omega) (by omega)
      refine ⟨by dsimp only; omega, h.code, fun he => ?_, ?_, h.staged⟩
      · dsimp only at he; rw [hen] at he; cases he
      · rintro g ⟨⟩; exact ⟨hs, ht, hlow, hhigh⟩
    · exact h
  · exact h

/-- R130, R132: a cue begins on a channel. -/
theorem ChannelFits.beginOn {c : Channel} {q : PreparedCue} (h : ChannelFits c) (hq : q.level ≤ 1000) (key : Nat) :
    ChannelFits (q.beginOn key c) := by
  unfold PreparedCue.beginOn
  split
  · next ha =>
    have hen : c.enabled = true := by simp [PreparedCue.appliesTo] at ha; exact ha.1
    refine ⟨h.level, h.code, fun he => ?_, ?_, nofun⟩
    · dsimp only at he; rw [hen] at he; cases he
    · rintro g ⟨⟩
      exact ⟨h.level, hq, by dsimp only; omega, by dsimp only; omega⟩
  · exact h

/-- R130: a cue is staged on a channel. -/
theorem ChannelFits.stageOn {c : Channel} {q : PreparedCue} (h : ChannelFits c) (hq : q.level ≤ 1000) (key : Nat) (w : Wait) :
    ChannelFits (q.stageOn key w c) := by
  unfold PreparedCue.stageOn
  split
  · next ha =>
    have hen : c.enabled = true := by simp [PreparedCue.appliesTo] at ha; exact ha.1
    refine ⟨h.level, h.code, fun he => ?_, h.active, ?_⟩
    · dsimp only at he; rw [hen] at he; cases he
    · rintro g ⟨⟩; exact hq
  · exact h

/-- R132, R133: a staged fade starts on its channel. -/
theorem ChannelFits.startStaged {c : Channel} (h : ChannelFits c) (key : Nat) : ChannelFits (startStaged key c) := by
  unfold Machine.startStaged
  split
  · next f hf =>
    split
    · have hen : c.enabled ≠ false := fun he => by simp [(h.disabled he).2.2.1] at hf
      refine ⟨h.level, h.code, fun he => absurd he hen, ?_, nofun⟩
      rintro g ⟨⟩
      exact ⟨h.level, h.staged f hf, by dsimp only; omega, by dsimp only; omega⟩
    · exact h
  · exact h

/-- R140: a channel after the end of an ALARM. -/
theorem ChannelFits.afterAlarm {c : Channel} (h : ChannelFits c) : ChannelFits c.afterAlarm ∧ c.afterAlarm.running := by
  refine ⟨⟨?_, h.code, fun he => ?_, nofun, nofun⟩, nofun⟩
  · unfold Channel.afterAlarm; dsimp only; split <;> [exact le_rfl; exact h.level]
  · have he : c.enabled = false := he
    exact ⟨by simp [Channel.afterAlarm, he, (h.disabled he).1], (h.disabled he).2.1, rfl, rfl⟩

/-! ## The output codes (R136) -/

theorem outputCode_alarm (master level : Nat) : outputCode true master level = 255 := by
  simp [outputCode]

theorem outputCode_le {alarm : Bool} {master level : Nat} (hm : master ≤ 1000) (hl : level ≤ 1000) :
    outputCode alarm master level ≤ 255 := by
  cases alarm
  · have hprod : level * master / 1000 ≤ 1000 := Nat.div_le_of_le_mul (Nat.mul_le_mul hl hm)
    have hsq : (level * master / 1000) * (level * master / 1000) ≤ 1000 * 1000 := Nat.mul_le_mul hprod hprod
    simp only [outputCode, Bool.false_eq_true, if_false]
    omega
  · rw [outputCode_alarm]

/-- R136: recoding keeps what a channel holds but its code. -/
theorem ChannelFits.recode {c : Channel} (h : ChannelFits c) (alarm : Bool) {master : Nat} (hm : master ≤ 1000) :
    ChannelFits (c.recode alarm master) := by
  refine ⟨h.level, ?_, fun he => ?_, h.active, h.staged⟩
  · unfold Channel.recode
    dsimp only
    split
    · exact outputCode_le hm h.level
    · exact le_rfl
  · have he : c.enabled = false := he
    obtain ⟨hl, -, hs, ha⟩ := h.disabled he
    exact ⟨hl, by simp [Channel.recode, he], hs, ha⟩

/-! ## The cue table (R127, R133) -/

/-- The channel has a fade of the cue, staged or active. -/
def Channel.carries (c : Channel) (key : Nat) : Prop := c.stagedKey = some key ∨ c.activeKey = some key

theorem isAlive_iff (cs : List Channel) (e : CueEntry) : isAlive cs e = true ↔ ∃ c ∈ cs, c.carries e.key := by
  have hpos (p : Channel → Bool) : cs.countP p ≠ 0 ↔ ∃ c ∈ cs, p c = true := by
    rw [← Nat.pos_iff_ne_zero, List.countP_pos_iff]
  unfold isAlive stagedCount activeCount Channel.carries
  rw [Bool.or_eq_true, decide_eq_true_eq, decide_eq_true_eq, hpos, hpos]
  simp only [beq_iff_eq, and_or_left, exists_or]

/-- Staged fades of one cue wait alike (R133). -/
def StagedAlike (cs : List Channel) : Prop :=
  ∀ c ∈ cs, ∀ d ∈ cs, ∀ f g, c.staged = some f → d.staged = some g → g.cue = f.cue → g.wait = f.wait

/-- R127, R133: the cue table over its channels. -/
structure CuesFit (cs : List Channel) (cues : List CueEntry) (nextKey : Nat) : Prop where
  alive : ∀ e ∈ cues, ∃ c ∈ cs, c.carries e.key
  entry : ∀ c ∈ cs, ∀ k, c.carries k → ∃ e ∈ cues, e.key = k
  below : ∀ e ∈ cues, e.key < nextKey
  nodup : (cues.map (fun e => e.key)).Nodup
  alike : StagedAlike cs

theorem cueLaw_iff : CueLaw s ↔ CuesFit s.lights.channels s.lights.cues s.lights.nextKey := by
  unfold CueLaw
  simp only [List.all_eq_true, isAlive_iff, Bool.and_eq_true, Option.all_eq_true, List.any_eq_true, beq_iff_eq,
    decide_eq_true_eq]
  constructor
  · rintro ⟨halive, hentry, hbelow, hnodup, halike⟩
    refine ⟨halive, fun c hc k hk => ?_, hbelow, hnodup, fun c hc d hd f g hf hg => halike c hc f hf d hd g hg⟩
    rcases hk with hk | hk
    · exact (hentry c hc).1 k hk
    · exact (hentry c hc).2 k hk
  · rintro ⟨halive, hentry, hbelow, hnodup, halike⟩
    exact ⟨halive, fun c hc => ⟨fun k hk => hentry c hc k (.inl hk), fun k hk => hentry c hc k (.inr hk)⟩, hbelow, hnodup,
      fun c hc f hf d hd g hg => halike c hc d hd f g hf hg⟩

/-- Channels without a fade of a new cue take with them the entries left without a fade (R131, R135). -/
theorem CuesFit.replace {cs cs' : List Channel} {cues : List CueEntry} {n : Nat} (h : CuesFit cs cues n)
    (hkeys : ∀ c' ∈ cs', ∀ k, c'.carries k → ∃ c ∈ cs, c.carries k) (halike : StagedAlike cs') :
    CuesFit cs' (cues.filter (isAlive cs')) n where
  alive e he := (isAlive_iff cs' e).1 (List.mem_filter.1 he).2
  entry c' hc' k hk := by
    obtain ⟨c, hc, hck⟩ := hkeys c' hc' k hk
    obtain ⟨e, he, rfl⟩ := h.entry c hc k hck
    exact ⟨e, List.mem_filter.2 ⟨he, (isAlive_iff cs' e).2 ⟨c', hc', hk⟩⟩, rfl⟩
  below e he := h.below e (List.mem_filter.1 he).1
  nodup := h.nodup.sublist (List.filter_sublist.map _)
  alike := halike

/-- The same for channels changed one by one, where the staged fades stay or go. -/
theorem CuesFit.map {cs : List Channel} {cues : List CueEntry} {n : Nat} (h : CuesFit cs cues n) {g : Channel → Channel}
    (hkeys : ∀ c ∈ cs, ∀ k, (g c).carries k → c.carries k)
    (hstaged : ∀ c ∈ cs, (g c).staged = c.staged ∨ (g c).staged = none) :
    CuesFit (cs.map g) (cues.filter (isAlive (cs.map g))) n := by
  have hback : ∀ c ∈ cs, ∀ f, (g c).staged = some f → c.staged = some f := by
    intro c hc f hf
    rcases hstaged c hc with hs | hs
    · rw [← hs, hf]
    · rw [hs] at hf; cases hf
  refine h.replace ?_ ?_
  · intro c' hc' k hk
    obtain ⟨c, hc, rfl⟩ := List.mem_map.1 hc'
    exact ⟨c, hc, hkeys c hc k hk⟩
  · intro c' hc' d' hd' f f' hf hf'
    obtain ⟨c, hc, rfl⟩ := List.mem_map.1 hc'
    obtain ⟨d, hd, rfl⟩ := List.mem_map.1 hd'
    exact h.alike c hc d hd f f' (hback c hc f hf) (hback d hd f' hf')

/-- Channels whose fades keep their cues leave the table as it is. -/
theorem CuesFit.map_same {cs : List Channel} {cues : List CueEntry} {n : Nat} (h : CuesFit cs cues n) {g : Channel → Channel}
    (hstaged : ∀ c ∈ cs, (g c).staged = c.staged) (hactive : ∀ c ∈ cs, (g c).activeKey = c.activeKey) :
    CuesFit (cs.map g) cues n := by
  have hcarries : ∀ c ∈ cs, ∀ k, (g c).carries k ↔ c.carries k := by
    intro c hc k
    unfold Channel.carries Channel.stagedKey
    rw [hstaged c hc, hactive c hc]
  refine ⟨fun e he => ?_, fun c' hc' k hk => ?_, h.below, h.nodup, fun c' hc' d' hd' f f' hf hf' => ?_⟩
  · obtain ⟨c, hc, hk⟩ := h.alive e he
    exact ⟨g c, List.mem_map.2 ⟨c, hc, rfl⟩, (hcarries c hc _).2 hk⟩
  · obtain ⟨c, hc, rfl⟩ := List.mem_map.1 hc'
    exact h.entry c hc k ((hcarries c hc k).1 hk)
  · obtain ⟨c, hc, rfl⟩ := List.mem_map.1 hc'
    obtain ⟨d, hd, rfl⟩ := List.mem_map.1 hd'
    exact h.alike c hc d hd f f' (by rw [← hstaged c hc, hf]) (by rw [← hstaged d hd, hf'])

/-- R127: a new cue takes its fades, the entries left without one are gone, and its own entry joins. -/
theorem CuesFit.enter {cs cs' : List Channel} {cues : List CueEntry} {n : Nat} {e : CueEntry} (h : CuesFit cs cues n)
    (hkeys : ∀ c' ∈ cs', ∀ k, c'.carries k → k = n ∨ ∃ c ∈ cs, c.carries k) (hself : ∃ c' ∈ cs', c'.carries n)
    (halike : StagedAlike cs') (he : e.key = n) : CuesFit cs' (cues.filter (isAlive cs') ++ [e]) (n + 1) where
  alive x hx := by
    rcases List.mem_append.1 hx with hx | hx
    · exact (isAlive_iff cs' x).1 (List.mem_filter.1 hx).2
    · rw [List.mem_singleton.1 hx, he]; exact hself
  entry c' hc' k hk := by
    rcases hkeys c' hc' k hk with rfl | ⟨c, hc, hck⟩
    · exact ⟨e, by simp, he⟩
    · obtain ⟨x, hx, rfl⟩ := h.entry c hc k hck
      exact ⟨x, List.mem_append_left _ (List.mem_filter.2 ⟨hx, (isAlive_iff cs' x).2 ⟨c', hc', hk⟩⟩), rfl⟩
  below x hx := by
    rcases List.mem_append.1 hx with hx | hx
    · exact Nat.lt_succ_of_lt (h.below x (List.mem_filter.1 hx).1)
    · rw [List.mem_singleton.1 hx, he]; exact Nat.lt_succ_self n
  nodup := by
    rw [List.map_append, List.nodup_append]
    refine ⟨h.nodup.sublist (List.filter_sublist.map _), by simp, ?_⟩
    rintro a ha b hb rfl
    obtain ⟨x, hx, rfl⟩ := List.mem_map.1 ha
    have := h.below x (List.mem_filter.1 hx).1
    simp [he] at hb
    omega
  alike := halike

/-! ## The laws of the lights together -/

/-- R137: the transfer in progress and the one pending. -/
def TransferFits (l : LightState) : Prop :=
  (l.pendingTransfer = true → l.sending.isSome = true)
    ∧ (l.pendingTransfer = false → ∀ cs, l.sending = some cs → cs = l.codes)

/-- The lights in the midst of an operation: fades may be at their end and codes may be stale. -/
structure LightsWork (l : LightState) : Prop where
  channels : ∀ c ∈ l.channels, ChannelFits c
  master   : l.master ≤ 1000
  transfer : TransferFits l
  cues     : CuesFit l.channels l.cues l.nextKey

/-- The lights between operations. -/
structure LightsFit (alarm : Bool) (l : LightState) : Prop extends LightsWork l where
  running : ∀ c ∈ l.channels, c.running
  codes   : ∀ c ∈ l.channels, c.enabled = true → c.code = outputCode alarm l.master c.level

theorem transferLaw_iff : TransferLaw s ↔ TransferFits s.lights := by
  simp [TransferLaw, TransferFits, Option.all_eq_true]

/-- The four laws of the lights, in LISTEN and ACTIVE. -/
theorem lightLaws_iff (hw : s.working = true) :
    (LightLaw s ∧ CodeLaw s ∧ TransferLaw s ∧ CueLaw s) ↔ LightsFit (s.condition == .alarm) s.lights := by
  rw [transferLaw_iff, cueLaw_iff]
  unfold LightLaw CodeLaw
  simp only [List.all_eq_true, channelOk_iff, Bool.or_eq_true, Bool.not_eq_true', decide_eq_true_eq]
  constructor
  · rintro ⟨⟨hch, hm, -⟩, hcode, htr, hcue⟩
    refine ⟨⟨fun c hc => (hch c hc).1, hm, htr, hcue⟩, fun c hc => (hch c hc).2, fun c hc he => ?_⟩
    rcases hcode hw c hc with h | h
    · rw [he] at h; cases h
    · exact h
  · rintro ⟨⟨hch, hm, htr, hcue⟩, hrun, hcode⟩
    refine ⟨⟨fun c hc => ⟨hch c hc, hrun c hc⟩, hm, fun _ halarm c hc => ?_⟩, fun _ c hc => ?_, htr, hcue⟩
    · cases he : c.enabled
      · exact ((hch c hc).disabled he).2.1
      · rw [hcode c hc he, halarm]; exact outputCode_alarm _ _
    · cases he : c.enabled
      · exact .inl rfl
      · exact .inr (hcode c hc he)

/-- New channels that keep the codes, with a table that fits them, keep the lights at work. -/
theorem LightsWork.withChannels {l l' : LightState} (h : LightsWork l) (hch : ∀ c ∈ l'.channels, ChannelFits c)
    (hcodes : l'.codes = l.codes) (hmaster : l'.master = l.master) (hsending : l'.sending = l.sending)
    (hpending : l'.pendingTransfer = l.pendingTransfer) (hcues : CuesFit l'.channels l'.cues l'.nextKey) :
    LightsWork l' :=
  ⟨hch, hmaster ▸ h.master, by
    unfold TransferFits
    rw [hpending, hsending, hcodes]
    exact h.transfer, hcues⟩

theorem codes_map {l : LightState} {g : Channel → Channel} (hg : ∀ c, (g c).code = c.code) :
    ({ l with channels := l.channels.map g } : LightState).codes = l.codes := by
  simp [LightState.codes, hg]

/-! ## The end of fades (R135) -/

/-- R135: the lights after every fade at its end has completed. -/
def LightState.finish (l : LightState) : LightState :=
  { l with
    channels := l.channels.map Channel.finish
    cues := l.cues.filter (isAlive (l.channels.map Channel.finish)) }

@[simp] theorem finishFades_lights : (finishFades s).lights = s.lights.finish := by
  simp [finishFades, setCues, setChannels, LightState.finish]

@[simp] theorem finish_staged (c : Channel) : c.finish.staged = c.staged := by
  unfold Channel.finish
  (repeat' split) <;> rfl

@[simp] theorem finish_code (c : Channel) : c.finish.code = c.code := by
  unfold Channel.finish
  (repeat' split) <;> rfl

@[simp] theorem finish_enabled (c : Channel) : c.finish.enabled = c.enabled := by
  unfold Channel.finish
  (repeat' split) <;> rfl

theorem carries_of_finish {c : Channel} {k : Nat} (h : c.finish.carries k) : c.carries k := by
  unfold Channel.carries Channel.stagedKey at *
  rw [finish_staged] at h
  refine h.imp_right (fun h => ?_)
  unfold Channel.finish at h
  split at h
  · split at h
    · cases h
    · exact h
  · exact h

/-- R135: the end of fades leaves none at its end. -/
theorem LightsWork.finish {l : LightState} (h : LightsWork l) :
    LightsWork l.finish ∧ ∀ c ∈ l.finish.channels, c.running := by
  refine ⟨h.withChannels ?_ (codes_map finish_code) rfl rfl rfl ?_, ?_⟩
  · intro c' hc'
    obtain ⟨c, hc, rfl⟩ := List.mem_map.1 hc'
    exact (h.channels c hc).finish.1
  · exact h.cues.map (fun c _ k => carries_of_finish) (fun c _ => .inl (finish_staged c))
  · intro c' hc'
    obtain ⟨c, hc, rfl⟩ := List.mem_map.1 hc'
    exact (h.channels c hc).finish.2

/-! ## The codes afresh (R137) -/

@[simp] theorem refresh_channels (alarm always : Bool) (l : LightState) :
    (l.refresh alarm always).channels = l.channels.map (Channel.recode alarm l.master) := by
  simp only [LightState.refresh]
  split
  · unfold LightState.requestTransfer; split <;> rfl
  · rfl

/-- R137: recomputing the codes leaves the cues, the master level and the counters. -/
@[simp] theorem refresh_others (alarm always : Bool) (l : LightState) :
    (l.refresh alarm always).cues = l.cues ∧ (l.refresh alarm always).master = l.master
      ∧ (l.refresh alarm always).nextKey = l.nextKey ∧ (l.refresh alarm always).nextSerial = l.nextSerial := by
  simp only [LightState.refresh]
  split
  · unfold LightState.requestTransfer; split <;> exact ⟨rfl, rfl, rfl, rfl⟩
  · exact ⟨rfl, rfl, rfl, rfl⟩

/-- R137: with a transfer requested the codes that are sent are those that stand, or a transfer is pending. -/
theorem requestTransfer_fits (l : LightState) : TransferFits l.requestTransfer := by
  unfold LightState.requestTransfer
  split
  · next hs =>
    refine ⟨fun _ => rfl, fun _ cs hcs => ?_⟩
    cases hcs
    rfl
  · next x hs => exact ⟨fun _ => by simp [hs], nofun⟩

/-- R136, R137: after the codes are recomputed the lights stand between operations. -/
theorem LightsWork.refresh {l : LightState} (h : LightsWork l) (hr : ∀ c ∈ l.channels, c.running) (alarm always : Bool) :
    LightsFit alarm (l.refresh alarm always) := by
  obtain ⟨hcues, hmaster, hkey, -⟩ := refresh_others alarm always l
  refine ⟨⟨?_, ?_, ?_, ?_⟩, ?_, ?_⟩
  · rw [refresh_channels]
    intro c' hc'
    obtain ⟨c, hc, rfl⟩ := List.mem_map.1 hc'
    exact (h.channels c hc).recode alarm h.master
  · rw [hmaster]; exact h.master
  · simp only [LightState.refresh]
    split
    · exact requestTransfer_fits _
    · next hsame =>
      simp only [Bool.or_eq_true, bne_iff_ne, not_or, not_not] at hsame
      unfold TransferFits
      rw [hsame.2]
      exact h.transfer
  · rw [refresh_channels, hcues, hkey]
    exact h.cues.map_same (fun _ _ => rfl) (fun _ _ => rfl)
  · rw [refresh_channels]
    intro c' hc'
    obtain ⟨c, hc, rfl⟩ := List.mem_map.1 hc'
    exact hr c hc
  · rw [refresh_channels, hmaster]
    intro c' hc' he
    obtain ⟨c, hc, rfl⟩ := List.mem_map.1 hc'
    have he : c.enabled = true := he
    simp [Channel.recode, he]

/-! ## Taking a cue (R129 to R132) -/

@[simp] theorem supersede_lights (n : BitVec 16) (cs : List Channel) :
    (supersede n cs s).lights = { s.lights with channels := cs, cues := s.lights.cues.filter (isAlive cs) } := by
  simp [supersede, setCues, setChannels]

@[simp] theorem enterCue_lights (q : PreparedCue) (key : Nat) (serial : BitVec 16) (cs : List Channel) :
    (enterCue q key serial cs s).lights
      = { s.lights with channels := cs, cues := s.lights.cues.filter (isAlive cs) ++ [q.entry key serial] } := by
  simp [enterCue, setCues]

/-- R127: the counters have given the cue its serial and its key. -/
def LightState.numbered (l : LightState) : LightState :=
  { l with nextKey := l.nextKey + 1, nextSerial := l.nextSerial + 1 }

/-- R130: the lights with a cue begun on the channels it applies to. -/
def LightState.begun (q : PreparedCue) (l : LightState) : LightState :=
  let cs := l.channels.map (q.beginOn l.nextKey)
  { l.numbered with channels := cs, cues := l.cues.filter (isAlive cs) ++ [q.entry l.nextKey l.nextSerial] }

/-- R130: the lights with a cue staged on the channels it applies to. -/
def LightState.staging (q : PreparedCue) (w : Wait) (l : LightState) : LightState :=
  let cs := l.channels.map (q.stageOn l.nextKey w)
  { l.numbered with channels := cs, cues := l.cues.filter (isAlive cs) ++ [q.entry l.nextKey l.nextSerial] }

/-- What a start judgement makes of the lights (R130): a cue begins at once, or waits. -/
def StartOutcome.wait : StartOutcome → Option Wait
  | .atOnce => none
  | .late _ => none
  | .nextBoundary => some .next
  | .waitFor n => some (.beat n)
  | .unaligned _ => some .next

/-- R129, R130: the lights after a cue is taken. -/
theorem takeCue_lights (q : PreparedCue) (o : StartOutcome) :
    (takeCue q o s).lights =
      if s.lights.channels.any q.appliesTo = false then s.lights
      else match o.wait with
        | none => (s.lights.begun q).finish.refresh (s.condition == .alarm) false
        | some w => s.lights.staging q w := by
  unfold takeCue
  cases s.lights.channels.any q.appliesTo
  · simp
  · cases o <;> simp [StartOutcome.wait, LightState.begun, LightState.staging, LightState.numbered, State.setLights]

theorem carries_of_beginOn {q : PreparedCue} {key k : Nat} {c : Channel} (h : (q.beginOn key c).carries k) :
    k = key ∨ c.carries k := by
  unfold PreparedCue.beginOn at h
  split at h
  · rcases h with h | h
    · cases h
    · left; cases h; rfl
  · exact .inr h

theorem carries_of_stageOn {q : PreparedCue} {key k : Nat} {w : Wait} {c : Channel} (h : (q.stageOn key w c).carries k) :
    k = key ∨ c.carries k := by
  unfold PreparedCue.stageOn at h
  split at h
  · rcases h with h | h
    · left; cases h; rfl
    · exact .inr (.inr h)
  · exact .inr h

@[simp] theorem beginOn_code (q : PreparedCue) (key : Nat) (c : Channel) : (q.beginOn key c).code = c.code := by
  unfold PreparedCue.beginOn; split <;> rfl

@[simp] theorem stageOn_code (q : PreparedCue) (key : Nat) (w : Wait) (c : Channel) : (q.stageOn key w c).code = c.code := by
  unfold PreparedCue.stageOn; split <;> rfl

theorem LightsWork.begun {l : LightState} (h : LightsWork l) {q : PreparedCue} (hq : q.level ≤ 1000)
    (happlies : l.channels.any q.appliesTo = true) : LightsWork (l.begun q) := by
  refine h.withChannels ?_ (codes_map (beginOn_code q _)) rfl rfl rfl ?_
  · intro c' hc'
    obtain ⟨c, hc, rfl⟩ := List.mem_map.1 hc'
    exact (h.channels c hc).beginOn hq _
  · refine h.cues.enter ?_ ?_ ?_ rfl
    · intro c' hc' k hk
      obtain ⟨c, hc, rfl⟩ := List.mem_map.1 hc'
      exact (carries_of_beginOn hk).imp_right (fun hk => ⟨c, hc, hk⟩)
    · obtain ⟨c, hc, ha⟩ := List.any_eq_true.1 happlies
      exact ⟨_, List.mem_map.2 ⟨c, hc, rfl⟩, .inr (by simp [PreparedCue.beginOn, ha, Channel.activeKey])⟩
    · have hback : ∀ (c : Channel) f, (q.beginOn l.nextKey c).staged = some f → c.staged = some f := by
        intro c f hf
        unfold PreparedCue.beginOn at hf
        split at hf
        · cases hf
        · exact hf
      intro c' hc' d' hd' f g hf hg
      obtain ⟨c, hc, rfl⟩ := List.mem_map.1 hc'
      obtain ⟨d, hd, rfl⟩ := List.mem_map.1 hd'
      exact h.cues.alike c hc d hd f g (hback c f hf) (hback d g hg)

/-- No fade is of the cue that comes next. -/
theorem LightsWork.staged_ne_nextKey {l : LightState} (h : LightsWork l) {c : Channel} (hc : c ∈ l.channels) {f : StagedFade}
    (hf : c.staged = some f) : f.cue ≠ l.nextKey := by
  obtain ⟨e, he, hk⟩ := h.cues.entry c hc f.cue (.inl (by simp [Channel.stagedKey, hf]))
  have := h.cues.below e he
  omega

theorem LightsWork.staging {l : LightState} (h : LightsWork l) {q : PreparedCue} (hq : q.level ≤ 1000) (w : Wait)
    (happlies : l.channels.any q.appliesTo = true) : LightsWork (l.staging q w) := by
  refine h.withChannels ?_ (codes_map (stageOn_code q _ w)) rfl rfl rfl ?_
  · intro c' hc'
    obtain ⟨c, hc, rfl⟩ := List.mem_map.1 hc'
    exact (h.channels c hc).stageOn hq _ w
  · refine h.cues.enter ?_ ?_ ?_ rfl
    · intro c' hc' k hk
      obtain ⟨c, hc, rfl⟩ := List.mem_map.1 hc'
      exact (carries_of_stageOn hk).imp_right (fun hk => ⟨c, hc, hk⟩)
    · obtain ⟨c, hc, ha⟩ := List.any_eq_true.1 happlies
      exact ⟨_, List.mem_map.2 ⟨c, hc, rfl⟩, .inl (by simp [PreparedCue.stageOn, ha, Channel.stagedKey])⟩
    · have hback : ∀ c ∈ l.channels, ∀ f, (q.stageOn l.nextKey w c).staged = some f →
          (f.cue = l.nextKey ∧ f.wait = w) ∨ (f.cue ≠ l.nextKey ∧ c.staged = some f) := by
        intro c hc f hf
        unfold PreparedCue.stageOn at hf
        split at hf
        · cases hf; exact .inl ⟨rfl, rfl⟩
        · exact .inr ⟨h.staged_ne_nextKey hc hf, hf⟩
      intro c' hc' d' hd' f g hf hg heq
      obtain ⟨c, hc, rfl⟩ := List.mem_map.1 hc'
      obtain ⟨d, hd, rfl⟩ := List.mem_map.1 hd'
      rcases hback c hc f hf with ⟨hfk, hfw⟩ | ⟨hfk, hfs⟩ <;> rcases hback d hd g hg with ⟨hgk, hgw⟩ | ⟨hgk, hgs⟩
      · rw [hfw, hgw]
      · exact absurd (heq.trans hfk) hgk
      · exact absurd (heq.symm.trans hgk) hfk
      · exact h.cues.alike c hc d hd f g hfs hgs heq

/-- Staging changes no level and no code. -/
theorem LightsFit.staging {alarm : Bool} {l : LightState} (h : LightsFit alarm l) {q : PreparedCue} (hq : q.level ≤ 1000)
    (w : Wait) (happlies : l.channels.any q.appliesTo = true) : LightsFit alarm (l.staging q w) := by
  refine ⟨h.toLightsWork.staging hq w happlies, ?_, ?_⟩
  · intro c' hc'
    obtain ⟨c, hc, rfl⟩ := List.mem_map.1 hc'
    unfold PreparedCue.stageOn
    split
    · exact h.running c hc
    · exact h.running c hc
  · intro c' hc' he
    obtain ⟨c, hc, rfl⟩ := List.mem_map.1 hc'
    unfold PreparedCue.stageOn at *
    split at he
    · next ha => rw [if_pos ha]; exact h.codes c hc he
    · next ha => rw [if_neg ha]; exact h.codes c hc he

theorem takeCue_lightsFit {q : PreparedCue} (o : StartOutcome) (hq : q.level ≤ 1000)
    (h : LightsFit (s.condition == .alarm) s.lights) : LightsFit (s.condition == .alarm) (takeCue q o s).lights := by
  rw [takeCue_lights]
  split
  · exact h
  · next happlies =>
    rw [Bool.not_eq_false] at happlies
    split
    · obtain ⟨hwork, hrun⟩ := (h.toLightsWork.begun hq happlies).finish
      exact hwork.refresh hrun _ _
    · exact h.staging hq _ happlies

theorem prepareCue_level (source : CueSource) (origin : Origin) (block : AreaBlock) (level duration : Nat) (start : Start) :
    (prepareCue source origin block level duration start).level ≤ 1000 := by
  simp [prepareCue, clampTo]

/-! ## Steps and boundaries (R133, R134) -/

@[simp] theorem step_staged (c : Channel) : c.step.staged = c.staged := by
  unfold Channel.step
  (repeat' split) <;> rfl

@[simp] theorem step_code (c : Channel) : c.step.code = c.code := by
  unfold Channel.step
  (repeat' split) <;> rfl

@[simp] theorem step_activeKey (c : Channel) : c.step.activeKey = c.activeKey := by
  unfold Channel.step Channel.activeKey
  split
  · next f hf => split <;> simp [hf]
  · rfl

/-- R134: the lights after a step of every fade, not yet completed. -/
def LightState.stepped (l : LightState) : LightState := { l with channels := l.channels.map Channel.step }

@[simp] theorem stepFades_lights : (stepFades s).lights = s.lights.stepped.finish := by
  simp [stepFades, setChannels, LightState.stepped]

theorem LightsFit.stepped {alarm : Bool} {l : LightState} (h : LightsFit alarm l) : LightsWork l.stepped := by
  refine h.toLightsWork.withChannels ?_ (codes_map step_code) rfl rfl rfl ?_
  · intro c' hc'
    obtain ⟨c, hc, rfl⟩ := List.mem_map.1 hc'
    exact (h.channels c hc).step (h.running c hc)
  · exact h.cues.map_same (fun c _ => step_staged c) (fun c _ => step_activeKey c)

theorem lightStep_lightsFit (h : LightsFit (s.condition == .alarm) s.lights) :
    LightsFit (s.condition == .alarm) (lightStep s).lights := by
  obtain ⟨hwork, hrun⟩ := h.stepped.finish
  simpa [lightStep] using hwork.refresh hrun (s.condition == .alarm) false

/-- R133: the lights after the staged fades of a cue have started. -/
def LightState.started (key : Nat) (l : LightState) : LightState :=
  let cs := l.channels.map (startStaged key)
  ({ l with channels := cs, cues := l.cues.filter (isAlive cs) } : LightState).finish

/-- R133: the staged fades of a cue are due at the boundary of beat `number`. -/
def cueIsDue (number : BitVec 8) (key : Nat) (l : LightState) : Bool :=
  match stagedOutcome number l.channels key with
  | some .onTime => true
  | some (.late _) => true
  | _ => false

@[simp] theorem startDueCue_lights (e : CueEntry) :
    (startDueCue e s).lights = if cueIsDue s.beat.number e.key s.lights then s.lights.started e.key else s.lights := by
  unfold startDueCue cueIsDue
  (repeat' split) <;> simp_all [LightState.started]

theorem carries_of_startStaged {key k : Nat} {c : Channel} (h : (startStaged key c).carries k) : c.carries k := by
  unfold startStaged at h
  split at h
  · next f hf =>
    split at h
    · next hkey =>
      rcases h with h | h
      · cases h
      · left; cases h; simp [Channel.stagedKey, hf, hkey]
    · exact h
  · exact h

@[simp] theorem startStaged_code (key : Nat) (c : Channel) : (startStaged key c).code = c.code := by
  unfold startStaged
  (repeat' split) <;> rfl

theorem startStaged_staged (key : Nat) (c : Channel) :
    (startStaged key c).staged = c.staged ∨ (startStaged key c).staged = none := by
  unfold startStaged
  (repeat' split) <;> simp

theorem LightsWork.started {l : LightState} (h : LightsWork l) (key : Nat) :
    LightsWork (l.started key) ∧ ∀ c ∈ (l.started key).channels, c.running := by
  apply LightsWork.finish
  refine h.withChannels ?_ (codes_map (startStaged_code key)) rfl rfl rfl ?_
  · intro c' hc'
    obtain ⟨c, hc, rfl⟩ := List.mem_map.1 hc'
    exact (h.channels c hc).startStaged key
  · exact h.cues.map (fun c _ k => carries_of_startStaged) (fun c _ => startStaged_staged key c)

theorem startDueCues_lightsWork (es : List CueEntry) : ∀ s : State, LightsWork s.lights →
    (∀ c ∈ s.lights.channels, c.running) →
    LightsWork (es.foldl (fun s e => startDueCue e s) s).lights
      ∧ ∀ c ∈ (es.foldl (fun s e => startDueCue e s) s).lights.channels, c.running := by
  induction es with
  | nil => intro s h hr; exact ⟨h, hr⟩
  | cons e es ih =>
    intro s h hr
    rw [List.foldl_cons]
    refine ih _ ?_ ?_
    · rw [startDueCue_lights]; split <;> [exact (h.started e.key).1; exact h]
    · rw [startDueCue_lights]; split <;> [exact (h.started e.key).2; exact hr]

theorem startDueCues_condition (es : List CueEntry) :
    (es.foldl (fun s e => startDueCue e s) s).condition = s.condition :=
  foldl_keeps (fun s => s.condition) _ (by intros; simp) _ _

theorem lightBoundary_lightsFit (h : LightsFit (s.condition == .alarm) s.lights) :
    LightsFit (s.condition == .alarm) (lightBoundary s).lights := by
  obtain ⟨hwork, hrun⟩ := h.stepped.finish
  rw [← stepFades_lights] at hwork hrun
  obtain ⟨hwork, hrun⟩ := startDueCues_lightsWork (stepFades s).lights.cues (stepFades s) hwork hrun
  have := hwork.refresh hrun (s.condition == .alarm) false
  simpa [lightBoundary, startDueCues_condition] using this

/-! ## The end of a fade by its row, the master level, the condition, the transfer (R135, R137 to R140) -/

/-- R135: the elapsed steps of an active fade of the cue reach its duration. -/
def Channel.toEnd (key : Nat) (c : Channel) : Channel :=
  match c.active with
  | some f => if f.cue = key then { c with active := some { f with elapsed := f.duration } } else c
  | none => c

/-- R135: the lights with the fades of a cue at their ends. -/
def LightState.ended (key : Nat) (l : LightState) : LightState := { l with channels := l.channels.map (Channel.toEnd key) }

/-- R135: the row FADE_COMPLETE brings the fades of the channel's cue to their ends, and they complete. -/
theorem completeFade_eq (n : Nat) :
    completeFade n s = match (s.lights.channels[n]?).bind Channel.activeKey with
      | none => s
      | some key => refreshLights false (finishFades (setChannels (s.lights.channels.map (Channel.toEnd key)) s)) := rfl

theorem completeFade_lights (n : Nat) :
    (completeFade n s).lights = match (s.lights.channels[n]?).bind Channel.activeKey with
      | none => s.lights
      | some key => (s.lights.ended key).finish.refresh (s.condition == .alarm) false := by
  rw [completeFade_eq]
  cases (s.lights.channels[n]?).bind Channel.activeKey <;> simp [setChannels, LightState.ended]

theorem toEnd_frame (key : Nat) (c : Channel) :
    (c.toEnd key).staged = c.staged ∧ (c.toEnd key).code = c.code ∧ (c.toEnd key).level = c.level
      ∧ (c.toEnd key).enabled = c.enabled ∧ (c.toEnd key).activeKey = c.activeKey := by
  unfold Channel.toEnd Channel.activeKey
  split
  · next f hf => split <;> simp [hf]
  · simp

theorem ChannelFits.toEnd {c : Channel} (h : ChannelFits c) (key : Nat) : ChannelFits (c.toEnd key) := by
  unfold Channel.toEnd
  split
  · next f hf =>
    split
    · refine ⟨h.level, h.code, fun he => ?_, ?_, h.staged⟩
      · rw [(h.disabled he).2.2.2] at hf; cases hf
      · rintro g ⟨⟩; exact h.active f hf
    · exact h
  · exact h

theorem LightsWork.ended {l : LightState} (h : LightsWork l) (key : Nat) : LightsWork (l.ended key) := by
  refine h.withChannels ?_ (codes_map (fun c => (toEnd_frame key c).2.1)) rfl rfl rfl ?_
  · intro c' hc'
    obtain ⟨c, hc, rfl⟩ := List.mem_map.1 hc'
    exact (h.channels c hc).toEnd key
  · exact h.cues.map_same (fun c _ => (toEnd_frame key c).1) (fun c _ => (toEnd_frame key c).2.2.2.2)

theorem completeFade_lightsFit (n : Nat) (h : LightsFit (s.condition == .alarm) s.lights) :
    LightsFit (s.condition == .alarm) (completeFade n s).lights := by
  rw [completeFade_lights]
  split
  · exact h
  · next key _ =>
    obtain ⟨hwork, hrun⟩ := (h.toLightsWork.ended key).finish
    exact hwork.refresh hrun _ _

theorem setMasterLevel_lightsFit (v : Nat) (h : LightsFit (s.condition == .alarm) s.lights) :
    LightsFit (s.condition == .alarm) (setMasterLevel v s).lights := by
  have hwork : LightsWork { s.lights with master := clampTo 0 1000 v } :=
    ⟨h.channels, by simp [clampTo], h.transfer, h.cues⟩
  exact hwork.refresh h.running _ _

theorem endTransfer_lightsFit {alarm : Bool} {l : LightState} (h : LightsFit alarm l) : LightsFit alarm (endTransfer l) := by
  unfold endTransfer
  split
  · exact h
  · split
    · exact ⟨⟨h.channels, h.master, ⟨nofun, fun _ cs hcs => by cases hcs; rfl⟩, h.cues⟩, h.running, h.codes⟩
    · next hp => exact ⟨⟨h.channels, h.master, ⟨fun hp' => absurd hp' hp, nofun⟩, h.cues⟩, h.running, h.codes⟩

/-- R140: the lights with every fade cancelled. -/
def LightState.cancelled (l : LightState) : LightState :=
  { l with channels := l.channels.map Channel.afterAlarm, cues := [] }

theorem cancelFades_lights :
    (cancelFades s).lights = s.lights.cancelled.refresh (s.condition == .alarm) true := by
  unfold cancelFades
  dsimp only
  split <;> rfl

theorem LightsWork.cancelled {l : LightState} (h : LightsWork l) :
    LightsWork l.cancelled ∧ ∀ c ∈ l.cancelled.channels, c.running := by
  refine ⟨h.withChannels ?_ (codes_map (fun _ => rfl)) rfl rfl rfl ?_, ?_⟩
  · intro c' hc'
    obtain ⟨c, hc, rfl⟩ := List.mem_map.1 hc'
    exact (h.channels c hc).afterAlarm.1
  · refine ⟨nofun, fun c' hc' k hk => ?_, nofun, List.nodup_nil, fun c' hc' d' hd' f g hf => ?_⟩
    · obtain ⟨c, hc, rfl⟩ := List.mem_map.1 hc'
      rcases hk with hk | hk <;> cases hk
    · obtain ⟨c, hc, rfl⟩ := List.mem_map.1 hc'
      cases hf
  · intro c' hc'
    obtain ⟨c, hc, rfl⟩ := List.mem_map.1 hc'
    exact (h.channels c hc).afterAlarm.2

/-- R139, R140: whatever the condition was, the lights follow the new one. -/
theorem lightCondition_lightsFit {alarm : Bool} (previous : Condition) (h : LightsFit alarm s.lights) :
    LightsFit (s.condition == .alarm) (lightCondition previous s).lights := by
  unfold lightCondition
  split
  · obtain ⟨hwork, hrun⟩ := h.toLightsWork.cancelled
    rw [cancelFades_lights]
    exact hwork.refresh hrun _ _
  · exact h.toLightsWork.refresh h.running _ _

end Sys2Proof.Machine
end

section
/-! PROOFS. What every shared operation keeps in LISTEN and ACTIVE: the invariant of an event under way, and the
operations of the Call Unit, the Curtain Governor and the Condition Evaluator under it. -/

namespace Sys2Proof.Machine

variable {s t : State}

/-! ## What an operation leaves, as one equation -/

/-- What the operations of the Light Fader leave alone, in the form of their frame lemmas. -/
theorem relit_of_frame (h : t.phase = s.phase ∧ t.mode = s.mode ∧ t.config = s.config ∧ t.listenCount = s.listenCount
    ∧ t.clampCount = s.clampCount ∧ t.resetHeld = s.resetHeld ∧ t.line = s.line ∧ t.peers = s.peers
    ∧ t.condition = s.condition ∧ t.faults = s.faults ∧ t.beat = s.beat ∧ t.zones = s.zones ∧ t.curtain = s.curtain
    ∧ t.pins = s.pins ∧ t.calls = s.calls ∧ t.boundaryUnderway = s.boundaryUnderway
    ∧ t.placementHeld = s.placementHeld ∧ t.pending = s.pending) :
    t = { s with lights := t.lights, panel := t.panel } := by
  cases t; simp_all

/-- What the operations of the Call Unit leave alone, in the form of their frame lemmas. -/
theorem recalled_of_frame (h : t.phase = s.phase ∧ t.mode = s.mode ∧ t.config = s.config ∧ t.listenCount = s.listenCount
    ∧ t.clampCount = s.clampCount ∧ t.resetHeld = s.resetHeld ∧ t.line = s.line ∧ t.peers = s.peers
    ∧ t.condition = s.condition ∧ t.faults = s.faults ∧ t.beat = s.beat ∧ t.zones = s.zones ∧ t.curtain = s.curtain
    ∧ t.pins = s.pins ∧ t.boundaryUnderway = s.boundaryUnderway
    ∧ t.placementHeld = s.placementHeld ∧ t.pending = s.pending) :
    t = { s with lights := t.lights, calls := t.calls, panel := t.panel } := by
  cases t; simp_all

/-! ## The invariant -/

/-- The laws of the curtain record. A and B say that the curtain may stand in RAISING and in LOWERING. -/
structure CurtainFits (A B : Prop) (cfg : ConfigRecord) (r : CurtainRecord) : Prop where
  out       : r.out = (r.state.map outputsOf).getD CurtainOutputs.released
  hold      : r.hold.isSome = isRaise r.state
  holdFits  : ∀ h, r.hold = some h →
    1 ≤ h.remaining ∧ h.remaining ≤ cfg.holdLapse ∧ (h.back = .down ∨ h.back = .stopped)
  handshake : handshakeOk cfg.startTimeout r.state r.handshake = true
  descent   : r.descent.isSome = isDescent r.state
  stall     : r.stalledNow = true → r.state = some .jammed
  raising   : r.state = some .raising → A
  lowering  : r.state = some .lowering → B

/-- An entry of the peer table (R43, R45). -/
structure EntryFits (cfg : ConfigRecord) (e : PeerEntry) : Prop where
  station  : 1 ≤ e.station ∧ e.station ≤ 31 ∧ e.station ≠ cfg.station
  heard    : e.heard ≤ 255
  zones    : zoneListOk e.zones = true
  liveness : e.liveness = livenessOf cfg.statusInterval e.heard

/-- The Peer Monitor (R43, R45, R53, R56). -/
structure PeersFit (cfg : ConfigRecord) (p : PeerState) : Prop where
  rising   : p.table.Pairwise (fun x y => x.station < y.station)
  entries  : ∀ e ∈ p.table, EntryFits cfg e
  anyPeer  : p.anyPeer ≤ 255
  schedule : p.schedule < cfg.statusInterval

/-- The zone records (R1). -/
def ZonesFit (zs : List ZoneRecord) : Prop := zs.length = 8 ∧ ∀ z ∈ zs, zoneRecordOk z = true

/-- The line beside its queue (R34 to R36, R42, R69). -/
structure LineFits (active : Prop) (degraded : Bool) (l : LineState) : Prop where
  tx     : txOk l.tx
  silent : ¬active → l.tx = [] ∧ l.slot = none ∧ l.heldBeat = none
  held   : l.heldBeat.isSome = true → l.slot = none
  counts : l.checkCount ≤ 255 ∧ l.formCount ≤ 255 ∧ l.bitCount ≤ 255 ∧ l.good ≤ 15 ∧ l.score ≤ 15 ∧ 1 ≤ l.threshold
  high   : l.threshold ≤ l.score → degraded = true
  low    : l.score = 0 → degraded = false

/-- The Beat Unit while the timer runs (R62, R73). -/
structure BeatFits (b : BeatState) : Prop where
  running   : b.running = true
  position  : b.position < b.period
  overtaken : b.overtaken = true → b.position = 0
  stepIndex : b.stepIndex ≤ 9
  run       : b.run ≤ 3
  locked    : b.lock = .locked → b.run = 0
  received  : b.received ≤ 255

/-- The report queue (R166, R167). -/
structure ReportsFit (p : PanelState) : Prop where
  length    : p.reports.length ≤ 32
  lost      : p.lost ≤ 255
  attention : p.attention = !p.reports.isEmpty
  full      : 0 < p.lost → p.reports.length = 32

/-- What holds throughout an event in LISTEN and ACTIVE, the condition and the lights apart. u says whether the delivery
of a boundary is under way. -/
structure Steady (u : Bool) (A B : Prop) (s : State) : Prop where
  working  : s.working = true
  config   : ∃ c, s.config = some c ∧ c.ok = true
  underway : s.boundaryUnderway = u
  held     : s.placementHeld = true → u = true
  line     : LineFits (s.phase = .active) s.faults.lineDegraded s.line
  peers    : PeersFit s.cfg s.peers
  zones    : ZonesFit s.zones
  beat     : BeatFits s.beat
  curtain  : CurtainFits A B s.cfg s.curtain
  panel    : ReportsFit s.panel

/-- What holds throughout an event in LISTEN and ACTIVE. With b false a recomputation of the condition may be owed. -/
structure Inv (u : Bool) (A B : Prop) (b : Bool) (s : State) : Prop extends Steady u A B s where
  calm    : isRaise s.curtain.state = true → s.condition = .quiet ∨ s.condition = .fault
  lights  : LightsFit (s.condition == .alarm) s.lights
  settled : b = true → s.condition = s.computedCondition

variable {u b : Bool} {A B : Prop}

/-- The numbers of the record in force that the blocks rely on (R171). -/
theorem Steady.cfg_bounds (h : Steady u A B s) :
    1 ≤ s.cfg.station ∧ s.cfg.station ≤ 31 ∧ 4 ≤ s.cfg.statusInterval ∧ s.cfg.statusInterval ≤ 32
      ∧ 5 ≤ s.cfg.startTimeout ∧ 1 ≤ s.cfg.holdLapse := by
  obtain ⟨c, hc, hok⟩ := h.config
  have : s.cfg = c := by simp [State.cfg, hc]
  rw [this]
  simp only [ConfigRecord.ok, Bool.and_eq_true, decide_eq_true_eq] at hok
  obtain ⟨hok, -⟩ := hok
  tauto

theorem Inv.owes (h : Inv u A B b s) : Inv u A B false s := { h with settled := nofun }

/-- The debt of a recomputation is stated by b alone. -/
theorem Inv.of_true (h : Inv u A B true s) : Inv u A B b s := { h with settled := fun _ => h.settled rfl }

/-! ## The single updates -/

theorem ReportsFit.push {p : PanelState} (h : ReportsFit p) (r : ReportRecord) : ReportsFit (p.push r) := by
  unfold PanelState.push
  split
  · next hlt =>
    refine ⟨by simp; omega, h.lost, by simp, fun hl => ?_⟩
    have := h.full hl
    omega
  · refine ⟨h.length, ?_, h.attention, fun _ => ?_⟩
    · simp [bump]
    · have := h.length
      dsimp only
      omega

theorem ReportsFit.grows {p q : PanelState} (h : ReportsFit p) (hq : PanelGrows p q) : ReportsFit q := by
  obtain ⟨rs, rfl⟩ := hq
  induction rs generalizing p with
  | nil => exact h
  | cons r rs ih => exact ih (h.push r)

theorem Steady.report (h : Steady u A B s) (r : Report) : Steady u A B (report r s) :=
  { h with panel := h.panel.push _ }

theorem Inv.report (h : Inv u A B b s) (r : Report) : Inv u A B b (report r s) :=
  { h with panel := h.panel.push _ }

theorem Steady.setLine (h : Steady u A B s) {l : LineState} (hl : LineFits (s.phase = .active) s.faults.lineDegraded l) :
    Steady u A B (s.setLine l) := { h with line := hl }

theorem Inv.setLine (h : Inv u A B b s) {l : LineState} (hl : LineFits (s.phase = .active) s.faults.lineDegraded l) :
    Inv u A B b (s.setLine l) := { h with line := hl }

theorem Inv.setCalls (h : Inv u A B b s) (c : CallState) : Inv u A B b (s.setCalls c) := { h with }

theorem Inv.setMode (h : Inv u A B b s) (m : Mode) : Inv u A B b (s.setMode m) := { h with }

theorem Inv.setPins (h : Inv u A B b s) (p : CurtainPins) : Inv u A B b (s.setPins p) := { h with }

theorem Inv.setListenCount (h : Inv u A B b s) (n : Nat) : Inv u A B b (s.setListenCount n) := { h with }

theorem Inv.setBeat (h : Inv u A B b s) {x : BeatState} (hx : BeatFits x) : Inv u A B b (s.setBeat x) := { h with beat := hx }

theorem Inv.setLights (h : Inv u A B b s) {l : LightState} (hl : LightsFit (s.condition == .alarm) l) :
    Inv u A B b (s.setLights l) := { h with lights := hl }

theorem Steady.setCurtain (h : Steady u A B s) {c : CurtainRecord} (hc : CurtainFits A B s.cfg c) :
    Steady u A B (s.setCurtain c) := { h with curtain := hc }

theorem Inv.setCurtain (h : Inv u A B b s) {c : CurtainRecord} (hc : CurtainFits A B s.cfg c)
    (hstate : c.state = s.curtain.state) : Inv u A B b (s.setCurtain c) :=
  { h with curtain := hc, calm := fun hr => h.calm (by rw [← hstate]; exact hr) }

/-- A change of the peers that leaves the condition's inputs. -/
theorem Inv.setPeers (h : Inv u A B b s) {p : PeerState} (hp : PeersFit s.cfg p)
    (hcond : (s.setPeers p).computedCondition = s.computedCondition) : Inv u A B b (s.setPeers p) :=
  { h with peers := hp, settled := fun hb => by rw [hcond]; exact h.settled hb }

/-- A change of the peers that owes a recomputation. -/
theorem Inv.setPeers_owing (h : Inv u A B b s) {p : PeerState} (hp : PeersFit s.cfg p) :
    Inv u A B false (s.setPeers p) := { h with peers := hp, settled := nofun }

theorem Inv.setZones (h : Inv u A B b s) {zs : List ZoneRecord} (hz : ZonesFit zs) :
    Inv u A B false (s.setZones zs) := { h with zones := hz, settled := nofun }

/-- A station fault beside LINE_DEGRADED enters or leaves the set. -/
theorem Inv.setFaults (h : Inv u A B b s) {f : FaultSet} (hf : f.lineDegraded = s.faults.lineDegraded) :
    Inv u A B false (s.setFaults f) :=
  { h with line := by rw [setFaults_faults, hf]; exact h.line, settled := nofun }

theorem Steady.setFaults (h : Steady u A B s) {f : FaultSet} (hf : f.lineDegraded = s.faults.lineDegraded) :
    Steady u A B (s.setFaults f) :=
  { h with line := by rw [setFaults_faults, hf]; exact h.line }

theorem Inv.activate (h : Inv u A B b s) : Inv u A B b (s.setPhase .active) :=
  { h with working := rfl, line := { h.line with silent := fun ha => absurd rfl ha } }

/-- Operations of the Light Fader. -/
theorem Inv.relit (h : Inv u A B b s) (ht : t = { s with lights := t.lights, panel := t.panel })
    (hl : LightsFit (s.condition == .alarm) t.lights) (hp : PanelGrows s.panel t.panel) : Inv u A B b t := by
  rw [ht]
  exact { h with lights := hl, panel := h.panel.grows hp }

/-- Operations of the Call Unit on a state whose lights may be stale. -/
theorem Steady.recalled (h : Steady u A B s) (ht : t = { s with lights := t.lights, calls := t.calls, panel := t.panel })
    (hp : PanelGrows s.panel t.panel) : Steady u A B t := by
  rw [ht]
  exact { h with panel := h.panel.grows hp }

/-- Operations of the Call Unit. -/
theorem Inv.recalled (h : Inv u A B b s) (ht : t = { s with lights := t.lights, calls := t.calls, panel := t.panel })
    (hl : LightsFit (s.condition == .alarm) t.lights) (hp : PanelGrows s.panel t.panel) : Inv u A B b t := by
  rw [ht]
  exact { h with lights := hl, panel := h.panel.grows hp }

/-! ## The Light Fader -/

theorem Inv.takeCue (h : Inv u A B b s) {q : PreparedCue} (hq : q.level ≤ 1000) (o : StartOutcome) :
    Inv u A B b (takeCue q o s) :=
  h.relit (relit_of_frame (takeCue_frame s q o)) (takeCue_lightsFit s o hq h.lights) (takeCue_grows _ _ _ _ (PanelGrows.refl _))

theorem Inv.takeCueFrame (h : Inv u A B b s) (x : Nat) (bl : AreaBlock) (l d : Nat) (st : Start) :
    Inv u A B b (takeCueFrame x bl l d st s) := h.takeCue (prepareCue_level ..) _

theorem Inv.lightBoundary (h : Inv u A B b s) : Inv u A B b (lightBoundary s) :=
  h.relit (relit_of_frame (lightBoundary_frame s)) (lightBoundary_lightsFit s h.lights)
    (lightBoundary_grows _ _ (PanelGrows.refl _))

theorem Inv.lightStep (h : Inv u A B b s) : Inv u A B b (lightStep s) :=
  h.relit (relit_of_frame (lightStep_frame s)) (lightStep_lightsFit s h.lights) (lightStep_grows _ _ (PanelGrows.refl _))

theorem Inv.completeFade (h : Inv u A B b s) (n : Nat) : Inv u A B b (completeFade n s) :=
  h.relit (relit_of_frame (completeFade_frame s n)) (completeFade_lightsFit s n h.lights)
    (completeFade_grows _ _ _ (PanelGrows.refl _))

theorem Inv.setMasterLevel (h : Inv u A B b s) (v : Nat) : Inv u A B b (setMasterLevel v s) :=
  h.relit (relit_of_frame (setMasterLevel_frame s v)) (setMasterLevel_lightsFit s v h.lights)
    (setMasterLevel_grows _ _ _ (PanelGrows.refl _))

/-! ## The Call Unit: the lights it reaches by linked cues (R141) -/

/-- The lights follow the condition. -/
abbrev Lit (s : State) : Prop := LightsFit (s.condition == .alarm) s.lights

theorem Lit.setCalls (h : Lit s) (c : CallState) : Lit (s.setCalls c) := h

theorem Lit.report (h : Lit s) (r : Report) : Lit (report r s) := h

theorem Lit.takeLinkedCue (h : Lit s) (o : Origin) (bl : AreaBlock) (q : LinkedCue) : Lit (takeLinkedCue o bl q s) := by
  have := takeCue_lightsFit s .atOnce (prepareCue_level .callLink o bl q.level q.duration .now) h
  unfold Lit
  rw [(takeLinkedCue_frame s o bl q).2.2.2.2.2.2.2.2.1]
  exact this

theorem Lit.startEntry (h : Lit s) (e : CallEntry) : Lit (startEntry e s) := by
  unfold Machine.startEntry
  dsimp only
  split
  · exact h
  split
  · exact h
  · next q _ => exact ((h.setCalls _).report _).takeLinkedCue _ _ q

theorem Lit.judgeChosen (h : Lit s) (x : Bool) (e : CallEntry) : Lit (judgeChosen x e s) := by
  unfold Machine.judgeChosen
  split
  · exact h.startEntry e
  split
  · exact h.startEntry e
  · split <;> [exact h.startEntry e; exact h]
  · split
    · exact h
    · dsimp only
      split
      · exact h
      split
      · exact h.startEntry e
      · exact (h.report _).startEntry e

theorem Lit.choose (h : Lit s) (x : Bool) : Lit (choose x s) := by
  unfold Machine.choose
  split
  · split
    · exact h
    · split <;> [exact h; exact h.judgeChosen x _]
  · exact h

theorem Lit.removeCall (h : Lit s) (k : CallKey) : Lit (removeCall k s) := by
  unfold Machine.removeCall
  dsimp only
  split <;> exact h

theorem Lit.enqueueCall (h : Lit s) (e : CallEntry) : Lit (enqueueCall e s) := by
  unfold Machine.enqueueCall
  split
  · exact ((h.setCalls _).report _).choose false
  split
  · exact (h.setCalls _).choose false
  split
  · split
    · exact (((h.removeCall _).report _).setCalls _).choose false
    · exact h
  · exact h

theorem Lit.callBoundary (h : Lit s) : Lit (callBoundary s) := by
  unfold Machine.callBoundary
  split
  · exact h
  · exact h.choose true
  · exact (h.setCalls _).choose true
  · split
    · split
      · exact h.startEntry _
      · exact (h.report _).startEntry _
      · exact h
    · exact (h.setCalls _).choose true

theorem clearSilence_lights (c : SilenceCause) (s : State) : (clearSilence c s).lights = s.lights := by
  simp

theorem Lit.callCondition (h : Lit s) (previous : Condition) : Lit (callCondition previous s) := by
  unfold Machine.callCondition
  split
  · exact h
  split
  · simpa [Lit] using h
  split
  · simpa [Lit] using h
  split
  · exact (h.setCalls _).choose false
  split
  · unfold Machine.resumeCalls
    split <;> [exact h; exact (h.setCalls _).choose false]
  · exact h

theorem Inv.enqueueCall (h : Inv u A B b s) (e : CallEntry) : Inv u A B b (enqueueCall e s) :=
  h.recalled (recalled_of_frame (enqueueCall_frame s e))
    (by have := Lit.enqueueCall h.lights e; unfold Lit at this; rwa [(enqueueCall_frame s e).2.2.2.2.2.2.2.2.1] at this)
    (enqueueCall_grows _ _ _ (PanelGrows.refl _))

theorem Inv.takeCallFrame (h : Inv u A B b s) (e : CallEntry) : Inv u A B b (takeCallFrame e s) := by
  unfold Machine.takeCallFrame
  split
  · exact h
  split
  · exact h.report _
  split
  · exact h.report _
  · exact h.enqueueCall e

theorem Inv.callBoundary (h : Inv u A B b s) : Inv u A B b (callBoundary s) :=
  h.recalled (recalled_of_frame (callBoundary_frame s))
    (by have := Lit.callBoundary h.lights; unfold Lit at this; rwa [(callBoundary_frame s).2.2.2.2.2.2.2.2.1] at this)
    (callBoundary_grows _ _ (PanelGrows.refl _))

/-- R149: a warning is placed at once, or held back while a boundary is delivered. -/
theorem Inv.placeWarning (h : Inv u A B b s) : Inv u A B b (placeWarning s) := by
  unfold Machine.placeWarning
  split
  · next hu => exact { h with held := fun _ => h.underway ▸ hu }
  · exact h.enqueueCall _

theorem Steady.placeWarning (h : Steady u A B s) : Steady u A B (placeWarning s) := by
  unfold Machine.placeWarning
  split
  · next hu => exact { h with held := fun _ => h.underway ▸ hu }
  · exact h.recalled (recalled_of_frame (enqueueCall_frame s _)) (enqueueCall_grows _ _ _ (PanelGrows.refl _))

theorem Inv.cadencePhase (h : Inv u A B b s) : Inv u A B b (cadencePhase s) := by
  unfold Machine.cadencePhase
  split
  · split <;> [exact h.setCalls _; exact h]
  · exact h

theorem Inv.evacuationPhase (h : Inv u A B b s) : Inv u A B b (evacuationPhase s) := by
  unfold Machine.evacuationPhase
  split <;> [exact h.setCalls _; exact h]

theorem Inv.setSilence (h : Inv u A B b s) : Inv u A B b (setSilence s) := by
  unfold Machine.setSilence
  split <;> [exact h; exact (h.setCalls _).report _]

theorem Inv.clearSilence (h : Inv u A B b s) (c : SilenceCause) : Inv u A B b (clearSilence c s) := by
  unfold Machine.clearSilence
  split <;> [exact (h.setCalls _).report _; exact h]

theorem Inv.countedAlarm (h : Inv u A B b s) : Inv u A B b (countedAlarm s) := h.clearSilence _

theorem Inv.endPlaying (h : Inv u A B b s) (k : CallKey) : Inv u A B b (endPlaying k s) := h.setCalls _

theorem Inv.restAfter (h : Inv u A B b s) (k : CallKey) : Inv u A B b (restAfter k s) := by
  unfold Machine.restAfter
  refine Inv.setCalls ?_ _
  split
  · split <;> [exact (h.setCalls _).report _; exact h]
  · exact h

/-! ## The transmit queue -/

/-- R37 to R39: the line after an offer. -/
theorem LineFits.offer (f : Payload) (h : LineFits (s.phase = .active) s.faults.lineDegraded s.line) :
    LineFits (s.phase = .active) s.faults.lineDegraded (offer f s).line := by
  have hline := offer_line s f
  obtain ⟨hslot, hheld, hcheck, hform, hbit, hscore, hgood, hthr⟩ := hline
  refine ⟨offer_txOk s f h.tx, fun ha => ?_, ?_, ?_, ?_, ?_⟩
  · rw [offer_inactive s f ha]; exact h.silent ha
  · rw [hslot, hheld]; exact h.held
  · rw [hcheck, hform, hbit, hgood, hscore, hthr]; exact h.counts
  · rw [hscore, hthr]; exact h.high
  · rw [hscore]; exact h.low

/-- What an offer leaves alone. -/
theorem requeued_offer (f : Payload) (s : State) :
    offer f s = { s with line := (offer f s).line, panel := (offer f s).panel } := by
  have h := offer_frame s f
  revert h
  generalize offer f s = t
  intro h
  cases t; simp_all

theorem Steady.offer (h : Steady u A B s) (f : Payload) : Steady u A B (offer f s) := by
  rw [requeued_offer]
  exact { h with line := h.line.offer f, panel := h.panel.grows (offer_grows _ _ _ (PanelGrows.refl _)) }

theorem Inv.offer (h : Inv u A B b s) (f : Payload) : Inv u A B b (offer f s) := by
  rw [requeued_offer]
  exact { h with line := h.line.offer f, panel := h.panel.grows (offer_grows _ _ _ (PanelGrows.refl _)) }

end Sys2Proof.Machine
end

section
/-! PROOFS. The curtain's record under a change of state, and the recomputation of the condition, under the invariant. -/

namespace Sys2Proof.Machine

variable {s t : State} {u b : Bool} {A B : Prop}

/-! ## The curtain record after a change (R94, R99, R117) -/

theorem isDriven_iff {x : Option CurtainState} : isDriven x = true ↔ x = some .raising ∨ x = some .lowering := by
  simp [isDriven]

theorem isDescent_iff {x : Option CurtainState} : isDescent x = true ↔ x = some .lowering ∨ x = some .dropping := by
  simp [isDescent]

theorem isRaise_iff {x : Option CurtainState} : isRaise x = true ↔ x = some .warnRaise ∨ x = some .raising := by
  simp [isRaise]

/-- R99 step 2: the handshake after a change is one that the new state can have. -/
theorem handshakeAfter_ok {timeout : Nat} (hpos : 0 < timeout) {prev : Option CurtainState} {new : CurtainState} {h : Handshake}
    (hok : handshakeOk timeout prev h = true) (hraise : new = .warnRaise → isDriven prev = false) :
    handshakeOk timeout (some new) (handshakeAfter prev new h) = true := by
  have hkept : isDriven prev = false → isDriven (some new) = false → new ≠ .dropping → new ≠ .jammed →
      handshakeOk timeout (some new) h = true := by
    intro hp hn hd hj
    cases h <;> simp_all [handshakeOk]
  have hstop : isDriven (some new) = false → new ≠ .dropping → new ≠ .jammed →
      handshakeOk timeout (some new) (if isDriven prev then .stop 0 else h) = true := by
    intro hn hd hj
    cases hp : isDriven prev
    · simpa using hkept hp hn hd hj
    · simp [handshakeOk, hn, hd, hj, hpos]
  cases new with
  | raising => simp [handshakeAfter, handshakeOk, isDriven, hpos]
  | lowering => simp [handshakeAfter, handshakeOk, isDriven, hpos]
  | dropping => rfl
  | jammed => rfl
  | up => exact hstop rfl nofun nofun
  | stopped => exact hstop rfl nofun nofun
  | down => exact hstop rfl nofun nofun
  | warnLower => exact hstop rfl nofun nofun
  | warnRaise => exact hkept (hraise rfl) rfl nofun nofun

/-- R114: a descent record stands after a change exactly in a descent. -/
theorem descentAfter_isSome {prev : Option CurtainState} {new : CurtainState} {c : CurtainRecord}
    (h : isDescent prev = true → c.descent.isSome = true) :
    (descentAfter prev new c).isSome = isDescent (some new) := by
  unfold descentAfter
  split
  · next hd =>
    split
    · next hp => rw [h hp, hd]
    · rw [hd]; rfl
  · next hd => simpa using hd

/-- What a record must bring to a change of state for the laws to hold after it. -/
structure ReadyFor (A B : Prop) (cfg : ConfigRecord) (new : CurtainState) (r : CurtainRecord) : Prop where
  handshake : handshakeOk cfg.startTimeout r.state r.handshake = true
  descent   : r.descent.isSome = isDescent r.state
  warnRaise : new = .warnRaise → isDriven r.state = false
  noHold    : isRaise (some new) = false → isRaise r.state = false → r.hold = none
  hold      : isRaise (some new) = true → r.hold.isSome = true ∧ ∀ h, r.hold = some h →
    1 ≤ h.remaining ∧ h.remaining ≤ cfg.holdLapse ∧ (h.back = .down ∨ h.back = .stopped)
  raising   : new = .raising → A
  lowering  : new = .lowering → B

theorem ReadyFor.after {cfg : ConfigRecord} {new : CurtainState} {r : CurtainRecord} (h : ReadyFor A B cfg new r)
    (hpos : 0 < cfg.startTimeout) : CurtainFits A B cfg (curtainRecordAfter new r) where
  out := rfl
  hold := by
    show (if isRaise r.state && !isRaise (some new) then none else r.hold).isSome = isRaise (some new)
    cases hn : isRaise (some new)
    · cases hr : isRaise r.state
      · simp [h.noHold hn hr]
      · rfl
    · simpa using (h.hold hn).1
  holdFits x hx := by
    have hx : (if isRaise r.state && !isRaise (some new) then none else r.hold) = some x := hx
    split at hx
    · cases hx
    · cases hn : isRaise (some new)
      · cases hr : isRaise r.state
        · rw [h.noHold hn hr] at hx; cases hx
        · simp_all
      · exact (h.hold hn).2 x hx
  handshake := handshakeAfter_ok hpos h.handshake h.warnRaise
  descent := descentAfter_isSome (fun hd => by rw [h.descent, hd])
  stall := nofun
  raising hs := h.raising (by cases hs; rfl)
  lowering hs := h.lowering (by cases hs; rfl)

/-- Every state but the two of a raise may follow a record that keeps its laws. -/
theorem CurtainFits.ready {cfg : ConfigRecord} {new : CurtainState} {r : CurtainRecord} (h : CurtainFits A B cfg r)
    (hn : isRaise (some new) = false) (hB : new = .lowering → B) : ReadyFor A B cfg new r where
  handshake := h.handshake
  descent := h.descent
  warnRaise hw := by rw [hw] at hn; cases hn
  noHold _ hr := by have := h.hold; rw [hr] at this; simpa using this
  hold hr := by rw [hn] at hr; cases hr
  raising hr := by rw [hr] at hn; cases hn
  lowering := hB

/-- The hold of a raise that ends is of no account. -/
theorem ReadyFor.anyHold {cfg : ConfigRecord} {new : CurtainState} {r : CurtainRecord} (h : ReadyFor A B cfg new r)
    (hn : isRaise (some new) = false) (hr : isRaise r.state = true) (x : Option Hold) :
    ReadyFor A B cfg new { r with hold := x } :=
  { h with
    noHold := fun _ hr' => by rw [hr] at hr'; cases hr'
    hold := fun hr' => by rw [hn] at hr'; cases hr' }

/-- A position taken at a limit or a count. -/
theorem CurtainFits.placed {cfg : ConfigRecord} {r : CurtainRecord} (h : CurtainFits A B cfg r) (pos : Nat) (known : Bool)
    (movement : BitVec 16) : CurtainFits A B cfg { r with pos := pos, known := known, movement := movement } := { h with }

/-- A descent record changed in place. -/
theorem CurtainFits.redescend {cfg : ConfigRecord} {r : CurtainRecord} (h : CurtainFits A B cfg r) {d : Option Descent}
    (hd : d.isSome = r.descent.isSome) : CurtainFits A B cfg { r with descent := d } :=
  { h with descent := by rw [← h.descent, ← hd] }

theorem CurtainFits.rehandshake {cfg : ConfigRecord} {r : CurtainRecord} (h : CurtainFits A B cfg r) {x : Handshake}
    (hx : handshakeOk cfg.startTimeout r.state x = true) : CurtainFits A B cfg { r with handshake := x } :=
  { h with handshake := hx }

theorem CurtainFits.mark {cfg : ConfigRecord} {r : CurtainRecord} (h : CurtainFits A B cfg r) {v : Bool}
    (hv : v = true → r.state = some .jammed) : CurtainFits A B cfg { r with stalledNow := v } :=
  { h with stall := hv }

/-! ## A change of the curtain state (R97, R99) -/

/-- R113: CURTAIN_FAULT touches no fault of the line. -/
theorem Steady.putCurtainFault (h : Steady u A B s) (v : Bool) : Steady u A B (putCurtainFault v s) := by
  unfold Machine.putCurtainFault
  split
  · exact h
  · exact (h.setFaults (f := s.faults.put .curtain v) rfl).report _

theorem Inv.putCurtainFault (h : Inv u A B b s) (v : Bool) : Inv u A B false (putCurtainFault v s) := by
  unfold Machine.putCurtainFault
  split
  · exact h.owes
  · exact (h.setFaults (f := s.faults.put .curtain v) rfl).report _

theorem Steady.entryActions (h : Steady u A B s) (prev : Option CurtainState) (new : CurtainState) :
    Steady u A B (entryActions prev new s) := by
  unfold Machine.entryActions
  split
  · exact h.placeWarning
  · split
    · exact h.placeWarning.putCurtainFault _
    · exact h.placeWarning
  · exact h.putCurtainFault _
  · exact h.putCurtainFault _
  · exact h

@[simp] theorem curtainMove_curtain (new : CurtainState) (cause : CurtainCause) (s : State) :
    (curtainMove new cause s).curtain = curtainRecordAfter new s.curtain := by
  simp [curtainMove]

/-- The state in which a move leaves the curtain (R97). -/
@[simp] theorem curtainGo_state (target : CurtainState) (cause : CurtainCause) (s : State) :
    (curtainGo target cause s).curtain.state
      = some (if goesDown target && s.pins.bottomLimit then .down else target) := by
  unfold curtainGo
  split
  · simp [curtainRecordAfter]
  · simp [curtainRecordAfter]

theorem Steady.curtainMove {c : CurtainRecord} (h : Steady u A B s) {new : CurtainState} (cause : CurtainCause)
    (hc : ReadyFor A B s.cfg new c) : Steady u A B (curtainMove new cause (s.setCurtain c)) := by
  have hpos : 0 < s.cfg.startTimeout := by have := h.cfg_bounds; omega
  have hset : Steady u A B ((s.setCurtain c).setCurtain (curtainRecordAfter new c)) := h.setCurtain (hc.after hpos)
  exact ((hset.report _).offer _).entryActions _ _

/-- R97: no move but a raise needs more than the laws of the record. -/
theorem Steady.curtainGo (h : Steady u A B s) {target : CurtainState} (cause : CurtainCause)
    (hn : isRaise (some target) = false) (hB : target = .lowering → B) : Steady u A B (curtainGo target cause s) := by
  unfold Machine.curtainGo
  split
  · exact h.curtainMove cause ((h.curtain.placed 0 true s.curtain.movement).ready rfl nofun)
  · exact Steady.curtainMove (c := s.curtain) h cause (h.curtain.ready hn hB)

theorem Steady.curtainCondition (h : Steady u A B s) : Steady u A B (curtainCondition s) := by
  unfold Machine.curtainCondition
  split
  · split
    · exact h
    · exact h
    · exact h
    · exact h.curtainGo _ rfl nofun
  · split
    · exact Steady.curtainMove (c := s.curtain) h _ (h.curtain.ready rfl nofun)
    · exact h
  · exact h

/-! ### What a change outside a warning leaves -/

/-- A change into a state without a warning reaches neither the Light Fader nor the Call Unit. -/
theorem curtainMove_quiet {new : CurtainState} (cause : CurtainCause) (s : State) (hr : new ≠ .warnRaise)
    (hl : new ≠ .warnLower) :
    (curtainMove new cause s).lights = s.lights ∧ (curtainMove new cause s).calls = s.calls
      ∧ (curtainMove new cause s).placementHeld = s.placementHeld := by
  unfold curtainMove entryActions
  cases new <;> simp_all

theorem curtainGo_quiet {target : CurtainState} (cause : CurtainCause) (s : State) (hr : target ≠ .warnRaise)
    (hl : target ≠ .warnLower) :
    (curtainGo target cause s).lights = s.lights ∧ (curtainGo target cause s).calls = s.calls
      ∧ (curtainGo target cause s).placementHeld = s.placementHeld := by
  unfold curtainGo
  split
  · exact curtainMove_quiet cause (s.setCurtain _) nofun nofun
  · exact curtainMove_quiet cause s hr hl

theorem curtainCondition_quiet (s : State) :
    (curtainCondition s).lights = s.lights ∧ (curtainCondition s).calls = s.calls
      ∧ (curtainCondition s).placementHeld = s.placementHeld := by
  unfold curtainCondition
  split
  · split
    · exact ⟨rfl, rfl, rfl⟩
    · exact ⟨rfl, rfl, rfl⟩
    · exact ⟨rfl, rfl, rfl⟩
    · exact curtainGo_quiet _ s nofun nofun
  · split
    · exact curtainMove_quiet _ s nofun nofun
    · exact ⟨rfl, rfl, rfl⟩
  · exact ⟨rfl, rfl, rfl⟩

/-- R111: under PRE_ALARM and ALARM no raise stands. -/
theorem curtainCondition_calm (s : State) (h : isRaise (curtainCondition s).curtain.state = true) :
    s.condition = .quiet ∨ s.condition = .fault := by
  unfold curtainCondition at h
  cases hc : s.condition with
  | quiet => exact .inl rfl
  | fault => exact .inr rfl
  | preAlarm =>
    simp only [hc] at h
    split at h
    · simp [curtainRecordAfter, isRaise] at h
    · next hr => exact absurd h hr
  | alarm =>
    simp only [hc] at h
    split at h
    · next hs => rw [hs] at h; cases h
    · next hs => rw [hs] at h; cases h
    · next hs => rw [hs] at h; cases h
    · rw [curtainGo_state] at h; split at h <;> cases h

/-- R111: outside ALARM the fault set stays; in ALARM a fault that ends with DOWN cannot lower the condition. -/
theorem curtainCondition_faults (s : State) (h : s.condition ≠ .alarm) : (curtainCondition s).faults = s.faults := by
  unfold curtainCondition
  split
  · next hc => exact absurd hc h
  · split
    · simp [curtainMove, entryActions]
    · rfl
  · rfl

/-! ## The condition from its inputs (R58) -/

theorem higher_eq_alarm {x y : Condition} : higher x y = .alarm ↔ x = .alarm ∨ y = .alarm := by
  cases x <;> cases y <;> decide

theorem highest_eq_alarm {cs : List Condition} : highest cs = .alarm ↔ .alarm ∈ cs := by
  induction cs with
  | nil => decide
  | cons c cs ih =>
    rw [show highest (c :: cs) = higher c (highest cs) from rfl, higher_eq_alarm, ih, List.mem_cons, eq_comm]

/-- ALARM comes from a zone of the concern block, own or peer, never from the fault set. -/
theorem computedCondition_alarm : s.computedCondition = .alarm ↔
    Condition.alarm ∈ s.ownContributions ++ s.peerContributions := by
  unfold State.computedCondition
  rw [highest_eq_alarm, List.mem_append]
  refine ⟨fun h => h.resolve_right ?_, .inl⟩
  rw [List.mem_singleton]
  split <;> nofun

/-- The inputs of the condition. -/
theorem contributions_congr (hc : t.config = s.config) (hz : t.zones = s.zones) (hp : t.peers.table = s.peers.table) :
    t.ownContributions ++ t.peerContributions = s.ownContributions ++ s.peerContributions := by
  simp only [State.ownContributions, State.peerContributions, State.peerZones, State.concerns, State.cfg, hc, hz, hp]

theorem computedCondition_congr (hc : t.config = s.config) (hz : t.zones = s.zones) (hp : t.peers.table = s.peers.table)
    (hf : t.faults.any = s.faults.any) : t.computedCondition = s.computedCondition := by
  unfold State.computedCondition
  rw [contributions_congr hc hz hp, hf]

/-! ## The recomputation (R59) -/

/-- R59, log 9: after a recomputation the condition is the one its inputs give, for the delivery itself changes a station
fault in ALARM alone. -/
theorem recompute_settles (s : State) : (recompute s).condition = (recompute s).computedCondition := by
  unfold recompute
  dsimp only
  split
  · next h => exact h.symm
  · next hne =>
    generalize hs1 : report _ (s.setCondition s.computedCondition) = s1
    have hcond : s1.condition = s.computedCondition := by rw [← hs1]; rfl
    have hsame : s1.computedCondition = s.computedCondition := by
      rw [← hs1]
      exact computedCondition_congr rfl rfl rfl rfl
    rw [show (deliverCondition s.condition s1).condition = s1.condition from by simp, hcond]
    by_cases halarm : s.computedCondition = .alarm
    · rw [halarm, computedCondition_alarm] at hsame
      rw [halarm, eq_comm, computedCondition_alarm]
      rwa [contributions_congr (s := s1) (by simp) (by simp) (by simp)]
    · have hfaults : (deliverCondition s.condition s1).faults = s1.faults := by
        simp [deliverCondition, curtainCondition_faults s1 (by rwa [hcond])]
      rw [← hsame]
      exact (computedCondition_congr (by simp) (by simp) (by simp) (by rw [hfaults])).symm

theorem Steady.setCondition (h : Steady u A B s) (c : Condition) : Steady u A B (s.setCondition c) := { h with }

theorem Steady.lightCondition (h : Steady u A B s) (previous : Condition) : Steady u A B (lightCondition previous s) := by
  rw [relit_of_frame (lightCondition_frame s previous)]
  exact { h with panel := h.panel.grows (lightCondition_grows _ _ _ (PanelGrows.refl _)) }

theorem Steady.callCondition (h : Steady u A B s) (previous : Condition) : Steady u A B (callCondition previous s) :=
  h.recalled (recalled_of_frame (callCondition_frame s previous)) (callCondition_grows _ _ _ (PanelGrows.refl _))

/-- R59: a recomputation pays what is owed. -/
theorem Inv.recompute (h : Inv u A B b s) : Inv u A B true (recompute s) := by
  have hsettled := recompute_settles s
  unfold Machine.recompute at hsettled ⊢
  dsimp only at hsettled ⊢
  split
  · next hsame => exact { h with settled := fun _ => hsame.symm }
  · next hne =>
    rw [if_neg hne] at hsettled
    generalize hs1 : Machine.report _ (s.setCondition s.computedCondition) = s1 at hsettled ⊢
    have hsteady : Steady u A B s1 := by rw [← hs1]; exact (h.toSteady.setCondition _).report _
    have hlights : s1.lights = s.lights := by rw [← hs1]; rfl
    obtain ⟨hquiet, -, -⟩ := curtainCondition_quiet s1
    refine ⟨(hsteady.curtainCondition.lightCondition _).callCondition _, fun hr => ?calm, ?lit, fun _ => hsettled⟩
    case calm =>
      have hcalm := curtainCondition_calm s1
      simp only [deliverCondition, callCondition_frame, lightCondition_frame, curtainCondition_frame] at hr ⊢
      exact hcalm hr
    case lit =>
      have hlit : Lit (Machine.lightCondition s.condition (Machine.curtainCondition s1)) := by
        have hold : LightsFit (s.condition == .alarm) (Machine.curtainCondition s1).lights := by
          rw [hquiet, hlights]; exact h.lights
        have := lightCondition_lightsFit (Machine.curtainCondition s1) s.condition hold
        unfold Lit
        rwa [(lightCondition_frame (Machine.curtainCondition s1) s.condition).2.2.2.2.2.2.2.2.1]
      exact hlit.callCondition _

/-- R113: after a change of the curtain the condition is recomputed where CURTAIN_FAULT has changed. -/
theorem Inv.afterCurtain (hs : Inv u A B b s) (ht : Inv u A B false t)
    (hsame : t.config = s.config ∧ t.zones = s.zones ∧ t.peers = s.peers ∧ t.condition = s.condition) :
    Inv u A B b (afterCurtain s t) := by
  unfold Machine.afterCurtain
  obtain ⟨hc, hz, hp, hcond⟩ := hsame
  split
  · next hf =>
    refine { ht with settled := fun hb => ?_ }
    rw [hcond, hs.settled hb]
    exact (computedCondition_congr hc hz (by rw [hp]) (by rw [hf])).symm
  · exact ht.recompute.of_true

theorem Lit.placeWarning (h : Lit s) : Lit (placeWarning s) := by
  unfold Machine.placeWarning
  split <;> [exact h; exact h.enqueueCall _]

theorem Lit.curtainMove (h : Lit s) (new : CurtainState) (cause : CurtainCause) (c : CurtainRecord) :
    Lit (curtainMove new cause (s.setCurtain c)) := by
  unfold Machine.curtainMove
  dsimp only
  generalize hs2 : Machine.offer _ _ = s2
  have h2 : Lit s2 := by rw [← hs2]; simpa [Lit] using h
  have hput : ∀ v {s : State}, Lit s → Lit (Machine.putCurtainFault v s) := fun v s h => by simpa [Lit] using h
  unfold entryActions
  split
  · exact h2.placeWarning
  · split <;> [exact hput _ h2.placeWarning; exact h2.placeWarning]
  · exact hput _ h2
  · exact hput _ h2
  · exact h2

theorem Inv.curtainMove {c : CurtainRecord} (h : Inv u A B b s) {new : CurtainState} (cause : CurtainCause)
    (hc : ReadyFor A B s.cfg new c) (hcalm : isRaise (some new) = true → s.condition = .quiet ∨ s.condition = .fault) :
    Inv u A B false (curtainMove new cause (s.setCurtain c)) where
  toSteady := h.toSteady.curtainMove cause hc
  calm hr := by simpa using hcalm (by simpa [curtainRecordAfter] using hr)
  lights := Lit.curtainMove h.lights new cause c
  settled := nofun

theorem Inv.curtainGo (h : Inv u A B b s) {target : CurtainState} (cause : CurtainCause)
    (hn : isRaise (some target) = false) (hB : target = .lowering → B) : Inv u A B false (curtainGo target cause s) := by
  unfold Machine.curtainGo
  split
  · exact h.curtainMove cause ((h.curtain.placed 0 true s.curtain.movement).ready rfl nofun) nofun
  · exact Inv.curtainMove (c := s.curtain) h cause (h.curtain.ready hn hB) (fun hr => by rw [hn] at hr; cases hr)

/-- R99, R113: a change of the curtain into any state but those of a raise. -/
theorem Inv.curtainChange (h : Inv u A B b s) {target : CurtainState} (cause : CurtainCause)
    (hn : isRaise (some target) = false) (hB : target = .lowering → B) : Inv u A B b (curtainChange target cause s) :=
  h.afterCurtain (h.curtainGo cause hn hB) (by simp)

/-- The same with a record that is not the state's own. -/
theorem Inv.curtainChange_from {c : CurtainRecord} (h : Inv u A B b s) {new : CurtainState} (cause : CurtainCause)
    (hgo : goesDown new = false) (hc : ReadyFor A B s.cfg new c)
    (hcalm : isRaise (some new) = true → s.condition = .quiet ∨ s.condition = .fault) :
    Inv u A B b (Machine.curtainChange new cause (s.setCurtain c)) := by
  have hmove := h.curtainMove cause hc hcalm
  have hsame : Machine.curtainChange new cause (s.setCurtain c)
      = Machine.afterCurtain s (Machine.curtainMove new cause (s.setCurtain c)) := by
    simp [Machine.curtainChange, Machine.curtainGo, hgo, Machine.afterCurtain]
  rw [hsame]
  exact h.afterCurtain hmove (by simp)

theorem Inv.curtainLowering (h : Inv u A B b s) (cause : CurtainCause) : Inv u A B b (curtainLowering cause s) := by
  unfold Machine.curtainLowering curtainLowerTo
  split
  · exact h.afterCurtain (h.curtainGo cause rfl nofun) (by simp)
  · exact h.afterCurtain (h.curtainGo cause rfl nofun) (by simp)

theorem Inv.enterCurtainFault (h : Inv u A B b s) : Inv u A B b (enterCurtainFault s) :=
  h.afterCurtain (h.putCurtainFault true) (by simp)

theorem Inv.failSafe (h : Inv u A B b s) : Inv u A B b (failSafe s) := by
  unfold Machine.failSafe
  split
  · exact h.curtainLowering _
  · exact h.curtainLowering _
  · exact h.curtainLowering _
  · exact h.curtainLowering _
  · exact h.curtainLowering _
  · exact h

/-! ## The station faults and the entry into ACTIVE (R36, R55, R176) -/

/-- R55: ALONE and REQUIRED_PEER_LOST. -/
theorem Inv.putPeerFault (h : Inv u A B b s) {x : StationFault} (hx : x ≠ .lineDegraded) (v : Bool) :
    Inv u A B b (putPeerFault x v s) := by
  have hput : (s.faults.put x v).lineDegraded = s.faults.lineDegraded := by
    cases x with
    | lineDegraded => exact absurd rfl hx
    | duplicate => rfl
    | alone => rfl
    | requiredLost => rfl
    | curtain => rfl
  unfold Machine.putPeerFault
  split
  · exact h
  · have hrec := ((h.setFaults hput).report (.stationFaultChanged x v)).recompute
    dsimp only
    split
    · exact hrec.failSafe.of_true
    · exact hrec.of_true

theorem Inv.judgeRequired (h : Inv u A B b s) : Inv u A B b (judgeRequired s) := by
  unfold Machine.judgeRequired
  split
  · exact h.putPeerFault (x := .requiredLost) nofun _
  · exact h

theorem PeersFit.counts {cfg : ConfigRecord} {p : PeerState} (h : PeersFit cfg p) {n m : Nat} (hn : n ≤ 255)
    (hm : m < cfg.statusInterval) : PeersFit cfg { p with anyPeer := n, schedule := m } :=
  { h with anyPeer := hn, schedule := hm }

theorem Inv.enterActive (h : Inv u A B b s) (cause : ListenCause) : Inv u A B b (enterActive cause s) := by
  have hbounds := h.cfg_bounds
  have h1 := h.activate.report (.phaseActive cause)
  have h2 := h1.setPeers (p := { s.peers with anyPeer := 0 }) (h.peers.counts (by omega) h.peers.schedule)
    (computedCondition_congr rfl rfl rfl rfl)
  have h3 := h2.offer (ownStatus (Machine.report (.phaseActive cause) (s.setPhase .active)))
  refine Inv.judgeRequired (h3.setPeers ?_ (computedCondition_congr rfl rfl rfl rfl))
  exact h3.peers.counts h3.peers.anyPeer (by have := h3.cfg_bounds; omega)

end Sys2Proof.Machine
end

section
/-! PROOFS. The Curtain Governor and the supervision of a descent under the invariant. -/

namespace Sys2Proof.Machine

variable {s t : State} {u b : Bool} {A B : Prop}

/-! ## Position and limits (R95 to R98, R123) -/

theorem Inv.place (h : Inv u A B b s) (pos : Nat) (known : Bool) (movement : BitVec 16) :
    Inv u A B b (s.setCurtain { s.curtain with pos := pos, known := known, movement := movement }) :=
  h.setCurtain (h.curtain.placed pos known movement) rfl

theorem Inv.curtainStartUp (h : Inv u A B b s) : Inv u A B b (curtainStartUp s) := by
  unfold Machine.curtainStartUp
  split <;> [exact h.curtainChange _ rfl nofun; exact h]

theorem Inv.reachTop (h : Inv u A B b s) : Inv u A B b (reachTop s) := by
  unfold Machine.reachTop
  split
  · exact h.curtainChange _ rfl nofun
  · exact h.curtainChange _ rfl nofun
  · exact h

theorem Inv.encoderCount (h : Inv u A B b s) (up : Bool) : Inv u A B b (encoderCount up s) := by
  unfold Machine.encoderCount
  split
  · exact h
  · dsimp only
    split
    · exact (h.place _ _ _).reachTop
    · exact h.place _ _ _

theorem Inv.bottomActive (h : Inv u A B b s) (st : CurtainState) : Inv u A B b (bottomActive st s) := by
  have hpin := h.setPins { s.pins with bottomLimit := true }
  have hreport : Inv u A B b (if s.curtain.known ∧ s.cfg.tolerance < s.curtain.pos then
      Machine.report (.positionMismatch .bottom s.curtain.pos) (s.setPins { s.pins with bottomLimit := true })
      else s.setPins { s.pins with bottomLimit := true }) := by
    split <;> [exact hpin.report _; exact hpin]
  have hplace := hreport.place 0 true
  unfold Machine.bottomActive
  dsimp only
  split
  · exact hplace _
  · exact (hplace _).curtainChange _ rfl nofun

theorem Inv.bottomLimit (h : Inv u A B b s) (active : Bool) : Inv u A B b (bottomLimit active s) := by
  unfold Machine.bottomLimit
  split
  · exact h
  · split <;> [exact h.bottomActive _; exact h.setPins _]

theorem Inv.topActive (h : Inv u A B b s) : Inv u A B b (topActive s) := by
  have hpin := h.setPins { s.pins with topLimit := true }
  have hreport : Inv u A B b (if s.curtain.known ∧ s.cfg.tolerance < offTop s.cfg s.curtain.pos then
      Machine.report (.positionMismatch .top s.curtain.pos) (s.setPins { s.pins with topLimit := true })
      else s.setPins { s.pins with topLimit := true }) := by
    split <;> [exact hpin.report _; exact hpin]
  have htop : ∀ s2, Inv u A B b s2 → Inv u A B b (Machine.reachTop (s2.setCurtain { s2.curtain with
      pos := s.cfg.pTop, known := true, descent := s2.curtain.descent.map (Descent.atTop s.cfg.pTop) })) :=
    fun s2 h2 => (h2.setCurtain ((h2.curtain.placed s.cfg.pTop true _).redescend (by simp)) rfl).reachTop
  exact htop _ hreport

theorem Inv.topLimit (h : Inv u A B b s) (active : Bool) : Inv u A B b (topLimit active s) := by
  unfold Machine.topLimit
  split
  · exact h
  · split <;> [exact h.topActive; exact h.setPins _]

/-! ## Requests from the line (R100 to R104) -/

theorem Inv.lowerRequest (h : Inv u A B b s) : Inv u A B b (lowerRequest s) := by
  unfold Machine.lowerRequest
  split
  · exact h.curtainLowering _
  · exact h.curtainLowering _
  · exact h.curtainLowering _
  · exact h.curtainLowering _
  · exact h.curtainLowering _
  · exact h

theorem Inv.dropRequest (h : Inv u A B b s) : Inv u A B b (dropRequest s) := by
  unfold Machine.dropRequest
  split
  · exact h
  · exact h
  · exact h
  · exact h.curtainChange _ rfl nofun

theorem Inv.stopRequest (h : Inv u A B b s) : Inv u A B b (stopRequest s) := by
  unfold Machine.stopRequest
  split
  · exact h.curtainChange _ rfl nofun
  · exact h.curtainChange _ rfl nofun
  · exact h.curtainChange _ rfl nofun
  · exact h.curtainChange _ rfl nofun
  · exact h

/-- R104: a raise is permitted under QUIET and FAULT alone. -/
theorem raiseBar_condition (h : raiseBar s = none) : s.condition = .quiet ∨ s.condition = .fault := by
  unfold raiseBar at h
  split at h
  · cases h
  split at h
  · cases h
  split at h
  · cases h
  · next hc => tauto

theorem Inv.raiseRequest (h : Inv u A B b s) (x : Nat) {st : CurtainState} (hs : s.curtain.state = some st)
    (hst : st = .down ∨ st = .stopped) : Inv u A B b (raiseRequest x st s) := by
  have hbounds := h.cfg_bounds
  have hrest : isDriven (some st) = false := by rcases hst with rfl | rfl <;> rfl
  unfold Machine.raiseRequest
  split
  · exact h.report _
  · next hbar =>
    refine h.curtainChange_from _ rfl ?_ (fun _ => raiseBar_condition hbar)
    exact {
      handshake := h.curtain.handshake
      descent := h.curtain.descent
      warnRaise := fun _ => by rw [← hs] at hrest; exact hrest
      noHold := nofun
      hold := fun _ => ⟨rfl, fun x hx => by cases hx; exact ⟨by simp; omega, le_rfl, hst⟩⟩
      raising := nofun
      lowering := nofun }

theorem Inv.refreshHold (h : Inv u A B b s) : Inv u A B b (refreshHold s) := by
  have hbounds := h.cfg_bounds
  refine h.setCurtain ?_ rfl
  refine { h.curtain with hold := ?_, holdFits := ?_ }
  · rw [Option.isSome_map]; exact h.curtain.hold
  · intro x hx
    obtain ⟨y, hy, rfl⟩ := Option.map_eq_some_iff.1 hx
    exact ⟨by simp; omega, le_rfl, (h.curtain.holdFits y hy).2.2⟩

theorem Inv.raiseHoldRequest (h : Inv u A B b s) (x : Nat) : Inv u A B b (raiseHoldRequest x s) := by
  unfold Machine.raiseHoldRequest
  split
  · exact h
  · exact h.refreshHold
  · exact h.refreshHold
  · next hs => exact h.raiseRequest x hs (.inl rfl)
  · next hs => exact h.raiseRequest x hs (.inr rfl)
  · exact h.report _

theorem Inv.takeCurtainFrame (h : Inv u A B b s) (x : Nat) (k : CurtainKind) (n : Nat) :
    Inv u A B b (takeCurtainFrame x k n s) := by
  unfold Machine.takeCurtainFrame
  split
  · split
    · split
      · exact h.lowerRequest
      · exact h.dropRequest
      · exact h.stopRequest
      · exact h.raiseHoldRequest x
    · exact h.report _
  · exact h

/-! ## The hold and the warning (R105, R107) -/

/-- A change into a state at rest from a raise, whatever the count of its hold. -/
theorem Inv.endRaise (h : Inv u A B b s) {new : CurtainState} (cause : CurtainCause) (hn : new = .down ∨ new = .stopped)
    (hr : isRaise s.curtain.state = true) (x : Option Hold) :
    Inv u A B b (Machine.curtainChange new cause (s.setCurtain { s.curtain with hold := x })) := by
  have hrest : isRaise (some new) = false ∧ goesDown new = false ∧ new ≠ .lowering := by
    rcases hn with rfl | rfl <;> exact ⟨rfl, rfl, nofun⟩
  obtain ⟨hnot, hgo, hlow⟩ := hrest
  refine h.curtainChange_from cause hgo ?_ (fun hr => by rw [hnot] at hr; cases hr)
  exact (h.curtain.ready hnot (fun hl => absurd hl hlow)).anyHold hnot hr x

/-- R105: the hold of a raise lapses, whatever its count. -/
theorem Inv.lapseHold (h : Inv u A B b s) {x : Hold} (hx : s.curtain.hold = some x) (n : Nat) :
    Inv u A B b (lapseHold (s.setCurtain { s.curtain with hold := some { x with remaining := n } })) := by
  have hr : isRaise s.curtain.state = true := by rw [← h.curtain.hold, hx]; rfl
  have hback := (h.curtain.holdFits x hx).2.2
  unfold Machine.lapseHold
  rw [setCurtain_curtain]
  rcases isRaise_iff.1 hr with hs | hs <;> rw [hs]
  · exact h.endRaise _ hback hr _
  · exact h.endRaise _ (.inr rfl) hr _

theorem Inv.curtainBoundary (h : Inv u A B b s) : Inv u A B b (curtainBoundary s) := by
  unfold Machine.curtainBoundary
  split
  · exact h
  · next x hx =>
    dsimp only
    split
    · exact h.lapseHold hx _
    · next hleft =>
      refine h.setCurtain { h.curtain with hold := ?_, holdFits := ?_ } rfl
      · rw [← h.curtain.hold, hx]
        rfl
      · rintro y ⟨⟩
        obtain ⟨hone, hmax, hback⟩ := h.curtain.holdFits x hx
        exact ⟨by dsimp only; omega, by dsimp only; omega, hback⟩

theorem Inv.holdDue (h : Inv u A B b s) : Inv u A B b (holdDue s) := by
  unfold Machine.holdDue
  split
  · next x hx => exact h.lapseHold hx 0
  · exact h

/-- R107: the one way into RAISING and into LOWERING. -/
theorem Inv.warningDone (h : Inv u A B b s) (hA : s.curtain.state = some .warnRaise → A)
    (hB : s.curtain.state = some .warnLower → B) : Inv u A B b (warningDone s) := by
  unfold Machine.warningDone
  split
  · next hs =>
    split
    · exact h.curtainChange _ rfl (fun _ => hB hs)
    · exact h
  · next hs =>
    have hr : isRaise s.curtain.state = true := by rw [hs]; rfl
    split
    · refine Inv.curtainChange_from (c := s.curtain) h _ rfl ?_ (fun _ => h.calm hr)
      exact {
        handshake := h.curtain.handshake
        descent := h.curtain.descent
        warnRaise := nofun
        noHold := nofun
        hold := fun _ => ⟨by rw [h.curtain.hold, hr], h.curtain.holdFits⟩
        raising := fun _ => hA hs
        lowering := nofun }
    · exact h
  · exact h

theorem endRepetition_curtain (k : CallKey) (s : State) : (endPlaying k s).curtain = s.curtain := rfl

theorem Inv.endRepetition (h : Inv u A B b s) (hA : s.curtain.state = some .warnRaise → A)
    (hB : s.curtain.state = some .warnLower → B) : Inv u A B b (endRepetition s) := by
  unfold Machine.endRepetition
  split
  · next k _ _ =>
    refine Inv.restAfter ?_ k
    split
    · exact (h.endPlaying k).warningDone hA hB
    · exact h.endPlaying k
  · exact h

/-! ## The drive (R108 to R110) -/

theorem Inv.setHandshake (h : Inv u A B b s) {x : Handshake}
    (hx : handshakeOk s.cfg.startTimeout s.curtain.state x = true) : Inv u A B b (setHandshake x s) :=
  h.setCurtain (h.curtain.rehandshake hx) rfl

theorem Inv.judgeHandshake (h : Inv u A B b s) (moving : Bool) : Inv u A B b (judgeHandshake moving s) := by
  have hok := h.curtain.handshake
  unfold Machine.judgeHandshake
  split
  · exact h
  · next n hs =>
    rw [hs] at hok
    simp only [handshakeOk, Bool.and_eq_true, decide_eq_true_eq] at hok
    split
    · exact h.setHandshake hok.1
    split
    · exact h.curtainChange _ rfl nofun
    · exact h.setHandshake (by simp [handshakeOk, hok.1]; omega)
  · split <;> [exact h.curtainChange _ rfl nofun; exact h]
  · next n hs =>
    rw [hs] at hok
    simp only [handshakeOk, Bool.and_eq_true, decide_eq_true_eq, Bool.not_eq_true'] at hok
    obtain ⟨⟨⟨⟨hsome, hrest⟩, hdrop⟩, hjam⟩, hlt⟩ := hok
    split
    · exact h.setHandshake (by simp [handshakeOk, hrest])
    split
    · exact h.curtainChange _ rfl nofun
    · exact h.setHandshake (by simp [handshakeOk, hsome, hrest, hdrop, hjam]; omega)

theorem Inv.startDue (h : Inv u A B b s) : Inv u A B b (startDue s) := by
  unfold Machine.startDue
  split
  · exact h.curtainChange _ rfl nofun
  · exact h
  · exact h
  · exact h

theorem Inv.stopDue (h : Inv u A B b s) : Inv u A B b (stopDue s) := by
  unfold Machine.stopDue
  split
  · exact h.curtainChange _ rfl nofun
  · exact h
  · exact h
  · exact h

theorem Inv.driveLost (h : Inv u A B b s) : Inv u A B b (driveLost s) := by
  unfold Machine.driveLost
  split
  · exact h.curtainChange _ rfl nofun
  · exact h.curtainChange _ rfl nofun
  · exact h.curtainChange _ rfl nofun
  · next hs =>
    split
    · next x hx => exact Inv.endRaise h _ (h.curtain.holdFits x hx).2.2 (by rw [hs]; rfl) s.curtain.hold
    · exact h
  · split <;> [exact h.curtainChange _ rfl nofun; exact h]
  · exact h

theorem Inv.driveReadyChange (h : Inv u A B b s) (ready : Bool) : Inv u A B b (driveReadyChange ready s) := by
  unfold Machine.driveReadyChange
  split
  · exact h
  · dsimp only
    split <;> [exact h.setPins _; exact (h.setPins _).driveLost]

/-! ## The supervision of a descent (07) -/

theorem Inv.setDescent (h : Inv u A B b s) (hd : s.curtain.descent.isSome = true) (d : Descent) :
    Inv u A B b (setDescent d s) :=
  h.setCurtain (h.curtain.redescend (by rw [hd]; rfl)) rfl

theorem Inv.markStalled (h : Inv u A B b s) {v : Bool} (hv : v = true → s.curtain.state = some .jammed) :
    Inv u A B b (markStalled v s) := h.setCurtain (h.curtain.mark hv) rfl

theorem Inv.stallJam (h : Inv u A B b s) : Inv u A B b (stallJam s) :=
  (h.curtainChange .descentStalled (target := .jammed) rfl nofun).markStalled (by simp)

theorem Inv.descentStall (h : Inv u A B b s) (hd : s.curtain.descent.isSome = true) (st : CurtainState) (d : Descent) :
    Inv u A B b (descentStall st d s) := by
  have hreport := (h.setDescent hd d).report
    (.descentStalled st d.t d.kind (d.readings.getLastD 0) d.travelled d.span d.stallCount)
  unfold Machine.descentStall
  dsimp only
  split <;> [exact hreport.stallJam; exact hreport.enterCurtainFault]

theorem Inv.descentTooLate (h : Inv u A B b s) (hd : s.curtain.descent.isSome = true) (st : CurtainState) (d : Descent)
    (p need : Nat) : Inv u A B b (descentTooLate st d p need s) := by
  have hreport := (h.setDescent hd { d with lateReported := true }).report
    (.descentLate st d.t p d.span d.travelled need)
  unfold Machine.descentTooLate
  dsimp only
  refine h.afterCurtain (Inv.putCurtainFault (b := false) ?_ true) ?_
  · split <;> [exact hreport.curtainGo _ rfl nofun; exact hreport.owes]
  · split <;> simp

theorem Inv.judgeDescent (h : Inv u A B b s) (hd : s.curtain.descent.isSome = true) (st : CurtainState) (d : Descent) :
    Inv u A B b (judgeDescent st d s) := by
  unfold Machine.judgeDescent projectDescent
  dsimp only
  split
  · split <;> [exact h.descentStall hd _ _; exact h.setDescent hd _]
  · split
    · split <;> [exact h.descentTooLate hd _ _ _ _; exact h.setDescent hd _]
    · exact h.setDescent hd _

theorem Inv.sampleDescent (h : Inv u A B b s) (wasPresent : Bool) : Inv u A B b (sampleDescent wasPresent s) := by
  unfold Machine.sampleDescent
  split
  · next hd =>
    split <;> [exact h.judgeDescent (by rw [hd]; rfl) _ _; exact h]
  · exact h

theorem Inv.stallNow (h : Inv u A B b s) : Inv u A B b (stallNow s) := by
  unfold Machine.stallNow
  split
  · next hd =>
    dsimp only
    split <;> [exact h.descentStall (by rw [hd]; rfl) _ _; exact h]
  · exact h

theorem Inv.curtainSample (h : Inv u A B b s) (inputs : SampleInputs) (had : Bool) :
    Inv u A B b (curtainSample inputs had s) := by
  unfold Machine.curtainSample
  split <;> [exact (h.judgeHandshake _).sampleDescent _; exact (h.sampleDescent _).judgeHandshake _]

end Sys2Proof.Machine
end

section
/-! PROOFS. The Zone Supervisor under the invariant. -/

namespace Sys2Proof.Machine

variable {s t : State} {u b : Bool} {A B : Prop}

/-! ## A zone record (R1, R3) -/

/-- The law of a zone record, field by field. -/
structure ZoneFits (z : ZoneRecord) : Prop where
  timer     : z.timer.isSome = (z.state == .preAlarm || z.state == .investigating)
  history   : z.history.length ≤ 3
  score     : z.faultScore ≤ z.threshold
  restarted : z.restarted = true → z.state = .preAlarm
  disabled  : z.enabled = false → z.state = .quiet ∧ z.history = [] ∧ z.reading = none ∧ z.faultScore = 0

theorem zoneRecordOk_iff (z : ZoneRecord) : zoneRecordOk z = true ↔ ZoneFits z := by
  unfold zoneRecordOk
  simp only [Bool.and_eq_true, Bool.or_eq_true, decide_eq_true_eq, Bool.not_eq_true', beq_iff_eq, List.isEmpty_iff,
    Option.isNone_iff_eq_none]
  constructor
  · rintro ⟨⟨⟨⟨ht, hh⟩, hs⟩, hr⟩, hd⟩
    refine ⟨ht, hh, hs, fun h => ?_, fun h => ?_⟩
    · rcases hr with hr | hr
      · rw [h] at hr; cases hr
      · exact hr
    · rcases hd with hd | hd
      · rw [h] at hd; cases hd
      · obtain ⟨⟨⟨hq, hn⟩, hrd⟩, hf⟩ := hd
        exact ⟨hq, hn, hrd, hf⟩
  · rintro ⟨ht, hh, hs, hr, hd⟩
    refine ⟨⟨⟨⟨ht, hh⟩, hs⟩, ?_⟩, ?_⟩
    · cases hz : z.restarted
      · exact .inl rfl
      · exact .inr (hr hz)
    · cases hz : z.enabled
      · obtain ⟨hq, hn, hrd, hf⟩ := hd hz
        exact .inr ⟨⟨⟨hq, hn⟩, hrd⟩, hf⟩
      · exact .inl rfl

/-- An enabled zone takes a state with the timer that the state has. -/
theorem ZoneFits.to {z : ZoneRecord} (h : ZoneFits z) (he : z.enabled = true) {st : ZoneState} {timer : Option Nat}
    (ht : timer.isSome = (st == .preAlarm || st == .investigating)) : ZoneFits (z.to st timer) where
  timer := ht
  history := h.history
  score := h.score
  restarted := nofun
  disabled hd := by rw [show (z.to st timer).enabled = z.enabled from rfl, he] at hd; cases hd

theorem ZonesFit.set {zs : List ZoneRecord} (h : ZonesFit zs) {z : ZoneRecord} (hz : ZoneFits z) (n : Nat) :
    ZonesFit (zs.set n z) := by
  refine ⟨by rw [List.length_set, h.1], fun y hy => ?_⟩
  rcases List.mem_or_eq_of_mem_set hy with hy | rfl
  · exact h.2 y hy
  · exact (zoneRecordOk_iff _).2 hz

theorem ZonesFit.get {zs : List ZoneRecord} (h : ZonesFit zs) {n : Nat} {z : ZoneRecord} (hz : zs[n]? = some z) :
    ZoneFits z := (zoneRecordOk_iff z).1 (h.2 z (List.mem_of_getElem? hz))

/-- The own zones reach the condition by their areas and states alone (R58). -/
theorem ownContributions_congr (hc : t.config = s.config)
    (hz : t.zones.map (fun z => (z.area, z.state)) = s.zones.map (fun z => (z.area, z.state))) :
    t.ownContributions = s.ownContributions := by
  have hmap (x : State) : x.ownContributions
      = ((x.zones.map (fun z => (z.area, z.state))).filter (fun p => x.concerns p.1)).map (fun p => contribution p.2) := by
    simp [State.ownContributions, List.filter_map, List.map_map, Function.comp_def]
  rw [hmap, hmap, hz]
  simp only [State.concerns, State.cfg, hc]

/-- Zones changed in what the condition does not see. -/
theorem Inv.setZones_same (h : Inv u A B b s) {zs : List ZoneRecord} (hz : ZonesFit zs)
    (hsame : zs.map (fun z => (z.area, z.state)) = s.zones.map (fun z => (z.area, z.state))) :
    Inv u A B b (s.setZones zs) := by
  refine { h.setZones hz with settled := fun hb => ?_ }
  rw [setZones_condition, h.settled hb]
  unfold State.computedCondition
  rw [ownContributions_congr (s := s) (t := s.setZones zs) rfl hsame]
  rfl

theorem map_set_same {zs : List ZoneRecord} {n : Nat} {z z' : ZoneRecord} (hz : zs[n]? = some z) (ha : z'.area = z.area)
    (hs : z'.state = z.state) :
    (zs.set n z').map (fun z => (z.area, z.state)) = zs.map (fun z => (z.area, z.state)) := by
  rw [List.map_set, ha, hs]
  apply List.ext_getElem?
  intro m
  rw [List.getElem?_set]
  split
  · next hnm =>
    subst hnm
    have := List.getElem?_eq_some_iff.1 hz
    obtain ⟨hlt, rfl⟩ := this
    simp [hlt]
  · rfl

/-! ## Changing and announcing a zone's state (R13 to R16) -/

theorem Inv.setZone_same (h : Inv u A B b s) {n : Nat} {z z' : ZoneRecord} (hz : s.zones[n]? = some z) (ha : z'.area = z.area)
    (hs : z'.state = z.state) (hfit : ZoneFits z') : Inv u A B b (setZone n z' s) :=
  h.setZones_same (h.zones.set hfit n) (map_set_same hz ha hs)

theorem Inv.announced (h : Inv u A B b s) (f : Payload) (c : Prop) [Decidable c] :
    Inv u A B true (if c then Machine.countedAlarm (Machine.recompute (Machine.offer f s)) else Machine.recompute (Machine.offer f s)) := by
  have hrec := (h.offer f).recompute
  split <;> [exact hrec.countedAlarm; exact hrec]

theorem Inv.announceZone (h : Inv u A B b s) (n : Nat) (prev : ZoneState) (z : ZoneRecord) (cause : ZoneCause) :
    Inv u A B true (announceZone n prev z cause s) := by
  unfold Machine.announceZone
  refine Inv.announced (b := b) ?_ _ _
  split <;> [exact ((h.report _).setListenCount 0).enterActive _; exact h.report _]

theorem Inv.changeZone (h : Inv u A B b s) {n : Nat} {z z' : ZoneRecord} {cause : ZoneCause} (hz : s.zones[n]? = some z)
    (ha : z'.area = z.area) (hfit : ZoneFits z') : Inv u A B b (changeZone n z' cause s) := by
  unfold Machine.changeZone
  rw [hz]
  dsimp only
  split
  · next hs => exact h.setZone_same hz ha hs.symm hfit
  · exact (Inv.announceZone (h.setZones (h.zones.set hfit n)) n z.state z' cause).of_true

/-- R13: the zone that is escalated takes part in coincidence, so it is enabled. -/
theorem enabled_of_escalates {z : ZoneRecord} (h : escalates s z = true) : z.enabled = true := by
  simp only [escalates, participates, Bool.and_eq_true] at h
  exact h.1.1

theorem Inv.escalateZone (h : Inv u A B b s) (n : Nat) : Inv u A B b (escalateZone n s) := by
  unfold Machine.escalateZone
  split
  · next z hz =>
    split
    · next he => exact h.changeZone hz rfl ((h.zones.get hz).to (enabled_of_escalates he) rfl)
    · exact h
  · exact h

/-- What each step of a fold keeps, the fold keeps. -/
theorem Inv.foldl {β : Type} {g : State → β → State} (hg : ∀ s x, Inv u A B b s → Inv u A B b (g s x)) (xs : List β)
    (h : Inv u A B b s) : Inv u A B b (xs.foldl g s) := by
  induction xs generalizing s with
  | nil => exact h
  | cons x xs ih => exact ih (hg s x h)

theorem Inv.escalate (h : Inv u A B b s) (except : Option Nat) : Inv u A B b (escalate except s) := by
  refine Inv.foldl (fun s n h => ?_) _ h
  split <;> [exact h; exact h.escalateZone n]

theorem Inv.moveZone (h : Inv u A B b s) {n : Nat} {z z' : ZoneRecord} {cause : ZoneCause} (hz : s.zones[n]? = some z)
    (ha : z'.area = z.area) (hfit : ZoneFits z') : Inv u A B b (moveZone n z' cause s) := by
  have hchange : Inv u A B b (Machine.changeZone n z' cause s) := h.changeZone hz ha hfit
  unfold Machine.moveZone
  rw [hz]
  dsimp only
  split <;> [exact hchange.escalate _; exact hchange]

/-! ## Readings and timers (R6 to R11) -/

theorem pushHistory_length {h : List Reading} (hl : h.length ≤ 3) (c : Reading) : (pushHistory c h).length ≤ 3 := by
  unfold pushHistory
  split
  · simp; omega
  · simp; omega

theorem ZoneFits.sample {z : ZoneRecord} (h : ZoneFits z) (he : z.enabled = true) (c : Reading) : ZoneFits (z.sample c) where
  timer := h.timer
  history := pushHistory_length h.history c
  score := h.score
  restarted := nofun
  disabled hd := by rw [show (z.sample c).enabled = z.enabled from rfl, he] at hd; cases hd

theorem scoreAfter_le {z : ZoneRecord} (h : z.faultScore ≤ z.threshold) (r : Reading) : scoreAfter r z ≤ z.threshold := by
  unfold scoreAfter
  split <;> omega

theorem ZoneFits.score' {z : ZoneRecord} (h : ZoneFits z) (he : z.enabled = true) (r : Reading) :
    ZoneFits { z with faultScore := scoreAfter r z } where
  timer := h.timer
  history := h.history
  score := scoreAfter_le h.score r
  restarted := h.restarted
  disabled hd := by dsimp only at hd; rw [he] at hd; cases hd

theorem Inv.startAlarm (h : Inv u A B b s) {n : Nat} {z : ZoneRecord} (hz : s.zones[n]? = some z) (he : z.enabled = true) :
    Inv u A B b (startAlarm n z s) := by
  have hfit := h.zones.get hz
  unfold Machine.startAlarm
  split
  · exact h.moveZone hz rfl (hfit.to he rfl)
  · split
    · exact h.moveZone hz rfl (hfit.to he rfl)
    split
    · exact h.moveZone hz rfl (hfit.to he rfl)
    · exact h.moveZone hz rfl (hfit.to he rfl)

theorem Inv.applyReading (h : Inv u A B b s) {n : Nat} {z : ZoneRecord} (hz : s.zones[n]? = some z) (he : z.enabled = true)
    (r : Reading) : Inv u A B b (applyReading n r z s) := by
  have hscore := (h.zones.get hz).score' he r
  have htimer := hscore.timer
  unfold Machine.applyReading
  dsimp only
  split
  · exact h
  · next hs =>
    rw [show ({ z with faultScore := scoreAfter r z } : ZoneRecord).state = z.state from rfl, hs] at htimer
    split
    · exact h.startAlarm hz he
    split
    · exact h.moveZone hz rfl (hscore.to he htimer)
    · exact h.setZone_same hz rfl rfl hscore
  · next hs =>
    rw [show ({ z with faultScore := scoreAfter r z } : ZoneRecord).state = z.state from rfl, hs] at htimer
    split
    · exact h.moveZone hz rfl (hscore.to he htimer)
    · exact h.setZone_same hz rfl rfl hscore
  · exact h.setZone_same hz rfl rfl hscore

theorem Inv.expireZone (h : Inv u A B b s) {n : Nat} (he : ∀ z, s.zones[n]? = some z → z.enabled = true) :
    Inv u A B b (expireZone n s) := by
  unfold Machine.expireZone
  split
  · next z hz => exact h.moveZone hz rfl ((h.zones.get hz).to (he z hz) rfl)
  · exact h

theorem Inv.countTimer (h : Inv u A B b s) (n : Nat) : Inv u A B b (countTimer n s) := by
  unfold Machine.countTimer
  split
  · next z hz =>
    split
    · next k hk =>
      split
      · exact h
      · next he =>
        rw [Bool.not_eq_true', Bool.not_eq_false] at he
        split
        · exact h.expireZone (fun y hy => by rw [hz] at hy; cases hy; exact he)
        · have hfit := h.zones.get hz
          refine h.setZone_same hz rfl rfl ⟨?_, hfit.history, hfit.score, hfit.restarted, fun hd => ?_⟩
          · rw [← hfit.timer, hk]; rfl
          · dsimp only at hd; rw [he] at hd; cases hd
    · exact h
  · exact h

theorem getElem?_setZone {n : Nat} {z z' : ZoneRecord} (hz : s.zones[n]? = some z) : (setZone n z' s).zones[n]? = some z' := by
  obtain ⟨hlt, -⟩ := List.getElem?_eq_some_iff.1 hz
  simp [setZone, hlt]

theorem Inv.sampleZone (h : Inv u A B b s) (n : Nat) (pair : Bool × Bool) : Inv u A B b (sampleZone n pair s) := by
  unfold Machine.sampleZone
  split
  · next z hz =>
    split
    · next he =>
      have hset := h.setZone_same (z' := z.sample (classOf pair)) hz rfl rfl ((h.zones.get hz).sample he (classOf pair))
      dsimp only
      split
      · exact hset.applyReading (getElem?_setZone hz) he _
      · exact hset
    · exact h
  · exact h

theorem Inv.handleZone (h : Inv u A B b s) (inputs : SampleInputs) (had : List Bool) (n : Nat) :
    Inv u A B b (handleZone inputs had s n) := by
  unfold Machine.handleZone
  dsimp only
  split <;> [exact (h.sampleZone n _).countTimer n; exact h.sampleZone n _]

theorem Inv.sampleZones (h : Inv u A B b s) (inputs : SampleInputs) : Inv u A B b (sampleZones inputs s) :=
  Inv.foldl (fun _ n h => h.handleZone inputs _ n) _ h

theorem Inv.expireFrom (h : Inv u A B b s) (st : ZoneState) (n : Nat) : Inv u A B b (expireFrom st n s) := by
  unfold Machine.expireFrom
  split
  · next z hz =>
    split
    · next hcan =>
      split
      · have hfit := h.zones.get hz
        exact h.setZone_same hz rfl rfl ⟨hfit.timer, hfit.history, hfit.score, nofun, hfit.disabled⟩
      · exact h.expireZone (fun y hy => by rw [hz] at hy; cases hy; exact hcan.1)
    · exact h
  · exact h

/-! ## Commands at a zone (R18 to R22) -/

theorem Inv.ackZone (h : Inv u A B b s) (n : Nat) : Inv u A B b (ackZone n s) := by
  unfold Machine.ackZone
  split
  · next z hz =>
    split
    · next hcan =>
      split
      · exact h.moveZone hz rfl ((h.zones.get hz).to hcan.1 rfl)
      · exact h.moveZone hz rfl ((h.zones.get hz).to hcan.1 rfl)
    · exact h
  · exact h

theorem Inv.ackZones (h : Inv u A B b s) (n : Nat) : Inv u A B b (ackZones n s) := by
  unfold Machine.ackZones
  split <;> [exact Inv.foldl (fun _ m h => h.ackZone m) _ h; exact h.ackZone n]

theorem Inv.isolateZone (h : Inv u A B b s) (n : Nat) : Inv u A B b (isolateZone n s) := by
  unfold Machine.isolateZone
  split
  · next z hz =>
    split
    · exact h
    · next he =>
      rw [Bool.not_eq_true', Bool.not_eq_false] at he
      split
      · exact h
      · exact h.report _
      · exact h.moveZone hz rfl ((h.zones.get hz).to he rfl)
  · exact h

theorem Inv.restoreZone (h : Inv u A B b s) (n : Nat) : Inv u A B b (restoreZone n s) := by
  unfold Machine.restoreZone
  split
  · next z hz =>
    split
    · next hcan =>
      refine h.moveZone hz rfl ⟨rfl, by simp, by simp, nofun, fun hd => ?_⟩
      rw [show ({ z.to .quiet none with history := [], reading := none, faultScore := 0 } : ZoneRecord).enabled = z.enabled
        from rfl, hcan.1] at hd
      cases hd
    · exact h
  · exact h

/-! ### RESET (R19) -/

/-- R19: the outcome of the first pass is of the same zone, and fits. -/
theorem firstPass_fits {z : ZoneRecord} (h : ZoneFits z) :
    (firstPass z).area = z.area ∧ (firstPass z).enabled = z.enabled ∧ ZoneFits (firstPass z) := by
  unfold firstPass
  split
  · next hcan =>
    rw [Bool.and_eq_true] at hcan
    obtain ⟨he, -⟩ := hcan
    have hrest : ZoneFits (z.to (restState z) none) := by
      refine h.to he ?_
      unfold restState
      split <;> rfl
    split
    · split
      · refine ⟨rfl, rfl, rfl, h.history, h.score, fun _ => rfl, fun hd => ?_⟩
        rw [show z.restart.enabled = z.enabled from rfl, he] at hd
        cases hd
      · exact ⟨rfl, rfl, hrest⟩
    · split
      · exact ⟨rfl, rfl, h.to he rfl⟩
      · exact ⟨rfl, rfl, hrest⟩
  · exact ⟨rfl, rfl, h⟩

/-- R19: the outcome of zone n is its second pass over its first. -/
theorem resetOutcomes_getElem? (s : State) (n : Nat) :
    (resetOutcomes s)[n]? = (s.zones[n]?).map (fun z =>
      secondPass (s.setZones (s.zones.map firstPass)) n z (firstPass z)) := by
  unfold resetOutcomes
  simp only [setZones_zones, List.getElem?_map, List.getElem?_zipIdx, Option.map_map]
  cases h : s.zones[n]? with
  | none => rfl
  | some z => simp [h]

theorem resetOutcomes_fits (hz : ZonesFit s.zones) {n : Nat} {o : ZoneRecord} (ho : (resetOutcomes s)[n]? = some o) :
    ∃ z, s.zones[n]? = some z ∧ o.area = z.area ∧ ZoneFits o := by
  rw [resetOutcomes_getElem?] at ho
  obtain ⟨z, hzn, rfl⟩ := Option.map_eq_some_iff.1 ho
  obtain ⟨ha, he, hfit⟩ := firstPass_fits (hz.get hzn)
  refine ⟨z, hzn, ?_⟩
  unfold secondPass
  split
  · next hcan =>
    simp only [Bool.and_eq_true] at hcan
    exact ⟨ha, hfit.to (by rw [he]; exact hcan.1.1.1) rfl⟩
  · exact ⟨ha, hfit⟩

/-- The zones after zone n's record is replaced: the announcement leaves them. -/
theorem changeZone_zones (n : Nat) (z : ZoneRecord) (cause : ZoneCause) (s : State) :
    (changeZone n z cause s).zones = s.zones.set n z := by
  unfold changeZone
  split
  · split <;> simp [setZone]
  · next h => rw [List.set_eq_of_length_le (List.getElem?_eq_none_iff.1 h)]

/-- The outcomes of a RESET are applied one after another, each to its own zone. -/
theorem Inv.changeZones (outs : List ZoneRecord) (cause : ZoneCause) : ∀ (k : Nat) {s : State}, Inv u A B b s →
    (∀ n o, outs[n]? = some o → ∃ z, s.zones[k + n]? = some z ∧ o.area = z.area ∧ ZoneFits o) →
    Inv u A B b ((outs.zipIdx k).foldl (fun s p => Machine.changeZone p.2 p.1 cause s) s) := by
  induction outs with
  | nil => intro k s h _; exact h
  | cons o outs ih =>
    intro k s h hfits
    obtain ⟨z, hz, ha, hfit⟩ := hfits 0 o rfl
    rw [List.zipIdx_cons, List.foldl_cons]
    refine ih (k + 1) (h.changeZone hz ha hfit) (fun n o' ho' => ?_)
    obtain ⟨z', hz', ha', hfit'⟩ := hfits (n + 1) o' ho'
    refine ⟨z', ?_, ha', hfit'⟩
    rw [changeZone_zones, List.getElem?_set, if_neg (by omega), show k + 1 + n = k + (n + 1) from by omega]
    exact hz'

theorem Inv.resetZones (h : Inv u A B b s) : Inv u A B b (resetZones s) :=
  h.changeZones _ _ 0 (fun n o ho => by rw [Nat.zero_add]; exact resetOutcomes_fits h.zones ho)

end Sys2Proof.Machine
end

section
/-! PROOFS. The operations on the peer table and on zone lists (03 sections 3.1 and 3.2). -/

namespace Sys2Proof.Machine

variable {s : State}

/-! ## The entry of a station (R43) -/

theorem stationsRising_iff {es : List PeerEntry} :
    stationsRising es = true ↔ es.Pairwise (fun x y => x.station < y.station) := by
  induction es with
  | nil => simp [stationsRising]
  | cons e es ih => simp [stationsRising, ih]

theorem findPeer_some {n : Nat} {es : List PeerEntry} {e : PeerEntry} (h : findPeer n es = some e) :
    e ∈ es ∧ e.station = n := by
  unfold findPeer at h
  exact ⟨List.mem_of_find?_eq_some h, by simpa using List.find?_some h⟩

theorem findPeer_none {n : Nat} {es : List PeerEntry} (h : findPeer n es = none) : ∀ e ∈ es, e.station ≠ n := by
  simpa [findPeer] using h

/-- R43: a station has at most one entry. -/
theorem findPeer_of_mem {es : List PeerEntry} (hes : es.Pairwise (fun x y => x.station < y.station)) {e : PeerEntry}
    (he : e ∈ es) : findPeer e.station es = some e := by
  induction hes with
  | nil => cases he
  | @cons x es hx _ ih =>
    unfold findPeer
    rcases List.mem_cons.1 he with rfl | he
    · simp
    · rw [List.find?_cons_of_neg]
      · exact ih he
      · have := hx e he
        simp; omega

theorem findPeer_updateEntry (m n : Nat) {f : PeerEntry → PeerEntry} (hf : ∀ e, (f e).station = e.station) (es : List PeerEntry) :
    findPeer m (updateEntry n f es) = (findPeer m es).map (fun e => if e.station = n then f e else e) := by
  unfold findPeer updateEntry
  rw [List.find?_map]
  have hsame : (fun e : PeerEntry => e.station == m) ∘ (fun e => if e.station = n then f e else e)
      = (fun e => e.station == m) := by
    funext e
    simp only [Function.comp_apply]
    split <;> simp [hf]
  rw [hsame]

theorem updateEntry_rising {n : Nat} {f : PeerEntry → PeerEntry} (hf : ∀ e, (f e).station = e.station) {es : List PeerEntry}
    (hes : es.Pairwise (fun x y => x.station < y.station)) :
    (updateEntry n f es).Pairwise (fun x y => x.station < y.station) := by
  refine List.pairwise_map.2 (hes.imp ?_)
  intro x y hxy
  have hst (e : PeerEntry) : (if e.station = n then f e else e).station = e.station := by
    split <;> simp [hf]
  rwa [hst, hst]

/-- Zone lists seen through the table, where the entry changed keeps its own. -/
theorem updateEntry_zones {n : Nat} {f : PeerEntry → PeerEntry} {es : List PeerEntry}
    (hf : ∀ e ∈ es, e.station = n → (f e).zones = e.zones) :
    (updateEntry n f es).flatMap (fun e => e.zones) = es.flatMap (fun e => e.zones) := by
  unfold updateEntry
  rw [List.flatMap_map]
  refine List.flatMap_congr fun e he => ?_
  split
  · next hn => exact hf e he hn
  · rfl

theorem insertEntry_mem {e x : PeerEntry} {es : List PeerEntry} (h : x ∈ insertEntry e es) : x = e ∨ x ∈ es := by
  induction es with
  | nil => simpa [insertEntry] using h
  | cons y es ih =>
    unfold insertEntry at h
    split at h
    · rcases List.mem_cons.1 h with rfl | h
      · simp
      · rcases ih h with h | h <;> simp [h]
    · simpa using h

theorem insertEntry_rising {e : PeerEntry} {es : List PeerEntry} (hes : es.Pairwise (fun x y => x.station < y.station))
    (hne : ∀ x ∈ es, x.station ≠ e.station) : (insertEntry e es).Pairwise (fun x y => x.station < y.station) := by
  induction hes with
  | nil => simp [insertEntry]
  | @cons x es hx hes ih =>
    unfold insertEntry
    split
    · next hlt =>
      refine List.pairwise_cons.2 ⟨fun y hy => ?_, ih (fun y hy => hne y (by simp [hy]))⟩
      rcases insertEntry_mem hy with rfl | hy
      · exact hlt
      · exact hx y hy
    · next hge =>
      have := hne x (by simp)
      refine List.pairwise_cons.2 ⟨fun y hy => ?_, List.pairwise_cons.2 ⟨hx, hes⟩⟩
      rcases List.mem_cons.1 hy with rfl | hy
      · omega
      · have := hx y hy
        omega

/-- R44: a new entry holds no zone. -/
theorem insertEntry_zones {e : PeerEntry} (he : e.zones = []) (es : List PeerEntry) :
    (insertEntry e es).flatMap (fun e => e.zones) = es.flatMap (fun e => e.zones) := by
  induction es with
  | nil => simp [insertEntry, he]
  | cons x es ih =>
    unfold insertEntry
    split
    · simp [ih]
    · simp [he]

/-! ## Zone lists (R43, R46, R47) -/

/-- The law of one zone list entry. -/
abbrev PeerZoneFits (z : PeerZone) : Prop := z.index ≤ 7 ∧ z.state ≠ .quiet

theorem zoneListOk_iff {zs : List PeerZone} :
    zoneListOk zs = true ↔ zs.Pairwise (fun x y => x.index < y.index) ∧ ∀ z ∈ zs, PeerZoneFits z := by
  induction zs with
  | nil => simp [zoneListOk]
  | cons z zs ih =>
    simp only [zoneListOk, Bool.and_eq_true, decide_eq_true_eq, List.all_eq_true, ih, List.pairwise_cons, List.forall_mem_cons,
      PeerZoneFits]
    tauto

theorem putPeerZone_mem {z x : PeerZone} {zs : List PeerZone} (h : x ∈ putPeerZone z zs) : x = z ∨ x ∈ zs := by
  induction zs with
  | nil => simpa [putPeerZone] using h
  | cons y zs ih =>
    unfold putPeerZone at h
    split at h
    · rcases List.mem_cons.1 h with rfl | h
      · simp
      · rcases ih h with h | h <;> simp [h]
    split at h
    · rcases List.mem_cons.1 h with rfl | h <;> simp_all
    · simpa using h

theorem putPeerZone_ok {z : PeerZone} (hz : PeerZoneFits z) {zs : List PeerZone} (hzs : zoneListOk zs = true) :
    zoneListOk (putPeerZone z zs) = true := by
  obtain ⟨hrise, hfits⟩ := zoneListOk_iff.1 hzs
  refine zoneListOk_iff.2 ⟨?_, fun x hx => ?_⟩
  · clear hzs hfits
    induction hrise with
    | nil => simp [putPeerZone]
    | @cons x zs hx hzs ih =>
      unfold putPeerZone
      split
      · next hlt =>
        refine List.pairwise_cons.2 ⟨fun y hy => ?_, ih⟩
        rcases putPeerZone_mem hy with rfl | hy
        · exact hlt
        · exact hx y hy
      split
      · next heq => exact List.pairwise_cons.2 ⟨fun y hy => heq ▸ hx y hy, hzs⟩
      · next hge hne =>
        refine List.pairwise_cons.2 ⟨fun y hy => ?_, List.pairwise_cons.2 ⟨hx, hzs⟩⟩
        rcases List.mem_cons.1 hy with rfl | hy
        · omega
        · have := hx y hy
          omega
  · rcases putPeerZone_mem hx with rfl | hx
    · exact hz
    · exact hfits x hx

theorem updateZoneList_ok {z : PeerZone} (hz : z.index ≤ 7) {zs : List PeerZone} (hzs : zoneListOk zs = true) :
    zoneListOk (updateZoneList z zs) = true := by
  unfold updateZoneList
  split
  · obtain ⟨hrise, hfits⟩ := zoneListOk_iff.1 hzs
    exact zoneListOk_iff.2 ⟨hrise.filter _, fun x hx => hfits x (List.mem_of_mem_filter hx)⟩
  · next hq => exact putPeerZone_ok ⟨hz, hq⟩ hzs

theorem orderZoneList_ok {zs : List PeerZone} (hzs : ∀ z ∈ zs, PeerZoneFits z) : zoneListOk (orderZoneList zs) = true := by
  have hfold : ∀ (zs acc : List PeerZone), (∀ z ∈ zs, PeerZoneFits z) → zoneListOk acc = true →
      zoneListOk (zs.foldl (fun acc z => putPeerZone z acc) acc) = true := by
    intro zs
    induction zs with
    | nil => intro acc _ h; exact h
    | cons z zs ih =>
      intro acc hzs hacc
      exact ih _ (fun x hx => hzs x (by simp [hx])) (putPeerZone_ok (hzs z (by simp)) hacc)
  exact hfold zs [] hzs rfl

/-- R46, R47: when the entry's own zone list comes out the same, the table holds the same zones. -/
theorem updateEntry_zones_of_same {n : Nat} {f : PeerEntry → PeerEntry} (hf : ∀ e, (f e).station = e.station)
    (hrise : s.peers.table.Pairwise (fun x y => x.station < y.station))
    (hsame : zoneListOf n (setTable (updateEntry n f s.peers.table) s) = zoneListOf n s) :
    (updateEntry n f s.peers.table).flatMap (fun e => e.zones) = s.peers.table.flatMap (fun e => e.zones) := by
  refine updateEntry_zones fun e he hn => ?_
  subst hn
  simpa [zoneListOf, setTable, findPeer_updateEntry _ _ hf, findPeer_of_mem hrise he] using hsame

/-- R50: an entry without zones is missed by no zone list. -/
theorem removeEntry_zones {n : Nat} {es : List PeerEntry} (h : ∀ e ∈ es, e.station = n → e.zones = []) :
    (es.filter (fun e => e.station != n)).flatMap (fun e => e.zones) = es.flatMap (fun e => e.zones) := by
  induction es with
  | nil => rfl
  | cons e es ih =>
    have ih := ih (fun x hx => h x (by simp [hx]))
    by_cases hn : e.station = n
    · rw [List.filter_cons_of_neg (by simp [hn]), ih]
      simp [h e (by simp) hn]
    · rw [List.filter_cons_of_pos (by simp [hn])]
      simp [ih]

end Sys2Proof.Machine
end

section
/-! PROOFS. The Peer Monitor under the invariant. -/

namespace Sys2Proof.Machine

variable {s t : State} {u b : Bool} {A B : Prop}

/-- The peers reach the condition by the zones of the table alone (R58). -/
theorem computedCondition_setTable {es : List PeerEntry}
    (h : es.flatMap (fun e => e.zones) = s.peers.table.flatMap (fun e => e.zones)) :
    (setTable es s).computedCondition = s.computedCondition := by
  have hpeer : (setTable es s).peerContributions = s.peerContributions := by
    unfold State.peerContributions State.peerZones
    rw [show (setTable es s).peers.table = es from rfl, h]
    rfl
  unfold State.computedCondition
  rw [hpeer]
  rfl

/-! ## The table under the invariant -/

theorem Inv.setTable (h : Inv u A B b s) {es : List PeerEntry} (hrise : es.Pairwise (fun x y => x.station < y.station))
    (hfits : ∀ e ∈ es, EntryFits s.cfg e) (hzones : es.flatMap (fun e => e.zones) = s.peers.table.flatMap (fun e => e.zones)) :
    Inv u A B b (setTable es s) :=
  h.setPeers ⟨hrise, hfits, h.peers.anyPeer, h.peers.schedule⟩ (computedCondition_setTable hzones)

theorem Inv.setTable_owing (h : Inv u A B b s) {es : List PeerEntry} (hrise : es.Pairwise (fun x y => x.station < y.station))
    (hfits : ∀ e ∈ es, EntryFits s.cfg e) : Inv u A B false (Machine.setTable es s) :=
  h.setPeers_owing ⟨hrise, hfits, h.peers.anyPeer, h.peers.schedule⟩

theorem updateEntry_fits {cfg : ConfigRecord} {n : Nat} {f : PeerEntry → PeerEntry} {es : List PeerEntry}
    (hes : ∀ e ∈ es, EntryFits cfg e) (hf : ∀ e, EntryFits cfg e → EntryFits cfg (f e)) :
    ∀ e ∈ updateEntry n f es, EntryFits cfg e := by
  intro e he
  obtain ⟨x, hx, rfl⟩ := List.mem_map.1 he
  split <;> [exact hf x (hes x hx); exact hes x hx]

theorem Inv.updateEntry (h : Inv u A B b s) (n : Nat) {f : PeerEntry → PeerEntry} (hst : ∀ e, (f e).station = e.station)
    (hf : ∀ e, EntryFits s.cfg e → EntryFits s.cfg (f e)) (hz : ∀ e, (f e).zones = e.zones) :
    Inv u A B b (Machine.setTable (updateEntry n f s.peers.table) s) :=
  h.setTable (updateEntry_rising hst h.peers.rising) (updateEntry_fits h.peers.entries hf)
    (updateEntry_zones fun e _ _ => hz e)

/-- R45: an entry with another count, and the liveness that the count gives. -/
theorem EntryFits.counted {cfg : ConfigRecord} {e : PeerEntry} (h : EntryFits cfg e) {k : Nat} (hk : k ≤ 255)
    {l : Liveness} (hl : l = livenessOf cfg.statusInterval k) : EntryFits cfg { e with heard := k, liveness := l } :=
  { h with heard := hk, liveness := hl }

theorem livenessOf_zero {i : Nat} (hi : 0 < i) : livenessOf i 0 = .present := by
  rw [livenessOf, if_pos (by omega)]

theorem Inv.judgeStation (h : Inv u A B b s) (n : Nat) : Inv u A B b (judgeStation n s) := by
  unfold Machine.judgeStation
  split <;> [exact h.judgeRequired; exact h]

/-! ## Hearing a peer (R44, R56) -/

theorem Inv.refreshEntry (h : Inv u A B b s) {n : Nat} (hn : 1 ≤ n ∧ n ≤ 31) (hne : n ≠ s.cfg.station) :
    Inv u A B b (refreshEntry n s) := by
  have hbounds := h.cfg_bounds
  have hpresent : Liveness.present = livenessOf s.cfg.statusInterval 0 := (livenessOf_zero (by omega)).symm
  unfold Machine.refreshEntry
  split
  · next hnone =>
    refine Inv.report (h.setTable (insertEntry_rising h.peers.rising (findPeer_none hnone)) (fun e he => ?_)
      (insertEntry_zones rfl _)) _
    rcases insertEntry_mem he with rfl | he
    · exact ⟨⟨hn.1, hn.2, hne⟩, by simp [newEntry], rfl, hpresent⟩
    · exact h.peers.entries e he
  · have hset := h.updateEntry n (f := fun e => { e with heard := 0, liveness := .present }) (fun _ => rfl)
      (fun e he => he.counted (by omega) hpresent) (fun _ => rfl)
    dsimp only
    split <;> [exact hset; exact hset.report _]

/-- R53, R56: the counts of the Peer Monitor. -/
theorem Inv.setCounts (h : Inv u A B b s) {n m : Nat} (hn : n ≤ 255) (hm : m < s.cfg.statusInterval) :
    Inv u A B b (s.setPeers { s.peers with anyPeer := n, schedule := m }) :=
  h.setPeers (h.peers.counts hn hm) (computedCondition_congr rfl rfl rfl rfl)

theorem Inv.heardAnyPeer (h : Inv u A B b s) : Inv u A B b (heardAnyPeer s) :=
  (h.setCounts (n := 0) (by omega) h.peers.schedule).putPeerFault (x := .alone) nofun false

theorem Inv.heardFrom (h : Inv u A B b s) {n : Nat} (hn : 1 ≤ n ∧ n ≤ 31) (hne : n ≠ s.cfg.station) :
    Inv u A B b (heardFrom n s) := by
  have hheard := (h.refreshEntry hn hne).heardAnyPeer
  unfold Machine.heardFrom
  dsimp only
  split <;> [exact hheard; exact hheard.judgeStation n]

/-! ## Zone lists (R46, R47, R49, R50) -/

/-- R49: a zone list that changed pays what it owes; one that did not owes nothing. -/
theorem Inv.zoneListChanged (h : Inv u A B false s) {old new : List PeerZone}
    (hsame : new = old → s.condition = s.computedCondition) : Inv u A B true (zoneListChanged old new s) := by
  unfold Machine.zoneListChanged
  split
  · next heq => exact { h with settled := fun _ => hsame heq }
  · have hescalated (c : Bool) : Inv u A B true (if c then Machine.escalate none (Machine.recompute s) else Machine.recompute s) := by
      split <;> [exact h.recompute.escalate _; exact h.recompute]
    dsimp only
    split <;> [exact (hescalated _).countedAlarm; exact hescalated _]

/-- R46, R47: an entry takes another zone list. -/
theorem Inv.relist (h : Inv u A B true s) (n : Nat) {f : PeerEntry → PeerEntry} (hst : ∀ e, (f e).station = e.station)
    (hf : ∀ e, EntryFits s.cfg e → EntryFits s.cfg (f e)) :
    Inv u A B true (Machine.zoneListChanged (zoneListOf n s)
      (zoneListOf n (Machine.setTable (Machine.updateEntry n f s.peers.table) s))
      (Machine.setTable (Machine.updateEntry n f s.peers.table) s)) := by
  refine Inv.zoneListChanged
    (h.setTable_owing (updateEntry_rising hst h.peers.rising) (updateEntry_fits h.peers.entries hf)) fun hsame => ?_
  rw [computedCondition_setTable (updateEntry_zones_of_same hst h.peers.rising hsame)]
  exact h.settled rfl

theorem Inv.takeZoneFrame (h : Inv u A B true s) (n : Nat) {z : PeerZone} (hz : z.index ≤ 7) :
    Inv u A B true (takeZoneFrame n z s) :=
  h.relist n (fun _ => rfl) fun _ he => { he with zones := updateZoneList_ok hz he.zones }

theorem Inv.takeStatusFrame (h : Inv u A B true s) (n : Nat) (r : Role) (m : Mode) (f : FaultSet)
    (c : Option (CurtainState × Nat)) {zs : List PeerZone} (hz : ∀ z ∈ zs, PeerZoneFits z) :
    Inv u A B true (takeStatusFrame n r m f c zs s) :=
  h.relist n (fun _ => rfl) fun _ he => { he with zones := orderZoneList_ok hz }

theorem Inv.takeStateFrame (h : Inv u A B b s) (n : Nat) (st : CurtainState) (pos : Nat) :
    Inv u A B b (takeStateFrame n st pos s) :=
  h.updateEntry n (fun _ => rfl) (fun _ he => { he with }) (fun _ => rfl)

theorem Inv.removeLost (h : Inv u A B true s) (n : Nat) : Inv u A B true (removeLost s n) := by
  unfold Machine.removeLost
  split
  · next e he =>
    obtain ⟨hmem, rfl⟩ := findPeer_some he
    split
    · have hset := h.setTable_owing (es := s.peers.table.filter (fun x => x.station != e.station)) (h.peers.rising.filter _)
        (fun x hx => h.peers.entries x (List.mem_of_mem_filter hx))
      refine ((hset.report _).zoneListChanged fun hempty => ?_).judgeStation _
      have hzones : (Machine.setTable (s.peers.table.filter (fun x => x.station != e.station)) s).computedCondition
          = s.computedCondition := by
        refine computedCondition_setTable (removeEntry_zones fun x hx hst => ?_)
        have := findPeer_of_mem h.peers.rising hx
        rw [hst, he] at this
        cases this
        exact hempty.symm
      exact (h.settled rfl).trans hzones.symm
    · exact h
  · exact h

theorem Inv.removeLostPeers (h : Inv u A B true s) : Inv u A B true (removeLostPeers s) :=
  Inv.foldl (fun _ n h => h.removeLost n) _ h

/-! ## Beat boundaries (R45, R53, R56) -/

theorem Inv.reports (h : Inv u A B b s) (rs : List Report) : Inv u A B b (reports rs s) :=
  Inv.foldl (fun _ r h => h.report r) rs h

theorem EntryFits.age {cfg : ConfigRecord} {e : PeerEntry} (h : EntryFits cfg e) : EntryFits cfg (e.age cfg.statusInterval) :=
  h.counted (by simp [bump]) rfl

theorem Inv.agePeers (h : Inv u A B b s) : Inv u A B b (agePeers s) := by
  have hset := h.setTable (es := s.peers.table.map (PeerEntry.age s.cfg.statusInterval))
    (List.pairwise_map.2 (h.peers.rising.imp fun hxy => hxy))
    (by
      intro e he
      obtain ⟨x, hx, rfl⟩ := List.mem_map.1 he
      exact (h.peers.entries x hx).age)
    (by rw [List.flatMap_map]; rfl)
  have hrep := hset.reports (agingReports s.cfg.statusInterval s.peers.table)
  unfold Machine.agePeers
  dsimp only
  split <;> [exact hrep.judgeRequired; exact hrep]

theorem Inv.offerStatus (h : Inv u A B b s) : Inv u A B b (offerStatus s) := by
  have hoff := h.offer (ownStatus s)
  have hbounds := hoff.cfg_bounds
  exact hoff.setCounts hoff.peers.anyPeer (by omega)

theorem Inv.statusDue (h : Inv u A B b s) : Inv u A B b (statusDue s) := by
  unfold Machine.statusDue
  split <;> [exact h.offerStatus; exact h]

theorem Inv.advanceSchedule (h : Inv u A B b s) : Inv u A B b (advanceSchedule s) := by
  unfold Machine.advanceSchedule
  split
  · exact h
  split
  · exact h.offerStatus
  · next hlt => exact h.setCounts h.peers.anyPeer (by omega)

theorem Inv.judgeAlone (h : Inv u A B b s) : Inv u A B b (judgeAlone s) := by
  unfold Machine.judgeAlone
  split <;> [exact h.putPeerFault (x := .alone) nofun _; exact h]

theorem Inv.advanceAnyPeer (h : Inv u A B b s) : Inv u A B b (advanceAnyPeer s) :=
  (h.setCounts (by simp [bump]) h.peers.schedule).judgeAlone

theorem Inv.peerBoundary (h : Inv u A B b s) : Inv u A B b (peerBoundary s) :=
  h.agePeers.advanceSchedule.advanceAnyPeer

theorem Inv.aloneDue (h : Inv u A B b s) : Inv u A B b (aloneDue s) := by
  have hbounds := h.cfg_bounds
  unfold Machine.aloneDue
  split <;> [exact (h.setCounts (n := 4 * s.cfg.statusInterval) (by omega) h.peers.schedule).judgeAlone; exact h]

theorem Inv.ageToThreshold (h : Inv u A B b s) (n : Nat) : Inv u A B b (ageToThreshold n s) := by
  have hbounds := h.cfg_bounds
  unfold Machine.ageToThreshold
  split
  · next e he =>
    split
    · exact h
    · have hk : nextThreshold s.cfg.statusInterval e.liveness ≤ 255 := by
        unfold nextThreshold
        split <;> omega
      refine Inv.judgeStation (Inv.report (h.updateEntry n (f := fun x => { x with
        heard := nextThreshold s.cfg.statusInterval e.liveness
        liveness := livenessOf s.cfg.statusInterval (nextThreshold s.cfg.statusInterval e.liveness) })
        (fun _ => rfl) (fun x hx => hx.counted hk rfl) fun _ => rfl) _) n
  · exact h

end Sys2Proof.Machine
end

section
/-! PROOFS. The Beat Unit, command handling and the Line Interface under the invariant. -/

namespace Sys2Proof.Machine

variable {s t : State} {u b : Bool} {A B : Prop}

/-! ## The delivery of a boundary (R64, R65) -/

/-- R149: the marks of a boundary under way end with its delivery to the Call Unit. -/
theorem Inv.releasePlacement (h : Inv true A B b s) : Inv false A B b (releasePlacement s) := by
  unfold Machine.releasePlacement
  dsimp only
  split
  · exact Inv.placeWarning { h with underway := rfl, held := nofun }
  · next hheld => exact { h with underway := rfl, held := fun hp => absurd hp hheld }

theorem Inv.loaderBoundary (h : Inv u A B b s) : Inv u A B b (loaderBoundary s) := by
  unfold Machine.loaderBoundary
  split
  · exact h
  · dsimp only
    split <;> [exact (h.setListenCount _).enterActive _; exact h.setListenCount _]

theorem Inv.deliverBoundary (h : Inv false A B b s) : Inv false A B b (deliverBoundary s) := by
  have hunder : Inv true A B b (s.setBoundaryUnderway true) := { h with underway := rfl, held := fun _ => rfl }
  exact hunder.peerBoundary.lightBoundary.callBoundary.releasePlacement.curtainBoundary.loaderBoundary

/-- The timer restarts (R64, R66). -/
theorem BeatFits.restart {x : BeatState} (h : BeatFits x) {y : BeatState}
    (hy : y = { x with number := y.number, position := 0, stepIndex := y.stepIndex }) (hstep : y.stepIndex ≤ 9) : BeatFits y := by
  have := h.position
  rw [hy]
  exact { h with position := by dsimp only; omega, overtaken := fun _ => rfl, stepIndex := hstep }

theorem Inv.takeBoundary (h : Inv false A B b s) (n : BitVec 8) : Inv false A B b (takeBoundary n s) :=
  Inv.deliverBoundary (h.setBeat (h.beat.restart rfl (by dsimp only; omega)))

theorem Inv.expireBeat (h : Inv false A B b s) : Inv false A B b (expireBeat s) := by
  unfold Machine.expireBeat
  dsimp only
  split <;> [exact (h.takeBoundary _).offer _; exact h.takeBoundary _]

theorem Inv.beatDue (h : Inv false A B b s) : Inv false A B b (beatDue s) := by
  unfold Machine.beatDue
  split
  · exact h.setBeat { h.beat with overtaken := nofun }
  · split <;> [exact h.expireBeat; exact h]

/-! ## BEAT frames (R66 to R73) -/

/-- R73: the lock state with its in-window run. -/
theorem BeatFits.locking {x : BeatState} (h : BeatFits x) (l : LockState) {n : Nat} (hn : n ≤ 3) (hl : l = .locked → n = 0) :
    BeatFits { x with lock := l, run := n } := { h with run := hn, locked := hl }

theorem Inv.judgeLock (h : Inv u A B b s) (n : BitVec 8) : Inv u A B b (judgeLock n s) := by
  have hreset (l : LockState) : Inv u A B b (s.setBeat { s.beat with lock := l, run := 0 }) :=
    h.setBeat (h.beat.locking l (by omega) fun _ => rfl)
  unfold Machine.judgeLock
  dsimp only
  split
  · next hlock _ =>
    split
    · exact (hreset .locked).report _
    · exact h.setBeat { h.beat with run := by dsimp only; omega, locked := fun hl => by rw [hlock] at hl; cases hl }
  · next hlock _ => exact h.setBeat { h.beat with run := by dsimp only; omega, locked := fun _ => rfl }
  · exact h
  · exact ((hreset .seeking).report _).report _

theorem Inv.measureBeat (h : Inv u A B b s) (n : BitVec 8) : Inv u A B b (measureBeat n s) := by
  have hmeasured : BeatFits s.beat.measure := { h.beat with received := by simp [BeatState.measure, bump] }
  exact (h.setBeat hmeasured).judgeLock n

theorem Inv.withdrawBeat (h : Inv u A B b s) : Inv u A B b (withdrawBeat s) :=
  h.setLine { h.line with
    tx := withdrawBeat_txOk s h.line.tx
    silent := fun ha => by
      obtain ⟨htx, hslot, hheld⟩ := h.line.silent ha
      exact ⟨by simp [htx], hslot, hheld⟩ }

theorem takeBoundary_beat (n : BitVec 8) (s : State) :
    (takeBoundary n s).beat = { s.beat with number := n, position := 0, stepIndex := 0 } := by
  simp [takeBoundary]

theorem Inv.followBeat (h : Inv false A B b s) (n : BitVec 8) : Inv false A B b (followBeat n s) := by
  have hfollowed : Inv false A B b (if n = s.beat.number then s.setBeat { s.beat with position := 0 } else Machine.takeBoundary n s)
      ∧ (if n = s.beat.number then s.setBeat { s.beat with position := 0 } else Machine.takeBoundary n s).beat.position = 0 := by
    split
    · exact ⟨h.setBeat (h.beat.restart rfl h.beat.stepIndex), rfl⟩
    · exact ⟨h.takeBoundary n, by rw [takeBoundary_beat]⟩
  obtain ⟨hinv, hpos⟩ := hfollowed
  exact Inv.withdrawBeat (hinv.setBeat { hinv.beat with overtaken := fun _ => hpos })

theorem Inv.afterAlignment (h : Inv u A B b s) : Inv u A B b (afterAlignment s) := by
  have hsync (m : SyncMode) : Inv u A B b (s.setBeat { s.beat with sync := m }) := h.setBeat { h.beat with }
  unfold Machine.afterAlignment
  split <;> [exact (hsync _).report _; exact h]

theorem Inv.takeBeatFrame (h : Inv false A B b s) (x : Nat) (n : BitVec 8) : Inv false A B b (takeBeatFrame x n s) := by
  unfold Machine.takeBeatFrame
  dsimp only
  split <;> [exact h.measureBeat n; exact ((h.measureBeat n).followBeat n).afterAlignment]

theorem Inv.fadeStepDue (h : Inv u A B b s) : Inv u A B b (fadeStepDue s) := by
  have hpos := h.beat.position
  unfold Machine.fadeStepDue
  dsimp only
  split
  · next hk =>
    have hlast : (s.beat.stepIndex + 1) * (s.beat.period / 10) ≤ 9 * (s.beat.period / 10) := Nat.mul_le_mul_right _ hk.2
    refine Inv.lightStep (h.setBeat { h.beat with
      position := by dsimp only; omega, overtaken := nofun, stepIndex := hk.2 })
  · exact h

theorem BeatFits.tick {x : BeatState} (h : BeatFits x) : BeatFits x.tick := by
  unfold BeatState.tick
  split
  · next hk => exact { h with position := hk.2, overtaken := nofun }
  · exact h

/-! ## Commands (R79 to R88) -/

theorem Inv.changeMode (h : Inv u A B b s) (m : Mode) (x : Nat) : Inv u A B b (changeMode m x s) := by
  unfold Machine.changeMode
  split
  · exact h
  · split <;> [exact (h.setMode m).report _; exact h.report _]

theorem Inv.carryOut (h : Inv u A B true s) (c : Command) (x : Nat) : Inv u A B true (carryOut c x s) := by
  cases c with
  | ack z => exact h.ackZones z
  | reset => exact h.removeLostPeers.resetZones.clearSilence _
  | silence => exact h.setSilence
  | isolate z => exact h.isolateZone z
  | restore z => exact h.restoreZone z
  | setMode m => exact h.changeMode m x

theorem Inv.takeCommand (h : Inv u A B true s) (c : Command) (x n : Nat) (l : Bool) : Inv u A B true (takeCommand c x n l s) :=
  (h.report _).carryOut c x

theorem Inv.takeCommandFrame (h : Inv u A B true s) (x : Nat) (c : Command) (n : Nat) :
    Inv u A B true (takeCommandFrame x c n s) := by
  unfold Machine.takeCommandFrame
  split
  · split <;> [exact h.report _; exact h.takeCommand c x n false]
  · exact h

/-! ## Counting and LINE_DEGRADED (R34 to R36) -/

/-- R36: the judgement settles LINE_DEGRADED for a line whose score has changed. -/
theorem Inv.judgeDegraded (h : Inv u A B b s) {l : LineState} (hthr : 1 ≤ l.threshold)
    (hl : ∀ d, (l.threshold ≤ l.score → d = true) → (l.score = 0 → d = false) → LineFits (s.phase = .active) d l) :
    Inv u A B b (judgeDegraded (s.setLine l)) := by
  have hput (d : Bool) (r : Report) (hd : LineFits (s.phase = .active) d l) :
      Inv u A B b (Machine.putLineFault .lineDegraded d r (s.setLine l)) :=
    have hset : Inv u A B false ((s.setLine l).setFaults (s.faults.put .lineDegraded d)) :=
      { h with line := hd, settled := nofun }
    (hset.report r).recompute.of_true
  unfold Machine.judgeDegraded
  split
  · next hcase =>
    obtain ⟨-, hscore⟩ := hcase
    exact hput true _ (hl true (fun _ => rfl) (fun h0 => by dsimp [State.setLine] at hscore; omega))
  split
  · next hcase =>
    obtain ⟨-, hscore⟩ := hcase
    exact hput false _ (hl false (fun h0 => by dsimp [State.setLine] at hscore; omega) (fun _ => rfl))
  · next hhigh hlow =>
    refine h.setLine (hl _ (fun h0 => ?_) (fun h0 => ?_))
    · by_contra hd
      exact hhigh ⟨by simpa using hd, h0⟩
    · by_contra hd
      exact hlow ⟨by simpa using hd, h0⟩

theorem Inv.countGood (h : Inv u A B b s) : Inv u A B b (Machine.judgeDegraded (s.setLine s.line.countGood)) := by
  obtain ⟨hcheck, hform, hbit, hgood, hscore, hthr⟩ := h.line.counts
  unfold LineState.countGood
  split
  · exact h.judgeDegraded hthr fun d hhigh hlow =>
      { h.line with counts := ⟨hcheck, hform, hbit, by simp, by simp; omega, hthr⟩, high := hhigh, low := hlow }
  · exact h.judgeDegraded hthr fun d hhigh hlow =>
      { h.line with counts := ⟨hcheck, hform, hbit, by simp; omega, hscore, hthr⟩, high := hhigh, low := hlow }

theorem bump_le {top x : Nat} : bump top x ≤ top := by simp [bump]

theorem Inv.countError (h : Inv u A B b s) (k : LineError) {f : Option Payload} (hf : f = none ∨ f = s.line.slot) :
    Inv u A B b (Machine.judgeDegraded (s.setLine { s.line.countError k with slot := f })) := by
  obtain ⟨hcheck, hform, hbit, -, -, hthr⟩ := h.line.counts
  have hcounted (k' : LineError) {x : Nat} (hx : x ≤ 255) : (if k = k' then bump 255 x else x) ≤ 255 := by
    split <;> [exact bump_le; exact hx]
  refine h.judgeDegraded hthr fun d hhigh hlow => ⟨h.line.tx, fun ha => ?_, fun hheld => ?_,
    ⟨hcounted _ hcheck, hcounted _ hform, hcounted _ hbit, by simp [LineState.countError], bump_le, hthr⟩, hhigh, hlow⟩
  · obtain ⟨htx, hslot, hnone⟩ := h.line.silent ha
    refine ⟨htx, ?_, hnone⟩
    rcases hf with rfl | rfl <;> [rfl; exact hslot]
  · have hslot := h.line.held hheld
    rcases hf with rfl | rfl <;> [rfl; exact hslot]

/-! ## The send slot (R24, R27 to R29, R40, R69) -/

/-- What the return of a frame leaves alone. -/
theorem requeued_returnFrame (f : Payload) (s : State) :
    returnFrame f s = { s with line := (returnFrame f s).line, panel := (returnFrame f s).panel } := by
  have h := returnFrame_frame s f
  revert h
  generalize returnFrame f s = t
  intro h
  cases t; simp_all

theorem Inv.returnFrame (h : Inv u A B b s) (hact : s.phase = .active) (f : Payload) : Inv u A B b (returnFrame f s) := by
  obtain ⟨hslot, hheld, hcheck, hform, hbit, hscore, hgood, hthr⟩ := returnFrame_line s f
  rw [requeued_returnFrame]
  refine { h with line := ?_, panel := h.panel.grows (returnFrame_grows _ _ _ (PanelGrows.refl _)) }
  refine ⟨returnFrame_txOk s f h.line.tx, fun ha => absurd hact ha, ?_, ?_, ?_, ?_⟩
  · rw [hslot, hheld]; exact h.line.held
  · rw [hcheck, hform, hbit, hgood, hscore, hthr]; exact h.line.counts
  · rw [hscore, hthr]; exact h.line.high
  · rw [hscore]; exact h.line.low

theorem Inv.active_of_slot (h : Inv u A B b s) (hs : s.line.slot ≠ none) : s.phase = .active := by
  by_contra ha
  obtain ⟨-, hslot, -⟩ := h.line.silent ha
  exact hs hslot

theorem Inv.active_of_held (h : Inv u A B b s) (hs : s.line.heldBeat ≠ none) : s.phase = .active := by
  by_contra ha
  obtain ⟨-, -, hheld⟩ := h.line.silent ha
  exact hs hheld

theorem Inv.setSlot_none (h : Inv u A B b s) : Inv u A B b (setSlot none s) :=
  h.setLine { h.line with
    silent := fun ha => by
      obtain ⟨htx, -, hheld⟩ := h.line.silent ha
      exact ⟨htx, rfl, hheld⟩
    held := fun _ => rfl }

theorem Inv.resolveHeldBeat (h : Inv u A B b s) (won : Bool) : Inv u A B b (resolveHeldBeat won s) := by
  unfold Machine.resolveHeldBeat
  split
  · exact h
  · next n hn =>
    have hact := h.active_of_held (by rw [hn]; nofun)
    have hset : Inv u A B b (s.setLine { s.line with heldBeat := none }) :=
      h.setLine { h.line with silent := fun ha => absurd hact ha, held := nofun }
    dsimp only
    split <;> [exact hset; exact hset.returnFrame hact _]

theorem Inv.beginFrame (h : Inv u A B b s) : Inv u A B b (beginFrame s) := by
  unfold Machine.beginFrame
  split
  · next hcase =>
    obtain ⟨hact, -, hheld⟩ := hcase
    split
    · exact h
    · next f rest htx =>
      exact h.setLine { h.line with
        tx := h.line.tx.sublist (by rw [htx]; exact List.sublist_cons_self f rest)
        silent := fun ha => absurd hact ha
        held := fun hs => by dsimp only at hs; rw [hheld] at hs; cases hs }
  · exact h

theorem Inv.loseArbitration (h : Inv u A B b s) : Inv u A B b (loseArbitration s) := by
  unfold Machine.loseArbitration
  split
  · exact h
  · next n hn =>
    have hact := h.active_of_slot (by rw [hn]; nofun)
    exact h.setLine { h.line with silent := fun ha => absurd hact ha, held := fun _ => rfl }
  · next f _ hf => exact h.setSlot_none.returnFrame (h.active_of_slot (by rw [hf]; nofun)) f

theorem Inv.abandonFrame (h : Inv u A B b s) : Inv u A B b (abandonFrame s) := by
  unfold Machine.abandonFrame
  split
  · exact h
  · exact (h.countError .bit (.inl rfl)).report _

/-! ## Handing a frame on (R31, R33) -/

theorem Inv.noteDuplicate (h : Inv u A B b s) (x : Nat) : Inv u A B b (noteDuplicate x s) := by
  unfold Machine.noteDuplicate
  split
  · exact ((h.setFaults (f := s.faults.put .duplicate true) rfl).report _).recompute.of_true
  · exact h

theorem entryOk_fits {z : PeerZone} (h : z.entryOk = true) : PeerZoneFits z := by
  simp only [PeerZone.entryOk, Bool.and_eq_true, decide_eq_true_eq] at h
  exact ⟨h.1.1, h.2⟩

theorem Inv.takePayload (h : Inv false A B true s) (x : Nat) {p : Payload} (hp : x ≠ s.cfg.station → p.formOk = true) :
    Inv false A B true (takePayload x p s) := by
  cases p with
  | zone i a st =>
    unfold Machine.takePayload
    dsimp only
    split
    · exact h
    · next hne =>
      have hform := hp hne
      simp only [Payload.formOk, Bool.and_eq_true, decide_eq_true_eq] at hform
      exact h.takeZoneFrame x hform.1
  | beat n => exact h.takeBeatFrame x n
  | command c n => exact h.takeCommandFrame x c n
  | curtain k n => exact h.takeCurtainFrame x k n
  | curtainState n st pos =>
    unfold Machine.takePayload
    dsimp only
    split <;> [exact h; exact h.takeStateFrame x st pos]
  | cue bl l d st => exact h.takeCueFrame x bl l d st
  | call bl k c r st q => exact h.takeCallFrame _
  | status r m f c zs =>
    unfold Machine.takePayload
    dsimp only
    split
    · exact h
    · next hne =>
      have hform := hp hne
      simp only [Payload.formOk, Bool.and_eq_true, decide_eq_true_eq, List.all_eq_true] at hform
      exact h.takeStatusFrame x r m f c fun z hz => entryOk_fits (hform.1.2 z hz)

theorem Inv.handOn (h : Inv false A B true s) {f : Frame} (hf : f.sender ≠ s.cfg.station → f.formOk = true) :
    Inv false A B true (handOn f s) := by
  unfold Machine.handOn
  split
  · next hown => exact h.takePayload _ fun hne => absurd hown hne
  · next hne =>
    have hform := hf hne
    simp only [Frame.formOk, Bool.and_eq_true, decide_eq_true_eq] at hform
    exact (h.heardFrom hform.1 hne).takePayload _ fun _ => hform.2

theorem Inv.reflectFrame (h : Inv false A B true s) : Inv false A B true (reflectFrame s) := by
  unfold Machine.reflectFrame
  split
  · exact h
  · exact h.setSlot_none.handOn fun hne => absurd rfl hne

theorem Inv.receiveError (h : Inv u A B b s) (k : LineError) : Inv u A B b (receiveError k s) :=
  (h.countError k (.inr rfl)).resolveHeldBeat false

theorem Inv.receiveGood (h : Inv false A B true s) {f : Frame} (hf : f.formOk = true) : Inv false A B true (receiveGood f s) :=
  ((h.countGood.resolveHeldBeat _).noteDuplicate _).handOn fun _ => hf

theorem Inv.receive (h : Inv false A B true s) (f : Frame) : Inv false A B true (receive f s) := by
  unfold Machine.receive
  split
  · split
    · next hf => exact h.receiveGood hf
    · exact h.receiveError _
  · exact h

/-- R32: the frame that the checks pass has fields with a meaning. -/
theorem judgeBytes_formOk {bs : List Byte} {e : Bool} {f : Frame} (h : judgeBytes bs e = .good f) : f.formOk = true := by
  have hfields {arb : Byte} {p : List Byte} (h : judgeFields arb p = .good f) : f.formOk = true := by
    unfold judgeFields at h
    split at h
    · split at h
      · next hok => cases h; exact hok
      · cases h
    · cases h
  unfold judgeBytes at h
  split at h
  · split at h
    · cases h
    split at h
    · cases h
    split at h
    · cases h
    · exact hfields h
  · cases h

theorem Inv.receiveBytes (h : Inv false A B true s) (bs : List Byte) (e : Bool) : Inv false A B true (receiveBytes bs e s) := by
  unfold Machine.receiveBytes
  split
  · split
    · exact h.receiveError _
    · exact h.receiveError _
    · next f hf => exact h.receiveGood (judgeBytes_formOk hf)
  · exact h

/-! ## The rows of time and of start-up -/

theorem Inv.sampleEvent (h : Inv u A B b s) (inputs : SampleInputs) : Inv u A B b (sampleEvent inputs s) :=
  ((h.markStalled (v := false) nofun).sampleZones inputs).curtainSample inputs _

theorem Inv.endListen (h : Inv u A B b s) : Inv u A B b (endListen s) := by
  unfold Machine.endListen
  split <;> [exact (h.setListenCount _).enterActive _; exact h]

theorem Inv.clearMarks (h : Inv u A B b s) : Inv u A B b (clearMarks s) := by
  have hmark := h.markStalled (v := false) nofun
  refine hmark.setZones_same ⟨by simpa using h.zones.1, fun z hz => ?_⟩ (by simp [Function.comp_def])
  obtain ⟨y, hy, rfl⟩ := List.mem_map.1 hz
  have hfit := (zoneRecordOk_iff y).1 (h.zones.2 y hy)
  exact (zoneRecordOk_iff _).2 ⟨hfit.timer, hfit.history, hfit.score, nofun, hfit.disabled⟩

theorem Inv.idle (h : Inv u A B b s) : Inv u A B b (idle s) := ((h.setBeat h.beat.tick).setCalls _).clearMarks

theorem Inv.dimmerTransferEnd (h : Inv u A B b s) :
    Inv u A B b (if s.resetHeld then s else s.setLights (endTransfer s.lights)) := by
  split <;> [exact h; exact h.setLights (endTransfer_lightsFit h.lights)]

end Sys2Proof.Machine
end

section
/-! PROOFS. What the panel rows keep. -/

namespace Sys2Proof.Machine

variable {s : State} {u : Bool} {A B : Prop}

theorem ReportsFit.popReport {p : PanelState} (h : ReportsFit p) (n : BitVec 8) : ReportsFit (p.popReport n) := by
  obtain ⟨hlen, hlost, hatt, hfull⟩ := h
  unfold PanelState.popReport
  split
  · exact ⟨hlen, hlost, hatt, hfull⟩
  · next r rest hr =>
    rw [hr] at hlen hfull
    simp only [List.length_cons] at hlen hfull
    split
    · exact ⟨by simp; omega, by simp, by simp, fun h0 => by simp at h0⟩
    · next hnot =>
      refine ⟨by dsimp only; omega, hlost, rfl, fun h0 => ?_⟩
      rw [hr] at hnot
      have hlost : 0 < p.lost := h0
      have := hfull hlost
      simp only [List.length_cons] at hnot
      exact absurd ⟨by omega, hlost⟩ hnot

theorem ReportsFit.removeSent (h : ReportsFit s.panel) (source : RecordSource) : ReportsFit (removeSent source s).panel := by
  cases source with
  | empty => exact h
  | holder => exact { h with }
  | report => exact h.popReport _

/-- A property of a state that the panel rows keep, since every operation they reach keeps it. -/
structure PanelKeeps (P : State → Prop) : Prop where
  reports  : ∀ {s}, P s → ReportsFit s.panel
  setPanel : ∀ {s p}, P s → ReportsFit p → P (s.setPanel p)
  offer    : ∀ {s} f, P s → P (offer f s)
  command  : ∀ {s} c x n l, s.working = true → P s → P (takeCommand c x n l s)
  master   : ∀ {s} v, s.working = true → P s → P (setMasterLevel v s)
  counters : ∀ {s}, P s → P (s.setLine s.line.clearCounters)
  received : ∀ {s}, P s → P (s.setBeat { s.beat with received := 0 })

variable {P : State → Prop}

namespace PanelKeeps

theorem place (k : PanelKeeps P) (h : P s) (a : Answer) : P (place a s) := k.setPanel h { k.reports h with }

theorem setLink (k : PanelKeeps P) (h : P s) (x : Link) : P (setLink x s) := k.setPanel h { k.reports h with }

theorem removeSent (k : PanelKeeps P) (h : P s) (source : RecordSource) : P (removeSent source s) := by
  cases source with
  | empty => exact h
  | holder => exact k.setPanel h { k.reports h with }
  | report => exact k.setPanel h ((k.reports h).popReport _)

theorem beginTransfer (k : PanelKeeps P) (h : P s) : P (beginTransfer s) := by
  unfold Machine.beginTransfer
  split
  · split <;> exact k.setLink h _
  · exact h
  · exact h

theorem completeTransfer (k : PanelKeeps P) (h : P s) {request : State → State} (hr : ∀ {s}, P s → P (request s)) :
    P (completeTransfer request s) := by
  unfold Machine.completeTransfer
  split
  · exact k.setLink h _
  · exact hr (k.removeSent (k.setLink h _) _)
  · split <;> [exact h; exact hr (k.removeSent h _)]

theorem answerRequest (k : PanelKeeps P) (h : P s) {effect : State → State} (he : P (effect s)) (rk : RequestKind) (tag : Nat)
    (reason : Option RefusalReason) : P (answerRequest rk tag reason effect s) := by
  unfold Machine.answerRequest
  split <;> [exact k.place h _; exact k.place he _]

theorem callRequest (k : PanelKeeps P) (h : P s) (tag : Nat) (a : CallArgs) : P (callRequest tag a s) := by
  unfold Machine.callRequest
  split
  · exact k.place h _
  · exact k.place h _
  · split
    · exact k.place h _
    · split <;> [exact k.place h _; exact k.answerRequest h (k.offer _ h) _ _ _]

theorem cueRequest (k : PanelKeeps P) (h : P s) (tag : Nat) (a : CueArgs) : P (cueRequest tag a s) := by
  unfold Machine.cueRequest
  split
  · exact k.place h _
  · exact k.place h _
  · exact k.answerRequest h (k.offer _ h) _ _ _

theorem curtainRequest (k : PanelKeeps P) (h : P s) (rk : RequestKind) (tag : Nat) (ck : CurtainKind) (n : Nat) :
    P (curtainRequest rk tag ck n s) := k.answerRequest h (k.offer _ h) _ _ _

/-- R89: a command request that passes its checks finds LISTEN or ACTIVE. -/
theorem working_of_commandRefusal {keysw valid : Bool} {c : Command} {n : Nat} (h : commandRefusal keysw valid c n s = none) :
    s.working = true := by
  unfold commandRefusal at h
  split at h
  · cases h
  · next hunconfigured =>
    split at h
    · cases h
    · next hread =>
      cases hphase : s.phase <;> simp_all [State.working]

theorem commandRequest (k : PanelKeeps P) (h : P s) (rk : RequestKind) (tag : Nat) (keysw valid : Bool) (c : Command) (n : Nat) :
    P (commandRequest rk tag keysw valid c n s) := by
  unfold Machine.commandRequest
  split
  · exact k.place h _
  · next hok =>
    split
    · exact k.place (k.command _ _ _ _ (working_of_commandRefusal hok) h) _
    · exact k.answerRequest h (k.offer _ h) _ _ _

theorem setMasterRequest (k : PanelKeeps P) (h : P s) (tag v : Nat) : P (setMasterRequest tag v s) := by
  unfold Machine.setMasterRequest
  split
  · exact k.place h _
  · exact k.place h _
  · next hp => exact k.place (k.master v (by simp [State.working, hp]) h) _
  · next hp => exact k.place (k.master v (by simp [State.working, hp]) h) _

theorem readZone (k : PanelKeeps P) (h : P s) (tag n : Nat) : P (readZone tag n s) := by
  unfold Machine.readZone
  split <;> exact k.place h _

theorem readPeer (k : PanelKeeps P) (h : P s) (tag n : Nat) : P (readPeer tag n s) := by
  unfold Machine.readPeer
  split <;> exact k.place h _

theorem readChannel (k : PanelKeeps P) (h : P s) (tag n : Nat) : P (readChannel tag n s) := by
  unfold Machine.readChannel
  split <;> exact k.place h _

theorem readQueue (k : PanelKeeps P) (h : P s) (tag n : Nat) : P (readQueue tag n s) := by
  unfold Machine.readQueue
  split <;> exact k.place h _

theorem readCounters (k : PanelKeeps P) (h : P s) (tag flag : Nat) : P (readCounters tag flag s) := by
  refine k.place ?_ _
  split <;> [exact h; exact k.counters h]

theorem readBeat (k : PanelKeeps P) (h : P s) (tag flag : Nat) : P (readBeat tag flag s) := by
  refine k.place ?_ _
  split <;> [exact h; exact k.received h]

end PanelKeeps

/-- In LISTEN and ACTIVE the panel rows keep the invariant. -/
theorem Inv.panelKeeps : PanelKeeps (Inv u A B true) where
  reports h := h.panel
  setPanel h hp := { h with panel := hp }
  offer f h := h.offer f
  command c x n l _ h := h.takeCommand c x n l
  master v _ h := h.setMasterLevel v
  counters h := by
    obtain ⟨-, -, -, hgood, hscore, hthr⟩ := h.line.counts
    exact h.setLine { h.line with counts := ⟨by simp [LineState.clearCounters], by simp [LineState.clearCounters],
      by simp [LineState.clearCounters], hgood, hscore, hthr⟩ }
  received h := h.setBeat { h.beat with received := by simp }

end Sys2Proof.Machine
end

section
/-! PROOFS. The configuration record in force, field by field (R171). -/

namespace Sys2Proof.Machine

variable (r : List Byte)

/-! ## Single fields -/

theorem downToTen_eq (x : Nat) : downToTen x = x / 10 * 10 := by
  unfold downToTen
  omega

theorem downToTen_mod (x : Nat) : downToTen x % 10 = 0 := by
  unfold downToTen
  omega

theorem clampTo_zero (hi x : Nat) : clampTo 0 hi x = min hi x := Nat.zero_max _

theorem codeAt_startMode (k : Nat) :
    (codeAt r k startModeOf .standby).value = if byteAt r k = 1 then .inShow else .standby := by
  unfold codeAt startModeOf
  split
  · next h => split at h <;> simp_all
  · next h => split at h <;> simp_all

theorem codeAt_syncMode (k : Nat) :
    (codeAt r k syncModeOf .track).value
      = if byteAt r k = 1 then .once else if byteAt r k = 2 then .monitor else .track := by
  unfold codeAt syncModeOf
  split
  · next h => split at h <;> simp_all
  · next h => split at h <;> simp_all

theorem codeAt_zoneKind (k : Nat) :
    (codeAt r k zoneKindOf .detector).value = if byteAt r k = 1 then .callPoint else .detector := by
  unfold codeAt zoneKindOf
  split
  · next h => split at h <;> simp_all
  · next h => split at h <;> simp_all

/-- R171: a block as it is corrected. -/
theorem blockAt_value (k : Nat) : (blockAt r k).value =
    { size := if byteAt r k ∈ [1, 2, 4, 8, 16] then byteAt r k else 16
      offset := min 15 (byteAt r (k + 1)) / (if byteAt r k ∈ [1, 2, 4, 8, 16] then byteAt r k else 16)
        * (if byteAt r k ∈ [1, 2, 4, 8, 16] then byteAt r k else 16) } := by
  have hsize : (AreaBlock.sizeOk { size := byteAt r k, offset := byteAt r (k + 1) } = true) ↔ byteAt r k ∈ [1, 2, 4, 8, 16] := by
    simp [AreaBlock.sizeOk, or_assoc]
  simp only [blockAt, checkField, AreaBlock.aligned, hsize]
  generalize (if byteAt r k ∈ [1, 2, 4, 8, 16] then byteAt r k else 16) = size
  congr 1
  have := Nat.div_add_mod (min 15 (byteAt r (k + 1))) size
  rw [Nat.mul_comm] at this
  omega

/-- R171: a corrected block has a listed size and an aligned offset. -/
theorem blockAt_ok (k : Nat) : blockOk (blockAt r k).value = true := by
  rw [blockAt_value]
  generalize hsize : (if byteAt r k ∈ [1, 2, 4, 8, 16] then byteAt r k else 16) = size
  have hlisted : size ∈ [1, 2, 4, 8, 16] := by
    rw [← hsize]
    split
    · assumption
    · simp
  have hle : min 15 (byteAt r (k + 1)) / size * size ≤ 15 := le_trans (Nat.div_mul_le_self _ _) (min_le_left _ _)
  simp only [blockOk, AreaBlock.named, AreaBlock.sizeOk, Bool.and_eq_true, decide_eq_true_eq, Nat.mul_mod_left]
  refine ⟨⟨?_, hle⟩, trivial⟩
  simpa [or_assoc] using hlisted

theorem requiredAt_value : (requiredAt r).value =
    ((List.range (min 4 (byteAt r 10))).map (fun i => byteAt r (11 + i))).filter (fun n => decide (1 ≤ n ∧ n ≤ 31)) := by
  simp [requiredAt, rangedByte, checkField, clampTo_zero, List.filter_map, Function.comp_def]

theorem zoneAt_value (n : Nat) : (zoneAt r n).value =
    { enabled := decide (byteAt r (21 + 8 * n) ≠ 0)
      kind := if byteAt r (22 + 8 * n) = 1 then .callPoint else .detector
      area := min 15 (byteAt r (23 + 8 * n)), t1 := min 1200 (wordAt r (24 + 8 * n))
      t2 := min 6000 (wordAt r (26 + 8 * n)), threshold := max 2 (min 15 (byteAt r (28 + 8 * n))) } := by
  have hplace (i : Nat) : 21 + 8 * n + i = 21 + i + 8 * n := by omega
  simp only [zoneAt, rangedByte, rangedWord, checkField, clampTo_zero, codeAt_zoneKind, hplace]
  rfl

theorem outputAt_value (served : AreaBlock) (k : Nat) : (outputAt r served k).value =
    { area := min 15 (byteAt r k), enabled := decide (byteAt r (k + 1) ≠ 0) && served.contains (min 15 (byteAt r k)) } := by
  simp only [outputAt, rangedByte, checkField, clampTo_zero]

/-- The on-time of the pattern at offset k. -/
def onTimeAt (k : Nat) : Nat := max 20 (min 5000 (wordAt r k)) / 10 * 10

/-- The period of the pattern at offset k. -/
def patternPeriodAt (k : Nat) : Nat :=
  if min 10000 (wordAt r (k + 2)) / 10 * 10 ≤ onTimeAt r k then onTimeAt r k + 10 else min 10000 (wordAt r (k + 2)) / 10 * 10

theorem timeField_onTime (k : Nat) : (timeField r k 20 5000).value = onTimeAt r k := by
  simp only [timeField, checkField, downToTen_eq, clampTo, onTimeAt]

theorem periodAt_value (k : Nat) : (periodAt r (k + 2) (onTimeAt r k)).value = patternPeriodAt r k := by
  simp only [periodAt, checkField, downToTen_eq, patternPeriodAt]

theorem patternAt_value (n : Nat) : (patternAt r n).value =
    { onTime := onTimeAt r (109 + 7 * n), period := patternPeriodAt r (109 + 7 * n)
      cycles := max 1 (min 32 (byteAt r (113 + 7 * n))), gap := min 10000 (wordAt r (114 + 7 * n)) / 10 * 10 } := by
  have hfour : 109 + 7 * n + 4 = 113 + 7 * n := by omega
  have hfive : 109 + 7 * n + 5 = 114 + 7 * n := by omega
  simp only [patternAt, timeField_onTime, periodAt_value]
  simp only [timeField, rangedByte, checkField, downToTen_eq, clampTo_zero, hfour, hfive]
  rfl

/-- R171: on-time and period lie in their ranges. -/
theorem pattern_timesOk (k : Nat) : timesOk (onTimeAt r k) (patternPeriodAt r k) = true := by
  have hlow : 20 ≤ onTimeAt r k := by unfold onTimeAt; omega
  have hhigh : onTimeAt r k ≤ 5000 := by unfold onTimeAt; omega
  have hten : onTimeAt r k % 10 = 0 := by unfold onTimeAt; omega
  simp only [timesOk, Bool.and_eq_true, decide_eq_true_eq]
  unfold patternPeriodAt
  split <;> omega

/-! ## The whole record -/

/-- Values of eight or four like fields, by their index. -/
theorem list_getElem? {α : Type} (f : Nat → Checked α) {m n : Nat} (h : n < m) :
    (Checked.list ((List.range m).map f)).value[n]? = some (f n).value := by
  simp [Checked.list, h]

theorem list_length {α : Type} (f : Nat → Checked α) (m : Nat) : (Checked.list ((List.range m).map f)).value.length = m := by
  simp [Checked.list]

theorem list_all {α : Type} {f : Nat → Checked α} {m : Nat} {p : α → Bool} (h : ∀ n, p (f n).value = true) :
    (Checked.list ((List.range m).map f)).value.all p = true := by
  simp [Checked.list, h]

/-- R171: every field of the corrected record lies in its range. -/
theorem readConfig_ok (role : Role) (h1 : 1 ≤ byteAt r 0) (h31 : byteAt r 0 ≤ 31) : (readConfig r role).value.ok = true := by
  have hzone (n : Nat) : zoneConfigOk (zoneAt r n).value = true := by
    simp only [zoneAt_value, zoneConfigOk, Bool.and_eq_true, decide_eq_true_eq]
    omega
  have houtput (served : AreaBlock) (k : Nat) : outputOk served (outputAt r served k).value = true := by
    simp only [outputAt_value, outputOk, Bool.and_eq_true, Bool.or_eq_true, decide_eq_true_eq, Bool.not_eq_true']
    refine ⟨by omega, ?_⟩
    cases served.contains (min 15 (byteAt r k)) <;> simp
  have hpattern (n : Nat) : patternOk (patternAt r n).value = true := by
    rw [patternAt_value]
    simp only [patternOk, pattern_timesOk, Bool.and_eq_true, decide_eq_true_eq, true_and]
    omega
  have hrequired : (requiredAt r).value.length ≤ 4 := by
    rw [requiredAt_value]
    refine le_trans (List.length_filter_le _ _) ?_
    simp
  have hevac : timesOk (timeField r 165 20 5000).value (periodAt r 167 (timeField r 165 20 5000).value).value = true := by
    rw [timeField_onTime, show (167 : Nat) = 165 + 2 from rfl, periodAt_value]
    exact pattern_timesOk r 165
  have hmode : (codeAt r 8 startModeOf .standby).value = .standby ∨ (codeAt r 8 startModeOf .standby).value = .inShow := by
    rw [codeAt_startMode]
    split <;> simp
  have hstations : (requiredAt r).value.all (fun n => decide (1 ≤ n) && decide (n ≤ 31)) = true := by
    rw [requiredAt_value, List.all_eq_true]
    intro n hn
    simpa using (List.mem_filter.1 hn).2
  have hperiod : 100 ≤ (timeField r 16 100 1000).value ∧ (timeField r 16 100 1000).value ≤ 1000
      ∧ (timeField r 16 100 1000).value % 10 = 0 := by
    simp only [timeField, checkField, downToTen, clampTo]
    omega
  simp only [ConfigRecord.ok, Bool.and_eq_true, decide_eq_true_eq, Bool.or_eq_true, beq_iff_eq]
  simp only [readConfig, list_length,
    list_all hzone, list_all (houtput _ <| 85 + 2 * ·), list_all (houtput _ <| 93 + 2 * ·), list_all hpattern, blockAt_ok, hevac,
    hmode, hrequired, hstations, hperiod, rangedByte, rangedWord, checkField]
  simp only [clampTo, and_true]
  omega

/-- Settles O8, from the equations of the single fields. -/
theorem correctedRecordLiesInItsRanges : Obligations.CorrectedRecordLiesInItsRanges := by
  intro r role h1 h31
  refine ⟨readConfig_ok r role h1 h31, rfl, rfl, blockAt_value r 2, blockAt_value r 4, fun n hn => ?_, codeAt_startMode r 8,
    rfl, requiredAt_value r, rfl, ?_, ?_, codeAt_syncMode r 19, rfl, fun n hn => ?_, fun n hn => ?_, fun n hn => ?_,
    fun n hn => ?_, timeField_onTime r 165, ?_, ?_, rfl, ?_, rfl, rfl, rfl, rfl⟩
  · rw [show (readConfig r role).value.publicAreas = BitVec.ofNat 16 (wordAt r 6) from rfl, BitVec.getLsbD_ofNat,
      decide_eq_true (by omega : n < 16), Bool.true_and]
  · exact downToTen_eq _
  · exact clampTo_zero 50 _
  · exact (list_getElem? (zoneAt r) (by omega)).trans (congrArg some (zoneAt_value r n))
  · exact (list_getElem? _ (by omega)).trans (congrArg some (outputAt_value r _ _))
  · exact (list_getElem? _ (by omega)).trans (congrArg some (outputAt_value r _ _))
  · exact (list_getElem? (patternAt r) (by omega)).trans (congrArg some (patternAt_value r n))
  · rw [show (readConfig r role).value.evacPeriod = (periodAt r (165 + 2) (timeField r 165 20 5000).value).value from rfl,
      timeField_onTime]
    exact periodAt_value r 165
  · exact clampTo_zero 7 _
  · exact clampTo_zero 2000 _

end Sys2Proof.Machine
end

section
/-! PROOFS. The laws of the device through every row (O56 to O59): the states before configuration, the completion of
configuration, the rows one by one, and the laws read back from the invariant. -/

namespace Sys2Proof.Machine

variable {s t : State} {u b : Bool} {A B : Prop}

/-! ## Before configuration -/

/-- The laws in CONFIG_READ and UNCONFIGURED. -/
structure Dormant (s : State) : Prop where
  asleep   : s.working = false
  fresh    : FreshLaw s
  rest     : RestLaw s
  transfer : TransferFits s.lights
  panel    : ReportsFit s.panel

/-- Outside LISTEN and ACTIVE the phase is one of the other two. -/
theorem asleep_iff : s.working = false ↔ s.phase = .configRead ∨ s.phase = .unconfigured := by
  cases h : s.phase <;> simp [State.working, h]

theorem Dormant.inactive (h : Dormant s) : s.phase ≠ .active := by
  rcases asleep_iff.1 h.asleep with hp | hp <;> simp [hp]

theorem Dormant.whileWorking (h : Dormant s) (f : State → State) : Dormant (whileWorking f s) := by
  rw [Machine.whileWorking, h.asleep]
  exact h

theorem Dormant.panelKeeps : PanelKeeps Dormant where
  reports h := h.panel
  setPanel h hp := { h with panel := hp }
  offer f h := by rw [offer_inactive _ f h.inactive]; exact h
  command _ _ _ _ hw h := by rw [h.asleep] at hw; cases hw
  master _ hw h := by rw [h.asleep] at hw; cases hw
  counters {s} h := by
    obtain ⟨hconfig, hmode, hcount, hline, hrest⟩ := h.fresh h.asleep
    have hsame : s.line.clearCounters = s.line := by rw [hline]; rfl
    rw [hsame]
    exact h
  received {s} h := by
    obtain ⟨-, -, -, -, -, -, -, hbeat, -⟩ := h.fresh h.asleep
    have hsame : { s.beat with received := 0 } = s.beat := by rw [hbeat]; rfl
    rw [hsame]
    exact h

theorem Dormant.dimmerTransferEnd (h : Dormant s) :
    Dormant (if s.resetHeld then s else s.setLights (endTransfer s.lights)) := by
  split
  · exact h
  · refine { h with fresh := fun hw => ?_, transfer := ?_ }
    · obtain ⟨hconfig, hmode, hcount, hline, hpeers, hcond, hfaults, hbeat, hzones, hcurtain, hlights, hcalls⟩ := h.fresh hw
      refine ⟨hconfig, hmode, hcount, hline, hpeers, hcond, hfaults, hbeat, hzones, hcurtain, ?_, hcalls⟩
      dsimp only [State.setLights]
      rw [hlights]
      unfold endTransfer
      split
      · rfl
      · split <;> rfl
    · obtain ⟨hpending, hcodes⟩ := h.transfer
      dsimp only [State.setLights]
      unfold endTransfer
      split
      · exact ⟨hpending, hcodes⟩
      · split
        · exact ⟨nofun, fun _ cs hcs => by cases hcs; rfl⟩
        · next hnot => exact ⟨fun hp => absurd hp hnot, nofun⟩

theorem Dormant.idle (h : Dormant s) : Dormant (idle s) := by
  obtain ⟨hconfig, hmode, hcount, hline, hpeers, hcond, hfaults, hbeat, hzones, hcurtain, hlights, hcalls⟩ := h.fresh h.asleep
  refine { h with fresh := fun _ => ⟨hconfig, hmode, hcount, hline, hpeers, hcond, hfaults, ?_, ?_, ?_, hlights, ?_⟩ }
  · show s.beat.tick = .reset
    rw [hbeat]; rfl
  · show s.zones.map _ = _
    rw [hzones]; rfl
  · show { s.curtain with stalledNow := false } = _
    rw [hcurtain]; rfl
  · show callTick s = _
    unfold callTick
    rw [hcalls]; rfl

theorem deviceReset_dormant (s : State) : Dormant (deviceReset s) where
  asleep := rfl
  fresh _ := ⟨rfl, rfl, rfl, rfl, rfl, rfl, rfl, rfl, rfl, rfl, rfl, rfl⟩
  rest := ⟨rfl, rfl⟩
  transfer := ⟨nofun, fun _ cs hcs => by cases hcs; rfl⟩
  panel := ⟨by simp [deviceReset, PanelState.reset], by simp [deviceReset, PanelState.reset], rfl,
    by simp [deviceReset, PanelState.reset]⟩

/-! ## The completion of configuration (R172) -/

/-- Fresh places, each loaded with its fields. -/
theorem zipWith_replicate_eq {α β γ : Type} (f : α → β → γ) (x : β) (as : List α) {n : Nat} (h : as.length = n) :
    List.zipWith f as (List.replicate n x) = as.map (fun a => f a x) := by
  subst h
  induction as with
  | nil => rfl
  | cons a as ih => simp [List.replicate_succ, ih]

/-- The zone records of a fresh configuration: enabled ones are QUIET too. -/
theorem zonesFit_load {zs : List ZoneConfig} (h : zs.length = 8) :
    ZonesFit (List.zipWith ZoneRecord.load zs (List.replicate 8 ZoneRecord.reset)) := by
  rw [zipWith_replicate_eq _ _ _ h]
  refine ⟨by simp [h], fun z hz => ?_⟩
  obtain ⟨c, -, rfl⟩ := List.mem_map.1 hz
  exact (zoneRecordOk_iff _).2 ⟨rfl, by simp [ZoneRecord.load, ZoneRecord.reset], by simp [ZoneRecord.load, ZoneRecord.reset],
    nofun, fun _ => ⟨rfl, rfl, rfl, rfl⟩⟩

/-- The lights of a fresh configuration stand at full level. -/
theorem lightsFit_load {os : List OutputConfig} (h : os.length = 8) {l : LightState}
    (hl : l = { LightState.reset with sending := l.sending, pendingTransfer := l.pendingTransfer }) (ht : TransferFits l) :
    LightsFit false { l with channels := List.zipWith Channel.load os l.channels } := by
  have hchannels : List.zipWith Channel.load os l.channels = os.map (fun o => Channel.load o .reset) := by
    rw [hl]
    exact zipWith_replicate_eq _ _ _ h
  have hcodes : (os.map (fun o => Channel.load o .reset)).map (fun c => c.code) = l.codes := by
    rw [hl]
    simp only [LightState.codes, LightState.reset, List.map_map, List.map_replicate]
    exact List.eq_replicate_iff.2 ⟨by simp [h], fun x hx => by obtain ⟨o, -, rfl⟩ := List.mem_map.1 hx; rfl⟩
  have hmaster : l.master = 1000 := by rw [hl]; rfl
  have hcues : l.cues = [] := by rw [hl]; rfl
  have hempty (o : OutputConfig) (k : Nat) : ¬(Channel.load o .reset).carries k := by
    simp [Channel.carries, Channel.load, Channel.reset, Channel.stagedKey, Channel.activeKey]
  obtain ⟨hpending, hsent⟩ := ht
  rw [hchannels]
  refine ⟨⟨?_, by rw [hmaster], ⟨hpending, fun hp cs hcs => (hsent hp cs hcs).trans hcodes.symm⟩, ?_⟩, ?_, ?_⟩
  · exact List.forall_mem_map.2 fun o _ =>
      ⟨by simp [Channel.load, Channel.reset], by simp [Channel.load, Channel.reset], fun _ => ⟨rfl, rfl, rfl, rfl⟩, nofun, nofun⟩
  · rw [hcues]
    refine ⟨by simp, List.forall_mem_map.2 fun o _ k hk => absurd hk (hempty o k), by simp, by simp, ?_⟩
    exact List.forall_mem_map.2 fun o _ d _ f g hf => by cases hf
  · exact List.forall_mem_map.2 fun o _ => by simp [Channel.running, Channel.load, Channel.reset]
  · refine List.forall_mem_map.2 fun o _ _ => ?_
    rw [hmaster]
    simp [Channel.load, Channel.reset, outputCode]

/-- R58: a fresh configuration gives QUIET. -/
theorem computedCondition_quiet (hz : ∀ z ∈ s.zones, z.state = .quiet) (hp : s.peers.table = []) (hf : s.faults = noFaults) :
    s.computedCondition = .quiet := by
  have hown : ∀ c ∈ s.ownContributions, c = .quiet := by
    intro c hc
    obtain ⟨z, hz', rfl⟩ := List.mem_map.1 hc
    rw [hz z (List.mem_of_mem_filter hz')]
    rfl
  have hall : ∀ cs : List Condition, (∀ c ∈ cs, c = .quiet) → highest cs = .quiet := by
    intro cs
    induction cs with
    | nil => intro _; rfl
    | cons c cs ih =>
      intro h
      rw [highest, List.foldr_cons, h c (by simp)]
      have := ih fun x hx => h x (by simp [hx])
      rw [highest] at this
      rw [this]
      rfl
  refine hall _ fun c hc => ?_
  simp only [State.peerContributions, State.peerZones, hp, hf, List.flatMap_nil, List.filter_nil, List.map_nil, List.append_nil,
    List.mem_append, List.mem_singleton] at hc
  rcases hc with hc | rfl
  · exact hown c hc
  · rfl

theorem reportClamps_grows (corrected : List Nat) (s : State) : PanelGrows s.panel (reportClamps corrected s).panel := by
  cases corrected with
  | nil => exact PanelGrows.refl _
  | cons k ks => exact report_grows _ _ _ (PanelGrows.refl _)

/-- What the report of the clamps leaves alone. -/
theorem reported_clamps (corrected : List Nat) (s : State) :
    reportClamps corrected s = { s with panel := (reportClamps corrected s).panel } := by
  cases corrected <;> rfl

theorem Dormant.completeConfiguration (h : Dormant s) (r : List Byte) (role : Role) (pins : CurtainPins)
    (hr : 1 ≤ byteAt r 0 ∧ byteAt r 0 ≤ 31) : Inv false A B true (completeConfiguration r role pins s) := by
  obtain ⟨-, -, -, hline, hpeers, hcond, hfaults, hbeat, hzones, hcurtain, hlights, -⟩ := h.fresh h.asleep
  have hok := readConfig_ok r role hr.1 hr.2
  unfold Machine.completeConfiguration
  dsimp only
  generalize hc : (readConfig r role).value = c at hok ⊢
  have hok' := hok
  simp only [ConfigRecord.ok, Bool.and_eq_true, decide_eq_true_eq] at hok'
  obtain ⟨hzonelen, hchanlen, hinterval, hperiod, hthreshold⟩ :
      c.zones.length = 8 ∧ c.channels.length = 8 ∧ 4 ≤ c.statusInterval ∧ 100 ≤ c.period ∧ 1 ≤ c.errorThreshold := by tauto
  generalize hs1 : loadBlocks c (min 255 (readConfig r role).corrected.length) (s.setPins pins) = s1
  unfold Machine.enterListen
  refine Inv.curtainStartUp ?_
  rw [reported_clamps]
  have hpanel := (ReportsFit.grows (by rw [← hs1]; exact h.panel) (reportClamps_grows (readConfig r role).corrected s1))
  generalize reportClamps (readConfig r role).corrected s1 = s2 at hpanel ⊢
  subst hs1
  have hquiet : ∀ z ∈ List.zipWith ZoneRecord.load c.zones s.zones, z.state = .quiet := by
    rw [hzones, zipWith_replicate_eq _ _ _ hzonelen]
    exact List.forall_mem_map.2 fun _ _ => rfl
  refine { working := rfl, config := ⟨c, rfl, hok⟩, underway := h.rest.1, held := ?held, line := ?line, peers := ?peers
           zones := ?zones, beat := ?beat, curtain := ?curtain, panel := hpanel.push _, calm := ?calm, lights := ?lights
           settled := fun _ => ?settled }
  case held => exact fun hp => by cases h.rest.2.symm.trans hp
  case line =>
    show LineFits (Phase.listen = .active) s.faults.lineDegraded { s.line with threshold := c.errorThreshold }
    rw [hline, hfaults]
    exact ⟨⟨by simp [LineState.reset], rfl, rfl⟩, fun _ => ⟨rfl, rfl, rfl⟩, nofun,
      ⟨by simp [LineState.reset], by simp [LineState.reset], by simp [LineState.reset], by simp [LineState.reset],
        by simp [LineState.reset], hthreshold⟩, fun hs => by dsimp only [LineState.reset] at hs; omega, fun _ => rfl⟩
  case peers =>
    show PeersFit c s.peers
    rw [hpeers]
    exact ⟨List.Pairwise.nil, by simp [PeerState.reset], by simp [PeerState.reset], by dsimp only [PeerState.reset]; omega⟩
  case zones =>
    show ZonesFit (List.zipWith ZoneRecord.load c.zones s.zones)
    rw [hzones]
    exact zonesFit_load hzonelen
  case beat =>
    show BeatFits { s.beat with period := c.period, window := c.window, sync := c.syncMode, running := true, position := 0, number := 0 }
    rw [hbeat]
    exact ⟨rfl, by dsimp only; omega, nofun, by simp [BeatState.reset], by simp [BeatState.reset], nofun, by simp [BeatState.reset]⟩
  case curtain =>
    show CurtainFits A B c s.curtain
    rw [hcurtain]
    exact ⟨rfl, rfl, nofun, rfl, rfl, nofun, nofun, nofun⟩
  case calm => exact fun _ => .inl hcond
  case lights =>
    show LightsFit (s.condition == .alarm) { s.lights with channels := List.zipWith Channel.load c.channels s.lights.channels }
    rw [hcond]
    exact lightsFit_load hchanlen hlights h.transfer
  case settled =>
    refine hcond.trans (Eq.symm ?_)
    exact computedCondition_quiet hquiet (by show s.peers.table = []; rw [hpeers]; rfl) hfaults

/-! ## Every row -/

/-- What a row leaves: a state of LISTEN or ACTIVE that keeps the invariant, or one before configuration. -/
def Kept (A B : Prop) (t : State) : Prop := Inv false A B true t ∨ Dormant t

theorem Dormant.endConfigRead (h : Dormant s) (read : ConfigRead) (pins : CurtainPins) :
    Kept A B (endConfigRead read pins s) := by
  unfold Machine.endConfigRead
  split
  · cases read with
    | noMemory => exact .inr { h with asleep := rfl, fresh := fun _ => h.fresh h.asleep, panel := h.panel.push _ }
    | bytes r =>
      have hfailed (reason : ConfigFailure) : Kept A B (enterUnconfigured reason s) :=
        .inr { h with asleep := rfl, fresh := fun _ => h.fresh h.asleep, panel := h.panel.push _ }
      unfold judgeRead
      dsimp only
      split
      · next hj =>
        split at hj
        · cases hj
        split at hj
        · cases hj
        split at hj
        · next hstation _ _ _ =>
          cases hj
          exact .inl (h.completeConfiguration r _ pins (by omega))
        · cases hj
      · exact hfailed _
  · exact .inr h

theorem Inv.endConfigRead (h : Inv false A B true s) (read : ConfigRead) (pins : CurtainPins) :
    Inv false A B true (endConfigRead read pins s) := by
  unfold Machine.endConfigRead
  split
  · next hp =>
    have := h.working
    simp [State.working, hp.1] at this
  · exact h

theorem Inv.whileWorking {f : State → State} (h : Inv u A B b s) (hf : Inv u A B b (f s)) : Inv u A B b (whileWorking f s) := by
  unfold Machine.whileWorking
  split <;> [exact hf; exact h]

/-! ### Rows that find no phase of theirs before configuration -/

theorem Dormant.line_reset (h : Dormant s) : s.line = .reset := by
  obtain ⟨-, -, -, hline, -⟩ := h.fresh h.asleep
  exact hline

theorem Dormant.aloneDue (h : Dormant s) : Dormant (aloneDue s) := by
  rw [Machine.aloneDue, if_neg fun hp => h.inactive hp.1]
  exact h

theorem Dormant.statusDue (h : Dormant s) : Dormant (statusDue s) := by
  rw [Machine.statusDue, if_neg h.inactive]
  exact h

theorem Dormant.endListen (h : Dormant s) : Dormant (endListen s) := by
  rw [Machine.endListen, if_neg fun hp => by rcases asleep_iff.1 h.asleep with hp' | hp' <;> rw [hp] at hp' <;> cases hp']
  exact h

theorem Dormant.beginFrame (h : Dormant s) : Dormant (beginFrame s) := by
  rw [Machine.beginFrame, if_neg fun hp => h.inactive hp.1]
  exact h

theorem Dormant.loseArbitration (h : Dormant s) : Dormant (loseArbitration s) := by
  rw [Machine.loseArbitration, h.line_reset]
  exact h

theorem Dormant.abandonFrame (h : Dormant s) : Dormant (abandonFrame s) := by
  rw [Machine.abandonFrame, h.line_reset]
  exact h

theorem Dormant.reflectFrame (h : Dormant s) : Dormant (reflectFrame s) := by
  rw [Machine.reflectFrame, h.line_reset]
  exact h

theorem Dormant.receive (h : Dormant s) (f : Frame) : Dormant (receive f s) := by
  rw [Machine.receive, h.asleep]
  exact h

theorem Dormant.receiveBytes (h : Dormant s) (bs : List Byte) (e : Bool) : Dormant (receiveBytes bs e s) := by
  rw [Machine.receiveBytes, h.asleep]
  exact h

/-- The rows of the panel processor. -/
def isPanelRow : Instr → Bool
  | .transferStart => true
  | .transferVoid => true
  | .none => true
  | .unknownRequest .. => true
  | .call .. => true
  | .cue .. => true
  | .curtainLower .. => true
  | .curtainDrop .. => true
  | .curtainStop .. => true
  | .curtainRaiseHold .. => true
  | .ack .. => true
  | .reset .. => true
  | .silence .. => true
  | .isolate .. => true
  | .restore .. => true
  | .setMode .. => true
  | .setMaster .. => true
  | .readZone .. => true
  | .readPeer .. => true
  | .readChannel .. => true
  | .readCurtain .. => true
  | .readCounters .. => true
  | .readQueue .. => true
  | .readBeat .. => true
  | _ => false

/-- What the panel rows keep, row by row. -/
theorem PanelKeeps.exec {P : State → Prop} (k : PanelKeeps P) (h : P s) {i : Instr} (hi : isPanelRow i = true) :
    ∃ t, exec i s = .next t ∧ P t := by
  cases i with
  | transferStart => exact ⟨_, rfl, k.beginTransfer h⟩
  | transferVoid => exact ⟨_, rfl, k.setLink h _⟩
  | none => exact ⟨_, rfl, k.completeTransfer h id⟩
  | unknownRequest => exact ⟨_, rfl, k.completeTransfer h (k.place · _)⟩
  | call => exact ⟨_, rfl, k.completeTransfer h (k.callRequest · _ _)⟩
  | cue => exact ⟨_, rfl, k.completeTransfer h (k.cueRequest · _ _)⟩
  | curtainLower => exact ⟨_, rfl, k.completeTransfer h (k.curtainRequest · _ _ _ _)⟩
  | curtainDrop => exact ⟨_, rfl, k.completeTransfer h (k.curtainRequest · _ _ _ _)⟩
  | curtainStop => exact ⟨_, rfl, k.completeTransfer h (k.curtainRequest · _ _ _ _)⟩
  | curtainRaiseHold => exact ⟨_, rfl, k.completeTransfer h (k.curtainRequest · _ _ _ _)⟩
  | ack => exact ⟨_, rfl, k.completeTransfer h (k.commandRequest · _ _ _ _ _ _)⟩
  | reset => exact ⟨_, rfl, k.completeTransfer h (k.commandRequest · _ _ _ _ _ _)⟩
  | silence => exact ⟨_, rfl, k.completeTransfer h (k.commandRequest · _ _ _ _ _ _)⟩
  | isolate => exact ⟨_, rfl, k.completeTransfer h (k.commandRequest · _ _ _ _ _ _)⟩
  | restore => exact ⟨_, rfl, k.completeTransfer h (k.commandRequest · _ _ _ _ _ _)⟩
  | setMode => exact ⟨_, rfl, k.completeTransfer h (k.commandRequest · _ _ _ _ _ _)⟩
  | setMaster => exact ⟨_, rfl, k.completeTransfer h (k.setMasterRequest · _ _)⟩
  | readZone => exact ⟨_, rfl, k.completeTransfer h (k.readZone · _ _)⟩
  | readPeer => exact ⟨_, rfl, k.completeTransfer h (k.readPeer · _ _)⟩
  | readChannel => exact ⟨_, rfl, k.completeTransfer h (k.readChannel · _ _)⟩
  | readCurtain => exact ⟨_, rfl, k.completeTransfer h (k.place · _)⟩
  | readCounters => exact ⟨_, rfl, k.completeTransfer h (k.readCounters · _ _)⟩
  | readQueue => exact ⟨_, rfl, k.completeTransfer h (k.readQueue · _ _)⟩
  | readBeat => exact ⟨_, rfl, k.completeTransfer h (k.readBeat · _ _)⟩
  | _ => cases hi

/-- Every other row in LISTEN and ACTIVE. -/
theorem Inv.exec (h : Inv false A B true s) (hA : s.curtain.state = some .warnRaise → A)
    (hB : s.curtain.state = some .warnLower → B) (i : Instr) : ∃ t, exec i s = .next t ∧ Kept A B t := by
  by_cases hi : isPanelRow i = true
  · obtain ⟨t, hstep, ht⟩ := Inv.panelKeeps.exec h hi
    exact ⟨t, hstep, .inl ht⟩
  cases i with
  | deviceReset => exact ⟨_, rfl, .inr (deviceReset_dormant s)⟩
  | resetRelease => exact ⟨_, rfl, .inl { h with }⟩
  | configReadDone read pins => exact ⟨_, rfl, .inl (h.endConfigRead read pins)⟩
  | sampleEvent inputs => exact ⟨_, rfl, .inl (h.whileWorking (h.sampleEvent inputs))⟩
  | t1Expiry n => exact ⟨_, rfl, .inl (h.whileWorking (h.expireFrom _ n))⟩
  | t2Expiry n => exact ⟨_, rfl, .inl (h.whileWorking (h.expireFrom _ n))⟩
  | beatExpiry => exact ⟨_, rfl, .inl (h.whileWorking h.beatDue)⟩
  | fadeStep => exact ⟨_, rfl, .inl (h.whileWorking h.fadeStepDue)⟩
  | fadeComplete n => exact ⟨_, rfl, .inl (h.whileWorking (h.completeFade n))⟩
  | dimmerTransferEnd => exact ⟨_, rfl, .inl h.dimmerTransferEnd⟩
  | peerLivenessChange n => exact ⟨_, rfl, .inl (h.whileWorking (h.ageToThreshold n))⟩
  | alone => exact ⟨_, rfl, .inl h.aloneDue⟩
  | statusInterval => exact ⟨_, rfl, .inl h.statusDue⟩
  | listenEnd => exact ⟨_, rfl, .inl h.endListen⟩
  | holdLapse => exact ⟨_, rfl, .inl (h.whileWorking h.holdDue)⟩
  | txStart => exact ⟨_, rfl, .inl h.beginFrame⟩
  | arbitrationLost => exact ⟨_, rfl, .inl h.loseArbitration⟩
  | bitError => exact ⟨_, rfl, .inl h.abandonFrame⟩
  | frameSent => exact ⟨_, rfl, .inl h.reflectFrame⟩
  | rxFrameError bytes violated => exact ⟨_, rfl, .inl (h.receiveBytes bytes violated)⟩
  | zoneFrame => exact ⟨_, rfl, .inl (h.receive _)⟩
  | statusFrame => exact ⟨_, rfl, .inl (h.receive _)⟩
  | beatFrame => exact ⟨_, rfl, .inl (h.receive _)⟩
  | commandAck => exact ⟨_, rfl, .inl (h.receive _)⟩
  | commandReset => exact ⟨_, rfl, .inl (h.receive _)⟩
  | commandSilence => exact ⟨_, rfl, .inl (h.receive _)⟩
  | commandIsolate => exact ⟨_, rfl, .inl (h.receive _)⟩
  | commandRestore => exact ⟨_, rfl, .inl (h.receive _)⟩
  | commandSetMode => exact ⟨_, rfl, .inl (h.receive _)⟩
  | curtainLowerFrame => exact ⟨_, rfl, .inl (h.receive _)⟩
  | curtainDropFrame => exact ⟨_, rfl, .inl (h.receive _)⟩
  | curtainStopFrame => exact ⟨_, rfl, .inl (h.receive _)⟩
  | curtainRaiseHoldFrame => exact ⟨_, rfl, .inl (h.receive _)⟩
  | curtainStateFrame => exact ⟨_, rfl, .inl (h.receive _)⟩
  | cueFrame => exact ⟨_, rfl, .inl (h.receive _)⟩
  | callFrame => exact ⟨_, rfl, .inl (h.receive _)⟩
  | cadencePhase => exact ⟨_, rfl, .inl (h.whileWorking h.cadencePhase)⟩
  | repetitionEnd => exact ⟨_, rfl, .inl (h.whileWorking (h.endRepetition hA hB))⟩
  | evacuationPhase => exact ⟨_, rfl, .inl (h.whileWorking h.evacuationPhase)⟩
  | encoderCount => exact ⟨_, rfl, .inl (h.whileWorking (h.encoderCount _))⟩
  | bottomLimit => exact ⟨_, rfl, .inl (h.whileWorking (h.bottomLimit _))⟩
  | topLimit => exact ⟨_, rfl, .inl (h.whileWorking (h.topLimit _))⟩
  | driveReadyLost => exact ⟨_, rfl, .inl (h.whileWorking (h.driveReadyChange _))⟩
  | startTimeout => exact ⟨_, rfl, .inl (h.whileWorking h.startDue)⟩
  | stopTimeout => exact ⟨_, rfl, .inl (h.whileWorking h.stopDue)⟩
  | descentStalled => exact ⟨_, rfl, .inl (h.whileWorking h.stallNow)⟩
  | _ => exact absurd rfl hi

/-- Every other row before configuration. -/
theorem Dormant.exec (h : Dormant s) (i : Instr) : ∃ t, exec i s = .next t ∧ Kept A B t := by
  by_cases hi : isPanelRow i = true
  · obtain ⟨t, hstep, ht⟩ := Dormant.panelKeeps.exec h hi
    exact ⟨t, hstep, .inr ht⟩
  cases i with
  | deviceReset => exact ⟨_, rfl, .inr (deviceReset_dormant s)⟩
  | resetRelease => exact ⟨_, rfl, .inr { h with }⟩
  | configReadDone read pins => exact ⟨_, rfl, h.endConfigRead read pins⟩
  | sampleEvent => exact ⟨_, rfl, .inr (h.whileWorking _)⟩
  | t1Expiry => exact ⟨_, rfl, .inr (h.whileWorking _)⟩
  | t2Expiry => exact ⟨_, rfl, .inr (h.whileWorking _)⟩
  | beatExpiry => exact ⟨_, rfl, .inr (h.whileWorking _)⟩
  | fadeStep => exact ⟨_, rfl, .inr (h.whileWorking _)⟩
  | fadeComplete => exact ⟨_, rfl, .inr (h.whileWorking _)⟩
  | dimmerTransferEnd => exact ⟨_, rfl, .inr h.dimmerTransferEnd⟩
  | peerLivenessChange => exact ⟨_, rfl, .inr (h.whileWorking _)⟩
  | alone => exact ⟨_, rfl, .inr h.aloneDue⟩
  | statusInterval => exact ⟨_, rfl, .inr h.statusDue⟩
  | listenEnd => exact ⟨_, rfl, .inr h.endListen⟩
  | holdLapse => exact ⟨_, rfl, .inr (h.whileWorking _)⟩
  | txStart => exact ⟨_, rfl, .inr h.beginFrame⟩
  | arbitrationLost => exact ⟨_, rfl, .inr h.loseArbitration⟩
  | bitError => exact ⟨_, rfl, .inr h.abandonFrame⟩
  | frameSent => exact ⟨_, rfl, .inr h.reflectFrame⟩
  | rxFrameError bytes violated => exact ⟨_, rfl, .inr (h.receiveBytes bytes violated)⟩
  | zoneFrame => exact ⟨_, rfl, .inr (h.receive _)⟩
  | statusFrame => exact ⟨_, rfl, .inr (h.receive _)⟩
  | beatFrame => exact ⟨_, rfl, .inr (h.receive _)⟩
  | commandAck => exact ⟨_, rfl, .inr (h.receive _)⟩
  | commandReset => exact ⟨_, rfl, .inr (h.receive _)⟩
  | commandSilence => exact ⟨_, rfl, .inr (h.receive _)⟩
  | commandIsolate => exact ⟨_, rfl, .inr (h.receive _)⟩
  | commandRestore => exact ⟨_, rfl, .inr (h.receive _)⟩
  | commandSetMode => exact ⟨_, rfl, .inr (h.receive _)⟩
  | curtainLowerFrame => exact ⟨_, rfl, .inr (h.receive _)⟩
  | curtainDropFrame => exact ⟨_, rfl, .inr (h.receive _)⟩
  | curtainStopFrame => exact ⟨_, rfl, .inr (h.receive _)⟩
  | curtainRaiseHoldFrame => exact ⟨_, rfl, .inr (h.receive _)⟩
  | curtainStateFrame => exact ⟨_, rfl, .inr (h.receive _)⟩
  | cueFrame => exact ⟨_, rfl, .inr (h.receive _)⟩
  | callFrame => exact ⟨_, rfl, .inr (h.receive _)⟩
  | cadencePhase => exact ⟨_, rfl, .inr (h.whileWorking _)⟩
  | repetitionEnd => exact ⟨_, rfl, .inr (h.whileWorking _)⟩
  | evacuationPhase => exact ⟨_, rfl, .inr (h.whileWorking _)⟩
  | encoderCount => exact ⟨_, rfl, .inr (h.whileWorking _)⟩
  | bottomLimit => exact ⟨_, rfl, .inr (h.whileWorking _)⟩
  | topLimit => exact ⟨_, rfl, .inr (h.whileWorking _)⟩
  | driveReadyLost => exact ⟨_, rfl, .inr (h.whileWorking _)⟩
  | startTimeout => exact ⟨_, rfl, .inr (h.whileWorking _)⟩
  | stopTimeout => exact ⟨_, rfl, .inr (h.whileWorking _)⟩
  | descentStalled => exact ⟨_, rfl, .inr (h.whileWorking _)⟩
  | _ => exact absurd rfl hi

/-! ## The laws and the invariant -/

/-- The curtain may be in RAISING after an event that found it there or in WARN_RAISE. -/
abbrev MayRaise (s : State) : Prop := s.curtain.state = some .raising ∨ s.curtain.state = some .warnRaise

/-- The curtain may be in LOWERING after an event that found it there or in WARN_LOWER. -/
abbrev MayLower (s : State) : Prop := s.curtain.state = some .lowering ∨ s.curtain.state = some .warnLower

theorem inv_of_laws (h : DeviceLaws s) (hw : s.working = true) : Inv false (MayRaise s) (MayLower s) true s := by
  obtain ⟨hconfig, -, hrest, hscore, htx, hsilent, hpeer, hlive, hcond, hout, hhold, hhand, hraise, hdesc, hstall, hlight, hcode,
    htransfer, hcue, -, -, -, -, hreport, hzone, hbeat⟩ := h
  obtain ⟨hcheck, hform, hbit, hgood, hscore', hthr, hhigh, hlow⟩ := hscore
  obtain ⟨hheld, hfits⟩ := hhold
  obtain ⟨hrise, hentries, hany, hsched⟩ := hpeer
  obtain ⟨hrun, hpos, hover, hstep, hcount, hlocked, hrec⟩ := hbeat
  simp only [Option.all_eq_true, List.all_eq_true, Bool.and_eq_true, Bool.or_eq_true, decide_eq_true_eq, beq_iff_eq, entryOk]
    at hfits hentries hlive
  refine { working := hw, config := ?config, underway := hrest.1, held := fun hp => ?held
           line := ⟨htx, hsilent.1, hsilent.2, ⟨hcheck, hform, hbit, hgood, hscore', hthr⟩, hhigh, hlow⟩
           peers := ⟨stationsRising_iff.1 hrise, fun e he => ?entry, hany, hsched⟩
           zones := ⟨hzone.1, by simpa using hzone.2⟩
           beat := ⟨by rw [hrun, hw], hpos, hover, hstep, hcount, hlocked, hrec⟩
           curtain := ⟨hout, hheld, fun x hx => ?hold, hhand, hdesc, hstall, .inl, .inl⟩
           panel := ⟨hreport.1, hreport.2.1, hreport.2.2.1, hreport.2.2.2⟩
           calm := hraise, lights := (lightLaws_iff s hw).1 ⟨hlight, hcode, htransfer, hcue⟩, settled := fun _ => hcond hw }
  case config =>
    obtain ⟨hsome, hok⟩ := hconfig
    rw [hw] at hsome
    obtain ⟨c, hc⟩ := Option.isSome_iff_exists.1 hsome
    exact ⟨c, hc, by simpa [hc] using hok⟩
  case held => cases hrest.2.symm.trans hp
  case entry =>
    obtain ⟨⟨⟨⟨h1, h31⟩, hne⟩, hheard⟩, hz⟩ := hentries e he
    exact ⟨⟨h1, h31, hne⟩, hheard, hz, hlive e he⟩
  case hold =>
    obtain ⟨⟨h1, hl⟩, hback⟩ := hfits x hx
    exact ⟨h1, hl, hback⟩

theorem dormant_of_laws (h : DeviceLaws s) (hw : s.working = false) : Dormant s := by
  obtain ⟨-, hfresh, hrest, -, -, -, -, -, -, -, -, -, -, -, -, -, -, htransfer, -, -, -, -, -, hreport, -⟩ := h
  exact ⟨hw, hfresh, hrest, (transferLaw_iff s).1 htransfer, ⟨hreport.1, hreport.2.1, hreport.2.2.1, hreport.2.2.2⟩⟩

theorem Inv.pending (h : Inv u A B b s) (q : List Instr) : Inv u A B b (s.setPending q) := { h with }

theorem Dormant.pending (h : Dormant s) (q : List Instr) : Dormant (s.setPending q) := { h with }

/-- Every step from a state that meets the laws keeps the invariant. -/
theorem step_kept (h : DeviceLaws s) (hstep : step s = .next t) : Kept (MayRaise s) (MayLower s) t := by
  have hrow {i : Instr} {s' : State} (hex : ∃ t', exec i s' = .next t' ∧ Kept (MayRaise s) (MayLower s) t')
      (ht : exec i s' = .next t) : Kept (MayRaise s) (MayLower s) t := by
    obtain ⟨t', ht', hkept⟩ := hex
    rw [ht'] at ht
    cases ht
    exact hkept
  unfold step at hstep
  cases hw : s.working with
  | true =>
    have hinv := inv_of_laws h hw
    split at hstep
    · cases hstep
      exact .inl hinv.idle
    · next c rest _ => exact hrow ((hinv.pending rest).exec .inr .inr c) hstep
  | false =>
    have hdormant := dormant_of_laws h hw
    split at hstep
    · cases hstep
      exact .inr hdormant.idle
    · next c rest _ => exact hrow ((hdormant.pending rest).exec c) hstep

theorem Kept.panel (h : Kept A B t) : ReportsFit t.panel := h.elim (fun h => h.panel) (fun h => h.panel)

/-- Settles O56, by the invariant of every row. -/
theorem stepKeepsLineAndRecords : Obligations.StepKeepsLineAndRecords := by
  intro s t h hstep
  rcases step_kept h hstep with hinv | hdormant
  · obtain ⟨c, hc, hok⟩ := hinv.config
    have hl := hinv.line
    have hp := hinv.peers
    have hb := hinv.beat
    refine ⟨⟨by simp [hc, hinv.working], by simp [hc, hok]⟩, fun hw : t.working = false => (by rw [hinv.working] at hw; cases hw),
      ⟨hinv.underway, ?rest⟩, ?score, hl.tx, ⟨hl.silent, hl.held⟩, ⟨stationsRising_iff.2 hp.rising, ?entries, hp.anyPeer,
      hp.schedule⟩, ?liveness, ⟨hinv.zones.1, by simpa using hinv.zones.2⟩,
      ⟨hb.running.trans hinv.working.symm, hb.position, hb.overtaken, hb.stepIndex, hb.run, hb.locked, hb.received⟩,
      hinv.panel.length, hinv.panel.lost, hinv.panel.attention, hinv.panel.full⟩
    case rest =>
      cases hheld : t.placementHeld
      · rfl
      · cases hinv.held hheld
    case score =>
      obtain ⟨hcheck, hform, hbit, hgood, hscore, hthr⟩ := hl.counts
      exact ⟨hcheck, hform, hbit, hgood, hscore, hthr, hl.high, hl.low⟩
    case entries =>
      simp only [List.all_eq_true, entryOk, Bool.and_eq_true, decide_eq_true_eq]
      intro e he
      obtain ⟨⟨h1, h31, hne⟩, hheard, hz, -⟩ := hp.entries e he
      exact ⟨⟨⟨⟨h1, h31⟩, hne⟩, hheard⟩, hz⟩
    case liveness =>
      simp only [LivenessLaw, List.all_eq_true, decide_eq_true_eq]
      exact fun e he => (hp.entries e he).liveness
  · obtain ⟨hconfig, hmode, hcount, hline, hpeers, hcond, hfaults, hbeat, hzones, hcurtain, hlights, hcalls⟩ :=
      hdormant.fresh hdormant.asleep
    refine ⟨by simp [ConfigLaw, hconfig, hdormant.asleep], hdormant.fresh, hdormant.rest, ?_, ?_, ?_, ?_, ?_, ?_, ?_,
      hdormant.panel.length, hdormant.panel.lost, hdormant.panel.attention, hdormant.panel.full⟩
    · simp [ScoreLaw, hline, hfaults, LineState.reset, noFaults]
    · simp [TxLaw, hline, LineState.reset, oneOfEachSort, inClassOrder]
    · simp [SilentLaw, hline, LineState.reset]
    · simp [PeerLaw, hpeers, PeerState.reset, stationsRising, State.cfg, hconfig, ConfigRecord.recommended]
    · simp [LivenessLaw, hpeers, PeerState.reset]
    · rw [ZoneLaw, hzones]; decide
    · rw [BeatLaw, hbeat, hdormant.asleep]; decide

/-- Settles O57: a row that changes an input of the condition ends with a recomputation. -/
theorem stepKeepsTheCondition : Obligations.StepKeepsTheCondition := by
  intro s t h hstep hw
  rcases step_kept h hstep with hinv | hdormant
  · exact hinv.settled rfl
  · rw [hdormant.asleep] at hw; cases hw

/-- R94: of the outputs of a curtain state at most one drive is on, and with it the brake. -/
theorem outputs_exclusive (x : Option CurtainState) :
    ¬(((x.map outputsOf).getD .released).raise = true ∧ ((x.map outputsOf).getD .released).lower = true)
      ∧ (((x.map outputsOf).getD .released).raise = true ∨ ((x.map outputsOf).getD .released).lower = true →
          ((x.map outputsOf).getD .released).brake = true) := by
  cases x with
  | none => decide
  | some st => cases st <;> decide

/-- Settles O58: the record follows its state through every row, and the two raising rules are those of the warning. -/
theorem stepKeepsTheCurtain : Obligations.StepKeepsTheCurtain := by
  intro s t h hstep
  rcases step_kept h hstep with hinv | hdormant
  · obtain ⟨hout, hhold, hfits, hhand, hdesc, hstall, hraising, hlowering⟩ := hinv.curtain
    have hexclusive := outputs_exclusive t.curtain.state
    rw [← hout] at hexclusive
    refine ⟨hout, ⟨hhold, ?_⟩, hhand, hinv.calm, hdesc, hstall, hexclusive.1, hexclusive.2, hraising, hlowering⟩
    simp only [Option.all_eq_true, Bool.and_eq_true, Bool.or_eq_true, decide_eq_true_eq, beq_iff_eq]
    intro x hx
    obtain ⟨h1, hl, hback⟩ := hfits x hx
    exact ⟨⟨h1, hl⟩, hback⟩
  · obtain ⟨-, -, -, -, -, -, -, -, -, hcurtain, -⟩ := hdormant.fresh hdormant.asleep
    simp only [OutputsLaw, HoldLaw, HandshakeLaw, RaiseLaw, DescentLaw, StallLaw, hcurtain]
    refine ⟨rfl, ⟨rfl, rfl⟩, rfl, nofun, rfl, nofun, by decide, by decide, nofun, nofun⟩

/-- Settles O59: the Light Fader keeps its laws through every row, its codes by the refresh that ends each operation. -/
theorem stepKeepsTheLights : Obligations.StepKeepsTheLights := by
  intro s t h hstep
  rcases step_kept h hstep with hinv | hdormant
  · exact (lightLaws_iff t hinv.working).2 hinv.lights
  · obtain ⟨-, -, -, -, -, -, -, -, -, -, hlights, -⟩ := hdormant.fresh hdormant.asleep
    have hasleep (hw : t.working = true) : False := by rw [hdormant.asleep] at hw; cases hw
    have hchannels : t.lights.channels = List.replicate 8 Channel.reset := by rw [hlights]; rfl
    have hcues : t.lights.cues = [] := by rw [hlights]; rfl
    have hmaster : t.lights.master = 1000 := by rw [hlights]; rfl
    refine ⟨⟨?_, hmaster.le, fun hw => (hasleep hw).elim⟩, fun hw => (hasleep hw).elim,
      (transferLaw_iff t).2 hdormant.transfer, ?_⟩
    · rw [hchannels]; decide
    · rw [CueLaw, hcues, hchannels]
      exact ⟨rfl, rfl, rfl, List.nodup_nil, rfl⟩

end Sys2Proof.Machine
end

section
/-! PROOFS. The step, the reset, the end of the configuration read and the panel's transfers. -/

namespace Sys2Proof.Machine

/-- Settles O1: the two equations of the step. -/
theorem frontCommandIsRun : Obligations.FrontCommandIsRun := by
  intro c rest s h
  rw [step, h]
  rfl

/-- R62: a millisecond at the beat timer. -/
theorem tick_eq (b : BeatState) : b.tick = { b with
    position := if b.running = true ∧ b.position + 1 < b.period then b.position + 1 else b.position
    overtaken := if b.running = true ∧ b.position + 1 < b.period then false else b.overtaken } := by
  unfold BeatState.tick
  split <;> rfl

/-- Settles O2: each clock advances where its due moment is not reached. -/
theorem emptyQueuePassesOneMillisecond : Obligations.EmptyQueuePassesOneMillisecond := by
  intro s h
  refine ⟨idle s, by rw [step, h], tick_eq s.beat, fun k x hk hx => ?_, fun x hx => ?_, fun hnone => ?_, fun hnone => ?_, rfl⟩
  · show (callTick s).position = _
    unfold callTick
    simp only [hk, hx]
    split <;> rfl
  · show (callTick s).evacPos = _
    unfold callTick
    simp only [hx, Option.map_some]
    rw [show evacLength s.cfg x.on = if x.on then s.cfg.evacOn else s.cfg.evacPeriod - s.cfg.evacOn from rfl]
    generalize (if x.on then s.cfg.evacOn else s.cfg.evacPeriod - s.cfg.evacOn) = due
    split <;> rfl
  · show (callTick s).position = none
    unfold callTick
    simp [hnone]
  · show (callTick s).evacPos = none
    unfold callTick
    simp [hnone]

/-- Settles O3 by evaluation: the reset values are a closed state. -/
theorem resetValuesOfEveryBlock : Obligations.ResetValuesOfEveryBlock := by
  have hzones : ∀ n, n ≤ 7 → State.reset.zones[n]? = some ZoneRecord.reset := by decide
  have hchannels : ∀ n, n ≤ 7 → State.reset.lights.channels[n]? = some Channel.reset := by decide
  exact ⟨rfl, rfl, rfl, rfl, rfl, rfl, rfl, rfl, by intro f; cases f <;> rfl, rfl, hzones, rfl, rfl, hchannels, rfl, rfl, rfl, rfl,
    rfl, rfl, rfl, rfl, rfl, rfl, rfl, rfl, rfl, rfl, rfl, rfl, rfl, rfl, rfl⟩

/-- Settles O4: the reset is the reset state with what lies outside kept. -/
theorem deviceResetAndRelease : Obligations.DeviceResetAndRelease :=
  fun s => ⟨⟨deviceReset s, rfl, rfl, rfl, rfl, rfl, rfl⟩, rfl⟩

/-- R170: what the end of a read that failed leaves. -/
theorem endConfigRead_failed {s : State} {read : ConfigRead} {reason : ConfigFailure} (pins : CurtainPins)
    (hp : s.phase = .configRead) (hr : s.resetHeld = false) (h : judgeRead read = .failed reason) :
    endConfigRead read pins s = enterUnconfigured reason s := by
  rw [endConfigRead, if_pos ⟨hp, hr⟩, h]

/-- R180: the role codes. -/
theorem roleOfCode_none {n : Nat} (h : 4 < n) : Role.ofCode n = none := by
  match n, h with
  | n + 5, _ => rfl

/-- Settles O5: each finding is the first that applies. -/
theorem unusableReadLeavesUnconfigured : Obligations.UnusableReadLeavesUnconfigured := by
  intro s r pins hp hr
  have hfailed {read : ConfigRead} {reason : ConfigFailure} (h : judgeRead read = .failed reason) :
      exec (.configReadDone read pins) s = .next (enterUnconfigured reason s) :=
    congrArg Host.Outcome.next (endConfigRead_failed pins hp hr h)
  exact ⟨hfailed rfl, fun hc => hfailed (judgeRead_check r hc), fun hc hst => hfailed (judgeRead_station r hc hst),
    fun hc h1 h31 hrole => hfailed (judgeRead_role r hc (by omega) (roleOfCode_none hrole))⟩

/-- Settles O55 by evaluation of the laws at the reset state. -/
theorem lawsHoldAtReset : Obligations.LawsHoldAtReset := by
  unfold Obligations.LawsHoldAtReset
  repeat' apply And.intro
  all_goals decide

/-- R94: the table of outputs. -/
theorem outputsOf_iff (x : CurtainState) : ((outputsOf x).brake = false ↔ x = .dropping)
    ∧ ((outputsOf x).raise = true ↔ x = .raising) ∧ ((outputsOf x).lower = true ↔ x = .lowering) := by
  cases x <;> decide

/-- Settles O33: the record after a change, by the new state and by what the old one was. -/
theorem curtainRecordAfterEachChange : Obligations.CurtainRecordAfterEachChange := by
  intro c new
  obtain ⟨hbrake, hraise, hlower⟩ := outputsOf_iff new
  refine ⟨rfl, rfl, rfl, rfl, rfl, hbrake, hraise, hlower, ?_, ?_, ?_, ?_, ?_, ?_, ?_,
    ?_, ?_, ?_⟩
  · rintro (rfl | rfl) <;> rfl
  · rintro (rfl | rfl) <;> rfl
  · intro hd hn
    have hdriven : isDriven c.state = true := isDriven_iff.2 hd
    rcases hn with rfl | rfl | rfl | rfl <;> simp [curtainRecordAfter, handshakeAfter, hdriven]
  · intro hr hl hn
    have hdriven : isDriven c.state = false := by simp [isDriven, hr, hl]
    rcases hn with rfl | rfl | rfl | rfl | rfl <;> simp [curtainRecordAfter, handshakeAfter, hdriven]
  · intro hraise hw hr
    have hold : isRaise c.state = true := isRaise_iff.2 hraise
    have hnew : isRaise (some new) = false := by simp [isRaise, hw, hr]
    simp [curtainRecordAfter, hold, hnew]
  · intro hw hr
    simp [curtainRecordAfter, isRaise, hw, hr]
  · rintro (rfl | rfl) <;> simp [curtainRecordAfter, isRaise]
  · intro hl hd
    simp [curtainRecordAfter, descentAfter, isDescent, hl, hd]
  · intro hn hd
    have hdescent : isDescent c.state = true := isDescent_iff.2 hd
    have hnew : isDescent (some new) = true := by rcases hn with rfl | rfl <;> rfl
    simp [curtainRecordAfter, descentAfter, hnew, hdescent]
  · intro hn hl hd
    have hnew : isDescent (some new) = true := by rcases hn with rfl | rfl <;> rfl
    have hdescent : isDescent c.state = false := by simp [isDescent, hl, hd]
    simp [curtainRecordAfter, descentAfter, hnew, hdescent, openDescent]

/-! ## Configuration completes (R172) -/

/-- The panel at the completion of configuration: the report of the clamps, and that of LISTEN. -/
def listenPanel (c : Checked ConfigRecord) (s : State) : PanelState :=
  (match c.corrected with
    | [] => s.panel
    | first :: _ => s.panel.push ⟨s.beat.number, .configClamped (min 255 c.corrected.length) first⟩).push
      ⟨s.beat.number, .phaseListen c.value.station c.value.role c.value.startMode⟩

/-- The state in which configuration leaves a station, the curtain's first state apart. -/
def listening (c : Checked ConfigRecord) (pins : CurtainPins) (s : State) : State :=
  { s with
    phase := .listen, mode := c.value.startMode, config := some c.value, listenCount := 0
    clampCount := min 255 c.corrected.length
    line := { s.line with threshold := c.value.errorThreshold }
    beat := { s.beat with number := 0, position := 0, running := true, sync := c.value.syncMode, period := c.value.period
                          window := c.value.window }
    zones := List.zipWith ZoneRecord.load c.value.zones s.zones
    pins := pins
    lights := { s.lights with channels := List.zipWith Channel.load c.value.channels s.lights.channels }
    calls := { s.calls with sounders := c.value.sounders }
    panel := listenPanel c s }

theorem completeConfiguration_eq (s : State) (r : List Byte) (role : Role) (pins : CurtainPins) :
    completeConfiguration r role pins s = curtainStartUp (listening (readConfig r role) pins s) := by
  unfold completeConfiguration enterListen listening listenPanel
  generalize readConfig r role = c
  obtain ⟨value, corrected⟩ := c
  cases corrected <;> rfl

/-- R172: without a curtain the completion of configuration ends there. -/
theorem curtainStartUp_listening {c : Checked ConfigRecord} (h : c.value.role ≠ .curtain) (pins : CurtainPins) (s : State) :
    curtainStartUp (listening c pins s) = listening c pins s := if_neg h

/-- Settles O6: without a curtain the completion of configuration ends there. -/
theorem usableReadEntersListen : Obligations.UsableReadEntersListen := by
  intro s r role pins hp hr hc h1 h31 hrole hne
  have hread : exec (.configReadDone (.bytes r) pins) s = .next (listening (readConfig r role) pins s) := by
    rw [exec_configReadDone, endConfigRead_usable r role pins s hp hr (judgeRead_usable r role hc (by omega) hrole),
      completeConfiguration_eq, curtainStartUp_listening (by rw [readConfig_role]; exact hne)]
  rw [hread]
  generalize readConfig r role = c
  rfl

end Sys2Proof.Machine
end

section
/-! PROOFS. The panel: transfers, request bytes and the READ requests; and the end of LISTEN. -/

namespace Sys2Proof.Machine

variable {s : State}

/-! ## Records and request bytes (R162, R163, R180) -/

theorem padRecord_length (bs : List Byte) : (padRecord bs).length = 64 := by
  simp [padRecord, recordLength]

theorem answer_length (a : Answer) : a.bytes.length = 64 := by
  cases a <;> exact padRecord_length _

theorem byteAt_isByte (r : List Byte) (k : Nat) : isByte (byteAt r k) = true := by
  have : (r.getD k 0).toNat < 256 := (r.getD k 0).isLt
  exact decide_eq_true (show (r.getD k 0).toNat ≤ 255 by omega)

theorem wordAt_isWord (r : List Byte) (k : Nat) : isWord (wordAt r k) = true := by
  have hhi : (r.getD k 0).toNat < 256 := (r.getD k 0).isLt
  have hlo : (r.getD (k + 1) 0).toNat < 256 := (r.getD (k + 1) 0).isLt
  exact decide_eq_true (show (r.getD k 0).toNat * 256 + (r.getD (k + 1) 0).toNat ≤ 65535 by omega)

/-- R180: a kind above 20 has no request. -/
theorem readRequest_unknown {keysw moving : Bool} {r : List Byte} (h : 21 ≤ byteAt r 0) :
    readRequest keysw moving r = .unknownRequest (byteAt r 0) (byteAt r 1) := by
  obtain ⟨k, hk⟩ : ∃ k, byteAt r 0 = k + 21 := ⟨_, (Nat.sub_add_cancel h).symm⟩
  rw [readRequest, hk]
  rfl

/-- R180: of any 64 bytes a well-formed request is read. -/
theorem readRequest_wellFormed (keysw moving : Bool) (r : List Byte) : (readRequest keysw moving r).wellFormed = true := by
  have hcall : (readCallArgs r).wellFormed = true := by
    simp [readCallArgs, CallArgs.wellFormed, byteAt_isByte, wordAt_isWord]
  have hcue : (readCueArgs r).wellFormed = true := by
    simp [readCueArgs, CueArgs.wellFormed, byteAt_isByte, wordAt_isWord]
  have hbyte := byteAt_isByte r
  rcases Nat.lt_or_ge (byteAt r 0) 21 with hknown | hunknown
  · interval_cases hk : byteAt r 0 <;> simp [readRequest, hk, Instr.wellFormed, hcall, hcue, hbyte, wordAt_isWord]
  · rw [readRequest_unknown hunknown]
    simp [Instr.wellFormed, hunknown, hbyte]

theorem wordAt_eq (r : List Byte) (k : Nat) : wordAt r k = 256 * byteAt r k + byteAt r (k + 1) := by
  rw [wordAt, unword, Nat.mul_comm]
  rfl

/-- R163: a transfer that begins with RESET released carries the record that is found. -/
theorem beginTransfer_idle (hl : s.panel.link = .idle) (hr : s.resetHeld = false) :
    beginTransfer s = setLink (.sending s.panel.source s.panel.outgoing) s := by
  rw [beginTransfer, hl]
  simp [hr]

/-- Settles O50: the link and the source of the record decide every row of a transfer, and the kind byte every request. -/
theorem transferSendsOneRecord : Obligations.TransferSendsOneRecord := by
  intro s
  refine ⟨fun hr hl => ?start, fun hr hl => ?cut, fun hl => ?open', fun a r => ⟨answer_length a, padRecord_length _⟩,
    fun source bs k hl => ⟨fun b hb => ?sent, fun hk => ?after⟩, fun hl k => by rw [hl]; rfl, rfl, fun hl => ?void,
    fun bs hl => ?holder, fun bs hl => ?empty, fun bs r rest hl hrep => ⟨fun hfew => ?pop, fun hmany hlost => ?lost⟩,
    fun keysw moving clocked => ⟨fun h => if_pos h, fun h => if_neg (by rw [recordLength]; omega)⟩, fun keysw moving r => ?request⟩
  case start =>
    rw [exec_transferStart, beginTransfer_idle hl hr]
    refine congrArg (fun l => Host.Outcome.next (setLink l s)) ?_
    unfold PanelState.source PanelState.outgoing
    cases s.panel.holder <;> cases s.panel.reports <;> rfl
  case cut =>
    have hvoid : beginTransfer s = setLink .void s := by
      rw [beginTransfer, hl]
      simp [hr]
    exact congrArg Host.Outcome.next hvoid
  case open' =>
    rw [exec_transferStart, beginTransfer]
    split
    · next hidle => exact absurd hidle hl
    · rfl
    · rfl
  case sent => rw [hl, Link.psdo, List.getD_eq_getElem?_getD, hb]; rfl
  case after => rw [hl, Link.psdo, List.getD_eq_getElem?_getD, List.getElem?_eq_none hk]; rfl
  case void => rw [exec_none, completeTransfer, hl]; rfl
  case holder => rw [exec_none, completeTransfer, hl]; rfl
  case empty => rw [exec_none, completeTransfer, hl]; rfl
  case pop =>
    have hnot : ¬(32 ≤ s.panel.reports.length ∧ 0 < s.panel.lost) := by
      rw [hrep, List.length_cons]
      omega
    rw [exec_none, completeTransfer, hl]
    simp only [id, removeSent, setLink, setPanel_panel, PanelState.popReport, hrep]
    rw [hrep] at hnot
    rw [if_neg hnot]
    rfl
  case lost =>
    have hfull : 32 ≤ s.panel.reports.length ∧ 0 < s.panel.lost := by
      rw [hrep, List.length_cons]
      omega
    rw [exec_none, completeTransfer, hl]
    simp only [id, removeSent, setLink, setPanel_panel, PanelState.popReport, hrep]
    rw [hrep] at hfull
    rw [if_pos hfull]
    rfl
  case request =>
    intro b read
    have hread {k : Nat} {i : Instr} (h : b 0 = k) (hi : byteAt r 0 = k → readRequest keysw moving r = i) : read = i := hi h
    refine ⟨readRequest_wellFormed keysw moving r, ?_, ?_, ?_, ?_, ?_, ?_, ?_, ?_, ?_, ?_, ?_, ?_, ?_, ?_, ?_, ?_, ?_, ?_, ?_, ?_, ?_,
      fun h => readRequest_unknown h⟩
    case _ => exact fun h => hread h fun hk => by rw [readRequest, hk]; rfl
    case _ =>
      refine fun h => hread h fun hk => ?_
      rw [readRequest, hk]
      simp only [readCallArgs, wordAt_eq]
      rfl
    case _ =>
      refine fun h => hread h fun hk => ?_
      rw [readRequest, hk]
      simp only [readCueArgs, wordAt_eq]
      rfl
    all_goals exact fun h => hread h fun hk => by simp only [readRequest, hk, wordAt_eq]; rfl

end Sys2Proof.Machine
end

section
/-! PROOFS. The READ requests and the end of LISTEN. -/

namespace Sys2Proof.Machine

variable {s : State}

/-! ## A request at a free panel (R162) -/

theorem completeTransfer_free (h : PanelFree s) (request : State → State) :
    completeTransfer request s = request (recordSent s) := by
  obtain ⟨hvoid, hheld⟩ := h
  unfold completeTransfer recordSent
  split
  · next hl => exact absurd hl hvoid
  · next hl => rw [hl]
  · next hl => rw [hl, hheld]; rfl

theorem removeSent_panel (source : RecordSource) (s : State) :
    removeSent source s = { s with panel := (removeSent source s).panel } := by
  cases source <;> rfl

/-- What the end of a transfer leaves alone: everything beside the panel. -/
theorem recordSent_eq (s : State) : recordSent s = { s with panel := (recordSent s).panel } := by
  unfold recordSent
  split
  · exact removeSent_panel _ _
  · exact removeSent_panel _ _

theorem findCue_staged (c : Channel) (cues : List CueEntry) :
    findCue c.stagedKey cues = c.staged.bind (fun f => cues.find? (fun e => e.key == f.cue)) := by
  cases h : c.staged <;> simp [findCue, Channel.stagedKey, h]

theorem findCue_active (c : Channel) (cues : List CueEntry) :
    findCue c.activeKey cues = c.active.bind (fun f => cues.find? (fun e => e.key == f.cue)) := by
  cases h : c.active <;> simp [findCue, Channel.activeKey, h]

/-- R143: what READ_CHANNEL shows, spelt out. -/
theorem channelResult_eq (c : Channel) (s : State) : channelResult c s =
    { channel := c
      stagedCue := c.staged.bind (fun f => s.lights.cues.find? (fun e => e.key == f.cue))
      activeCue := c.active.bind (fun f => s.lights.cues.find? (fun e => e.key == f.cue))
      master := s.lights.master, floor := s.condition == .alarm, entries := s.lights.cues.length } := by
  rw [channelResult, findCue_staged, findCue_active]

/-- Settles O51: each answer is read from the state that the record sent leaves, which differs from s in its panel alone. -/
theorem readsAnswerWithACopy : Obligations.ReadsAnswerWithACopy := by
  intro s tag n moving hfree before answered
  have hrow {i : Instr} {request : State → State} {t : State} (hi : exec i s = .next (completeTransfer request s))
      (ht : request before = t) : exec i s = .next t := by
    rw [hi, completeTransfer_free hfree]
    exact congrArg Host.Outcome.next ht
  have hzones : before.zones = s.zones := by rw [show before = _ from recordSent_eq s]
  have hpeers : before.peers = s.peers := by rw [show before = _ from recordSent_eq s]
  have hlights : before.lights = s.lights := by rw [show before = _ from recordSent_eq s]
  have hcond : before.condition = s.condition := by rw [show before = _ from recordSent_eq s]
  have hcurtain : before.curtain = s.curtain := by rw [show before = _ from recordSent_eq s]
  have hpins : before.pins = s.pins := by rw [show before = _ from recordSent_eq s]
  have hfaults : before.faults = s.faults := by rw [show before = _ from recordSent_eq s]
  have hline : before.line = s.line := by rw [show before = _ from recordSent_eq s]
  have hcalls : before.calls = s.calls := by rw [show before = _ from recordSent_eq s]
  have hbeat : before.beat = s.beat := by rw [show before = _ from recordSent_eq s]
  have hsounders : sounderLevel before = sounderLevel s := by rw [show before = _ from recordSent_eq s]; rfl
  refine ⟨fun z hn hz => hrow (exec_readZone s tag n) ?_, fun hn => ⟨hrow (exec_readZone s tag n) ?_,
      hrow (exec_readChannel s tag n) ?_⟩, fun h1 h31 => hrow (exec_readPeer s tag n) ?_,
    fun hn => hrow (exec_readPeer s tag n) ?_, fun c hn hc => hrow (exec_readChannel s tag n) ?_,
    fun hc => hrow (exec_readCurtain s tag moving) ?_, fun hc => hrow (exec_readCurtain s tag moving) ?_,
    ⟨_, rfl, hrow (exec_readCounters s tag 0) ?_, fun hn => hrow (exec_readCounters s tag n) ?_⟩,
    fun hn => ⟨queueResult n before, hrow (exec_readQueue s tag n) ?_, ?_⟩, fun hn => hrow (exec_readQueue s tag n) ?_,
    hrow (exec_readBeat s tag 0) ?_, fun hn => hrow (exec_readBeat s tag n) ?_, fun hn => hrow (exec_unknownRequest s n tag) rfl⟩
  · rw [readZone, if_pos hn, hzones, List.getD_eq_getElem?_getD, hz]; rfl
  · rw [readZone, if_neg (by omega)]; rfl
  · rw [readChannel, if_neg (by omega)]; rfl
  · rw [readPeer, if_pos ⟨h1, h31⟩, hpeers]; rfl
  · rw [readPeer, if_neg (by omega)]; rfl
  · rw [readChannel, if_pos hn, channelResult_eq, hlights, hcond, List.getD_eq_getElem?_getD, hc]; rfl
  · rw [readCurtainRequest, curtainResult, hcurtain, if_pos hc, hpins, hfaults]; rfl
  · rw [readCurtainRequest, curtainResult, hcurtain, hc]; rfl
  · rw [readCounters, countersResult, hline, hfaults]; rfl
  · rw [readCounters, countersResult, hline, hfaults, if_neg hn]; rfl
  · rw [readQueue, if_pos hn]; rfl
  · simp only [queueResult, hcalls, hsounders, and_self]
  · rw [readQueue, if_neg (by omega)]; rfl
  · rw [readBeat, hbeat]; rfl
  · rw [readBeat, hbeat, if_neg hn]; rfl

/-! ## The end of LISTEN (R174, R176) -/

/-- R57: no required station is missing. -/
theorem requiredMissing_eq_false (h : ∀ n ∈ s.cfg.required, n = s.cfg.station ∨ satisfied s.peers.table n = true) :
    requiredMissing s = false := by
  rw [requiredMissing, List.any_eq_false]
  intro n hn
  rcases h n hn with rfl | hs
  · simp
  · simp [hs]

/-- R55: a fault that stands as it is judged changes nothing. -/
theorem putPeerFault_same {x : StationFault} {v : Bool} (h : s.faults.get x = v) : putPeerFault x v s = s := if_pos h

/-- R57: a judgement that finds the fault as it stands changes nothing. -/
theorem judgeRequired_same (h : s.faults.requiredLost = requiredMissing s) : judgeRequired s = s := by
  unfold judgeRequired
  split
  · exact putPeerFault_same h
  · rfl

/-- R37: in ACTIVE a frame joins an empty queue. -/
theorem offer_empty (f : Payload) (hp : s.phase = .active) (ht : s.line.tx = []) : offer f s = setTx [f] s := by
  rw [offer, if_neg (not_not.2 hp), ht]
  rfl

/-- Settles O9: ACTIVE begins, the STATUS joins an empty queue, and the judgement of the required stations finds none. -/
theorem listenEndsIntoActive : Obligations.ListenEndsIntoActive := by
  intro s hp ht hf hreq
  have hnone : requiredMissing s = false := requiredMissing_eq_false hreq
  rw [exec_listenEnd, endListen, if_pos hp, enterActive]
  dsimp only
  rw [offer_empty _ (by rfl) (by exact ht), judgeRequired_same (by exact hf.trans hnone.symm)]
  rfl

end Sys2Proof.Machine
end

section
/-! PROOFS. What a change of the curtain state leaves (R99, R113), and a recomputation that a station fault alone calls for. -/

namespace Sys2Proof.Machine

variable {s t : State}

/-! ## The rank of conditions (R58) -/

theorem higher_assoc (a b c : Condition) : higher a (higher b c) = higher (higher a b) c := by
  cases a <;> cases b <;> cases c <;> rfl

theorem highest_append (cs : List Condition) (c : Condition) : highest (cs ++ [c]) = higher (highest cs) c := by
  induction cs with
  | nil => cases c <;> rfl
  | cons d cs ih =>
    unfold highest at ih ⊢
    rw [List.cons_append, List.foldr_cons, List.foldr_cons, ih, higher_assoc]

/-- The condition that zones alone give. -/
def State.zoneCondition (s : State) : Condition := highest (s.ownContributions ++ s.peerContributions)

theorem computedCondition_eq (s : State) :
    s.computedCondition = higher s.zoneCondition (if s.faults.any then .fault else .quiet) := highest_append _ _

theorem zoneCondition_congr (hc : t.config = s.config) (hz : t.zones = s.zones) (hp : t.peers.table = s.peers.table) :
    t.zoneCondition = s.zoneCondition := congrArg highest (contributions_congr hc hz hp)

/-- R58: station faults move the condition between QUIET and FAULT alone. -/
theorem computedCondition_moves (hz : t.zoneCondition = s.zoneCondition) (hne : t.computedCondition ≠ s.computedCondition) :
    (s.computedCondition = .quiet ∨ s.computedCondition = .fault)
      ∧ (t.computedCondition = .quiet ∨ t.computedCondition = .fault) := by
  rw [computedCondition_eq, computedCondition_eq, hz] at hne ⊢
  generalize s.zoneCondition = z at hne ⊢
  generalize t.faults.any = f at hne ⊢
  generalize s.faults.any = g at hne ⊢
  revert hne
  cases z <;> cases f <;> cases g <;> decide

/-- R59: a change between QUIET and FAULT reaches the lights alone. -/
theorem deliverCondition_calm {previous : Condition} (hc : s.condition = .quiet ∨ s.condition = .fault)
    (hp : previous = .quiet ∨ previous = .fault) : deliverCondition previous s = lightCondition previous s := by
  have hcurtain : curtainCondition s = s := by
    unfold curtainCondition
    rcases hc with hc | hc <;> rw [hc]
  have hcalls : callCondition previous (lightCondition previous s) = lightCondition previous s := by
    have hlight : (lightCondition previous s).condition = s.condition := (lightCondition_frame s previous).2.2.2.2.2.2.2.2.1
    unfold callCondition
    rw [hlight]
    rcases hc with hc | hc <;> rcases hp with hp | hp <;> simp [hc, hp]
  rw [deliverCondition, hcurtain, hcalls]

/-- R59: where only station faults have changed, a recomputation reaches the condition, the lights and the reports. -/
theorem recompute_of_faults (hs : s.condition = s.computedCondition) (hcond : t.condition = s.condition)
    (hc : t.config = s.config) (hz : t.zones = s.zones) (hp : t.peers.table = s.peers.table) :
    recompute t = { t with
      condition := (recompute t).condition, lights := (recompute t).lights, panel := (recompute t).panel } := by
  unfold recompute
  dsimp only
  split
  · rfl
  · next hne =>
    have hmoves := computedCondition_moves (zoneCondition_congr hc hz hp) (by rw [← hs, ← hcond]; exact hne)
    rw [← hs, ← hcond] at hmoves
    obtain ⟨hold, hnew⟩ := hmoves
    generalize hs1 : report _ (t.setCondition t.computedCondition) = s1
    have hs1' : s1.condition = t.computedCondition := by rw [← hs1]; rfl
    rw [deliverCondition_calm (by rw [hs1']; exact hnew) hold]
    rw [relit_of_frame (lightCondition_frame s1 t.condition), ← hs1]
    rfl

/-! ## The parts of a move (R99) -/

theorem putCurtainFault_faults (v : Bool) (s : State) : (putCurtainFault v s).faults = { s.faults with curtain := v } := by
  unfold putCurtainFault
  split
  · next h => rw [← h]
  · rfl

/-- R113: CURTAIN_FAULT follows the new state. -/
theorem curtainMove_faults (new : CurtainState) (cause : CurtainCause) (s : State) :
    (curtainMove new cause s).faults = { s.faults with curtain := curtainFaultAfter s.curtain.state new s.faults.curtain } := by
  unfold curtainMove entryActions curtainFaultAfter
  cases new with
  | warnLower => dsimp only; split <;> simp [putCurtainFault_faults]
  | _ => simp [putCurtainFault_faults]

/-- A move reaches the line by its transmit queue alone. -/
theorem curtainMove_line_eq (new : CurtainState) (cause : CurtainCause) (s : State) :
    (curtainMove new cause s).line = { s.line with tx := (curtainMove new cause s).line.tx } := by
  obtain ⟨hslot, hheld, hcheck, hform, hbit, hscore, hgood, hthr, -⟩ := curtainMove_line s new cause
  exact LineState.eq_with_tx hslot hheld hcheck hform hbit hscore hgood hthr

theorem joinQueue_mem (f : Payload) (q : List Payload) : f ∈ joinQueue f q := (joinQueue_perm f q).mem_iff.2 (by simp)

/-- A frame of no sort joins where there is room (R37, R38). -/
theorem offer_mem {f : Payload} (hf : ∀ q, waits f q = false) (hp : s.phase = .active) (hl : s.line.tx.length < 8) :
    f ∈ (offer f s).line.tx := by
  rw [offer, if_neg (not_not.2 hp), hf, if_neg Bool.false_ne_true, if_pos hl]
  exact joinQueue_mem f _

theorem stateFrame_waits (c : ConfigRecord) (new : CurtainState) (pos : Nat) (q : List Payload) :
    waits (stateFrame c new pos) q = false := by
  rw [waits, List.any_eq_false]
  intro g _
  cases g <;> simp [stateFrame, sameSort]

theorem curtainMove_tx (new : CurtainState) (cause : CurtainCause) (s : State) (hp : s.phase = .active)
    (hl : s.line.tx.length < 8) : stateFrame s.cfg new s.curtain.pos ∈ (curtainMove new cause s).line.tx := by
  unfold curtainMove
  dsimp only
  rw [show ∀ p n u, (entryActions p n u).line = u.line from fun p n u => by simp]
  exact offer_mem (stateFrame_waits _ _ _) hp hl

theorem curtainMove_reports (new : CurtainState) (cause : CurtainCause) (s : State) :
    PanelGrows (report (.curtainChanged s.curtain.state new cause s.curtain.pos s.curtain.known) s).panel
      (curtainMove new cause s).panel := by
  unfold curtainMove
  exact entryActions_grows _ _ _ _ (offer_grows _ _ _ (PanelGrows.refl _))

/-! ## A change of the curtain state, whole (R99, R113) -/

/-- R113: what the recomputation after a move leaves to it. -/
theorem afterCurtain_eq (hs : s.condition = s.computedCondition) (hcond : t.condition = s.condition)
    (hc : t.config = s.config) (hz : t.zones = s.zones) (hp : t.peers.table = s.peers.table) :
    afterCurtain s t = { t with
      condition := (afterCurtain s t).condition, lights := (afterCurtain s t).lights, panel := (afterCurtain s t).panel } := by
  unfold afterCurtain
  split
  · rfl
  · exact recompute_of_faults hs hcond hc hz hp

/-- R99, R113: a move from record c of the state's own curtain state. -/
theorem curtainTook_move {c : CurtainRecord} (hs : s.condition = s.computedCondition) (hc : c.state = s.curtain.state)
    (new : CurtainState) (cause : CurtainCause) :
    CurtainTook s new (curtainRecordAfter new c) cause (afterCurtain s (curtainMove new cause (s.setCurtain c))) := by
  have hcurtain := curtainMove_curtain new cause (s.setCurtain c)
  have hfaults := curtainMove_faults new cause (s.setCurtain c)
  have hline := curtainMove_line_eq new cause (s.setCurtain c)
  have htx := curtainMove_tx new cause (s.setCurtain c)
  have hgrows := curtainMove_reports new cause (s.setCurtain c)
  obtain ⟨hphase, hmode, hconfig, hlisten, hclamp, hheld, hpeers, hcond, hbeat, hzones, hpins, hunder, hpending⟩ :=
    curtainMove_frame (s.setCurtain c) new cause
  have hcalls := curtainMove_quiet (new := new) cause (s.setCurtain c)
  have hafter := afterCurtain_eq (t := curtainMove new cause (s.setCurtain c)) hs hcond hconfig hzones (by rw [hpeers]; rfl)
  have hpanel : PanelGrows (curtainMove new cause (s.setCurtain c)).panel
      (afterCurtain s (curtainMove new cause (s.setCurtain c))).panel := afterCurtain_grows _ _ _ (PanelGrows.refl _)
  generalize curtainMove new cause (s.setCurtain c) = m at *
  generalize afterCurtain s m = u at *
  rw [hafter]
  simp only [setCurtain_curtain, setCurtain_faults, hc] at hcurtain hfaults hgrows
  exact {
    curtain := hcurtain
    report := FirstReport.of_grows (hgrows.trans hpanel)
    faults := hfaults
    frame := fun ha hl => htx ha hl
    line := hline
    others := ⟨hphase, hmode, hconfig, hlisten, hclamp, hheld, hpeers, hbeat, hzones, hpins, hunder, hpending⟩
    calls := fun hr hl => (hcalls hr hl).2.1 }

/-- R97, R99, R113: a change of the curtain state by one of the rules. -/
theorem curtainTook_change (hs : s.condition = s.computedCondition) {new : CurtainState} (hgo : goesDown new = false)
    (cause : CurtainCause) : CurtainTook s new (curtainRecordAfter new s.curtain) cause (curtainChange new cause s) := by
  have := curtainTook_move (c := s.curtain) hs rfl new cause
  rwa [curtainChange, curtainGo, hgo, Bool.false_and, if_neg Bool.false_ne_true]

/-- R97: a change that the floor turns into DOWN. -/
theorem curtainTook_downTo (hs : s.condition = s.computedCondition) {new : CurtainState} (hgo : goesDown new = true)
    (cause : CurtainCause) :
    CurtainTook s (downTo s new) (curtainRecordAfter (downTo s new) (fromFloor s)) cause (curtainChange new cause s) := by
  rw [curtainChange, curtainGo, hgo, Bool.true_and]
  unfold downTo fromFloor
  split
  · exact curtainTook_move (c := { s.curtain with pos := 0, known := true }) hs rfl .down cause
  · exact curtainTook_move (c := s.curtain) hs rfl new cause

/-- R101, R112: a powered lowering. -/
theorem curtainTook_lowering (hs : s.condition = s.computedCondition) (cause : CurtainCause) :
    CurtainTook s (loweringTarget s) (curtainRecordAfter (loweringTarget s) (fromFloor s)) cause (curtainLowering cause s) := by
  have hchange : curtainLowering cause s = curtainChange (if s.pins.driveReady then .warnLower else .dropping) cause s := by
    unfold curtainLowering curtainLowerTo curtainChange
    split <;> rfl
  rw [hchange]
  exact curtainTook_downTo hs (by split <;> rfl) cause

/-- The same with a record that is not the state's own. -/
theorem curtainTook_change_from {c : CurtainRecord} (hs : s.condition = s.computedCondition) (hc : c.state = s.curtain.state)
    {new : CurtainState} (hgo : goesDown new = false) (cause : CurtainCause) :
    CurtainTook s new (curtainRecordAfter new c) cause (curtainChange new cause (s.setCurtain c)) := by
  have hsame : curtainChange new cause (s.setCurtain c) = afterCurtain s (curtainMove new cause (s.setCurtain c)) := by
    simp [curtainChange, curtainGo, hgo, afterCurtain]
  rw [hsame]
  exact curtainTook_move hs hc new cause

/-! ## The warning call (R106, R149) -/

/-- The keys of the call queue. -/
def queueKeys (s : State) : List CallKey := s.calls.queue.map (fun e => e.key)

theorem startEntry_keys (e : CallEntry) (s : State) : queueKeys (startEntry e s) = queueKeys s := by
  have hkey (x : CallEntry) :
      (if x.key = e.key then { x with started := true, playing := true } else x : CallEntry).key = x.key := by split <;> rfl
  unfold startEntry queueKeys
  dsimp only
  split
  · simp [Function.comp_def, hkey]
  · split <;> simp [Function.comp_def, hkey, takeLinkedCue]

theorem judgeChosen_keys (b : Bool) (e : CallEntry) (s : State) : queueKeys (judgeChosen b e s) = queueKeys s := by
  have hreport (r : Report) : queueKeys (report r s) = queueKeys s := rfl
  have hawait (w : Wait) (u : State) : queueKeys (awaitEntry e w u) = queueKeys u := rfl
  unfold judgeChosen
  split
  · exact startEntry_keys e s
  split
  · exact startEntry_keys e s
  · split <;> [exact startEntry_keys e s; exact hawait _ s]
  · split
    · exact (hawait _ _).trans (hreport _)
    · dsimp only
      split
      · exact hawait _ s
      · split <;> [exact startEntry_keys e s; exact (startEntry_keys e _).trans (hreport _)]

theorem choose_keys (b : Bool) (s : State) : queueKeys (choose b s) = queueKeys s := by
  unfold choose
  split
  · split
    · rfl
    · split <;> [rfl; exact judgeChosen_keys b _ s]
  · rfl

theorem joinCalls_keys (e : CallEntry) (q : List CallEntry) : e.key ∈ (joinCalls e q).map (fun e => e.key) := by
  induction q with
  | nil => simp [joinCalls]
  | cons x q ih => unfold joinCalls; split <;> simp_all

/-- R150: with a place free, an accepted call has its entry in the queue. -/
theorem enqueueCall_keys (e : CallEntry) (s : State) (hl : s.calls.queue.length < 16) : e.key ∈ queueKeys (enqueueCall e s) := by
  unfold enqueueCall
  split
  · next x hx =>
    rw [choose_keys]
    have hmem := List.mem_of_find?_eq_some hx
    have hkey : x.key = e.key := by simpa using List.find?_some hx
    refine List.mem_map.2 ⟨_, List.mem_map.2 ⟨x, hmem, rfl⟩, ?_⟩
    rw [if_pos hkey]
    exact hkey
  · rw [if_pos hl, choose_keys]
    exact joinCalls_keys e _

/-- R106: a move into a warning state places the warning call. -/
theorem curtainMove_warning {new : CurtainState} (cause : CurtainCause) (s : State) (hn : new = .warnRaise ∨ new = .warnLower)
    (hu : s.boundaryUnderway = false) (hl : s.calls.queue.length < 16) :
    (warningCall s.cfg).key ∈ queueKeys (curtainMove new cause s) := by
  have hplace (u : State) (hu : u.boundaryUnderway = false) (hl : u.calls.queue.length < 16) :
      (warningCall u.cfg).key ∈ queueKeys (placeWarning u) := by
    rw [placeWarning, hu]
    exact enqueueCall_keys _ u hl
  have hfault (v : Bool) (u : State) : queueKeys (putCurtainFault v u) = queueKeys u := by
    unfold putCurtainFault
    split <;> rfl
  unfold curtainMove
  dsimp only
  generalize hs2 : offer _ _ = s2
  have hcfg : s2.cfg = s.cfg := by rw [← hs2]; simp [State.cfg]
  rw [← hcfg]
  have hcalls : s2.calls = s.calls := by rw [← hs2]; simp
  have hu2 : s2.boundaryUnderway = false := by rw [← hs2]; simpa using hu
  have hl2 : s2.calls.queue.length < 16 := by rw [hcalls]; exact hl
  rcases hn with rfl | rfl
  · exact hplace s2 hu2 hl2
  · unfold entryActions
    dsimp only
    split
    · rw [hfault]; exact hplace s2 hu2 hl2
    · exact hplace s2 hu2 hl2

end Sys2Proof.Machine
end

section
/-! PROOFS. Frames from a peer heard lately, and the obligations of the curtain's requests, limits and drive. -/

namespace Sys2Proof.Machine

variable {s : State}

/-! ## A frame from a peer heard lately -/

/-- R44: a good frame leaves the role of its sender. -/
theorem roleOf_heard (x : Nat) (s : State) : roleOf x (heard x s) = roleOf x s := by
  unfold roleOf heard
  dsimp only
  rw [findPeer_updateEntry x x (f := fun e => { e with heard := 0, liveness := .present }) (fun _ => rfl), Option.bind_map]
  refine Option.bind_congr fun e _ => ?_
  rw [Function.comp_apply]
  split <;> rfl

theorem judgedRole_heard {x : Nat} (h : HearsPeer x s) : judgedRole x (heard x s) = roleOf x s := by
  rw [judgedRole, if_neg (by exact h.peer)]
  exact roleOf_heard x s

/-- R58: a good frame alone leaves the inputs of the condition. -/
theorem computedCondition_heard (x : Nat) (s : State) : (heard x s).computedCondition = s.computedCondition :=
  computedCondition_setTable (s := s)
    (updateEntry_zones (n := x) (f := fun e => { e with heard := 0, liveness := .present }) fun _ _ _ => rfl)

/-- R31: a curtain request from a peer heard lately. -/
theorem receive_curtain {x n : Nat} (h : HearsPeer x s) (hn : n ≤ 31) (k : CurtainKind) :
    receive ⟨x, .curtain k n⟩ s = takeCurtainFrame x k n (heard x s) := by
  rw [receive_heard s x _ h]
  · rfl
  · simp [Frame.formOk, Payload.formOk, h.station.1, h.station.2, hn]

/-- R101 to R104: what a request of each kind does. -/
def requestOf (x : Nat) : CurtainKind → State → State
  | .lower => lowerRequest
  | .drop => dropRequest
  | .stop => stopRequest
  | .raiseHold => raiseHoldRequest x

/-- R100: a request that is permitted, one that is not, and one for elsewhere. -/
theorem takeCurtainFrame_permitted {x n : Nat} {k : CurtainKind} (hrole : s.cfg.role = .curtain) (hn : n = s.cfg.station)
    (hk : curtainPermitted k (judgedRole x s) = true) : takeCurtainFrame x k n s = requestOf x k s := by
  unfold takeCurtainFrame
  rw [if_pos ⟨hrole, hn⟩, if_pos hk]
  cases k <;> rfl

theorem takeCurtainFrame_ignored {x n : Nat} {k : CurtainKind} (hrole : s.cfg.role = .curtain) (hn : n = s.cfg.station)
    (hk : curtainPermitted k (judgedRole x s) = false) : takeCurtainFrame x k n s =
      report (.curtainIgnored k x (judgedRole x s) (if judgedRole x s = none then .senderUnknown else .senderRole)) s := by
  unfold takeCurtainFrame
  rw [if_pos ⟨hrole, hn⟩, hk, if_neg Bool.false_ne_true]

theorem takeCurtainFrame_elsewhere {x n : Nat} {k : CurtainKind} (h : s.cfg.role ≠ .curtain ∨ n ≠ s.cfg.station) :
    takeCurtainFrame x k n s = s := by
  unfold takeCurtainFrame
  rw [if_neg]
  rintro ⟨hrole, heq⟩
  exact h.elim (fun hr => hr hrole) (fun hn => hn heq)

/-- R100: a permitted request at the station it names. -/
theorem receive_permitted {x : Nat} (h : HearsPeer x s) (hrole : s.cfg.role = .curtain) (hst : s.cfg.station ≤ 31)
    {k : CurtainKind} (hk : curtainPermitted k (roleOf x s) = true) :
    receive ⟨x, .curtain k s.cfg.station⟩ s = requestOf x k (heard x s) := by
  rw [receive_curtain h hst]
  exact takeCurtainFrame_permitted hrole rfl (by rwa [judgedRole_heard h])

/-- The condition law carried over to what a good frame leaves. -/
theorem heard_condition {x : Nat} (h : HearsPeer x s) (hc : ConditionLaw s) :
    (heard x s).condition = (heard x s).computedCondition :=
  (hc h.working).trans (computedCondition_heard x s).symm

/-! ## Requests (O34 to O37) -/

/-- R101: the states from which a LOWER acts. -/
theorem lowerRequest_open (h : s.curtain.state = some .up ∨ s.curtain.state = some .stopped ∨ s.curtain.state = some .jammed
    ∨ s.curtain.state = some .warnRaise ∨ s.curtain.state = some .raising) : lowerRequest s = curtainLowering .lower s := by
  unfold lowerRequest
  rcases h with h | h | h | h | h <;> rw [h]

theorem warning_placed {c : CurtainRecord} {new : CurtainState} (cause : CurtainCause) (hs : s.condition = s.computedCondition)
    (hn : new = .warnRaise ∨ new = .warnLower) (hu : s.boundaryUnderway = false) (hl : s.calls.queue.length < 16) :
    ∃ e ∈ (afterCurtain s (curtainMove new cause (s.setCurtain c))).calls.queue, e.key = (warningCall s.cfg).key := by
  have hmove := curtainMove_warning (new := new) cause (s.setCurtain c) hn hu hl
  obtain ⟨hphase, hmode, hconfig, hlisten, hclamp, hheld, hpeers, hcond, hbeat, hzones, -⟩ :=
    curtainMove_frame (s.setCurtain c) new cause
  rw [afterCurtain_eq hs hcond hconfig hzones (by rw [hpeers]; rfl)]
  obtain ⟨e, he, hkey⟩ := List.mem_map.1 hmove
  exact ⟨e, he, hkey⟩

/-- Settles O34: the open states lower, and a lowering into WARN_LOWER places its warning. -/
theorem lowerFrameStartsTheLowering : Obligations.LowerFrameStartsTheLowering := by
  intro s x h hrole hst hc
  have hcond := heard_condition h hc
  have hreceive : exec (.curtainLowerFrame x s.cfg.station) s = .next (lowerRequest (heard x s)) :=
    congrArg Host.Outcome.next (receive_permitted (k := .lower) h hrole hst rfl)
  refine ⟨fun hopen => ⟨curtainLowering .lower (heard x s), ?_, curtainTook_lowering hcond .lower, fun hwarn hu hl => ?_⟩,
    fun hclosed => ?_⟩
  · rw [hreceive, lowerRequest_open (s := heard x s) hopen]
  · have hready : s.pins.driveReady = true ∧ s.pins.bottomLimit = false := by
      unfold loweringTarget downTo at hwarn
      cases hb : s.pins.bottomLimit <;> cases hd : s.pins.driveReady <;> simp_all
    have hgo : curtainLowering .lower (heard x s)
        = afterCurtain (heard x s) (curtainMove .warnLower .lower ((heard x s).setCurtain s.curtain)) := by
      rw [curtainLowering, curtainLowerTo, if_pos (by exact hready.1), curtainGo,
        if_neg (by rw [show (heard x s).pins = s.pins from rfl, hready.2]; simp)]
      rfl
    rw [hgo]
    exact warning_placed .lower hcond (.inr rfl) hu hl
  · rw [hreceive, lowerRequest, show (heard x s).curtain = s.curtain from rfl]
    rcases hclosed with hs | hs | hs | hs <;> rw [hs]

/-- R102: the states from which a DROP acts. -/
theorem dropRequest_open {st : CurtainState} (hs : s.curtain.state = some st) (hd : st ≠ .down) (hf : st ≠ .dropping) :
    dropRequest s = curtainChange .dropping .drop s := by
  unfold dropRequest
  rw [hs]
  cases st <;> simp_all

/-- Settles O35, by the table of each request. -/
theorem dropAndStopFrames : Obligations.DropAndStopFrames := by
  intro s x h hrole hst hc
  have hcond := heard_condition h hc
  refine ⟨fun r st hr hperm hs => ?drop, fun st hr hs => ?stop⟩
  case drop =>
    have hreceive : exec (.curtainDropFrame x s.cfg.station) s = .next (dropRequest (heard x s)) :=
      congrArg Host.Outcome.next (receive_permitted (k := .drop) h hrole hst
        (by rw [hr]; rcases hperm with rfl | rfl | rfl <;> rfl))
    rw [hreceive]
    refine ⟨fun hd hf => ⟨_, congrArg Host.Outcome.next (dropRequest_open hs hd hf), curtainTook_downTo hcond rfl .drop⟩,
      fun hdown => ?_⟩
    rw [dropRequest, show (heard x s).curtain = s.curtain from rfl, hs]
    rcases hdown with rfl | rfl <;> rfl
  case stop =>
    have hreceive : exec (.curtainStopFrame x s.cfg.station) s = .next (stopRequest (heard x s)) :=
      congrArg Host.Outcome.next (receive_permitted (k := .stop) h hrole hst (by rw [hr]; rfl))
    rw [hreceive]
    refine ⟨fun hmoving => ⟨curtainChange .stopped .stop (heard x s), ?_, curtainTook_change hcond rfl .stop⟩, fun hrest => ?_⟩
    · rw [stopRequest, show (heard x s).curtain = s.curtain from rfl, hs]
      rcases hmoving with rfl | rfl | rfl | rfl <;> rfl
    · rw [stopRequest, show (heard x s).curtain = s.curtain from rfl, hs]
      rcases hrest with rfl | rfl | rfl | rfl | rfl <;> rfl

/-- R104: a raise from DOWN or STOPPED that is barred. -/
theorem raiseHoldRequest_barred {st : CurtainState} (hs : s.curtain.state = some st) (hst : st = .down ∨ st = .stopped) (x : Nat)
    {r : RaiseReason} (hr : raiseBar s = some r) : raiseHoldRequest x s = report (.curtainRefused x r) s := by
  unfold raiseHoldRequest raiseRequest
  rw [hs]
  rcases hst with rfl | rfl <;> simp [hr]

/-- R104: the curtain record with the hold of a raise that begins in state st. -/
def holdFrom (st : CurtainState) (s : State) : CurtainRecord :=
  { s.curtain with hold := some { remaining := s.cfg.holdLapse, back := st } }

/-- Settles O36: a hold is refreshed, and in DOWN and STOPPED the first of the five conditions that fails bars the raise. -/
theorem raiseHoldFrameRaisesOrIsRefused : Obligations.RaiseHoldFrameRaisesOrIsRefused := by
  intro s x st h hrole hst hc hstage hs refused fault
  have hcond := heard_condition h hc
  have hreceive : exec (.curtainRaiseHoldFrame x s.cfg.station) s = .next (raiseHoldRequest x (heard x s)) :=
    congrArg Host.Outcome.next (receive_permitted (k := .raiseHold) h hrole hst (by rw [hstage]; rfl))
  have hs' : (heard x s).curtain.state = some st := hs
  rw [hreceive]
  refine ⟨fun hraise hold hh => ?refresh, fun hother => ?other, fun hrest => ?rest⟩
  case refresh =>
    rw [raiseHoldRequest, hs']
    rcases hraise with rfl | rfl <;>
      simp only [refreshHold, show (heard x s).curtain = s.curtain from rfl, hh, Option.map_some] <;> rfl
  case other =>
    rw [raiseHoldRequest, hs']
    rcases hother with rfl | rfl | rfl | rfl | rfl <;> rfl
  case rest =>
    have hbarred {r : RaiseReason} (hr : raiseBar (heard x s) = some r) :
        Host.Outcome.next (raiseHoldRequest x (heard x s)) = (.next (refused r) : Result) :=
      congrArg Host.Outcome.next (raiseHoldRequest_barred hs' hrest x hr)
    have hphase : (heard x s).phase = s.phase := rfl
    have hcurtain : (heard x s).curtain = s.curtain := rfl
    have hcondition : (heard x s).condition = s.condition := rfl
    have hfaults : (heard x s).faults = s.faults := rfl
    have hpins : (heard x s).pins = s.pins := rfl
    refine ⟨fun ha => hbarred ?_, fun ha hk => hbarred ?_, fun ha hk hcd => hbarred ?_, fun ha hk hcd hf => hbarred ?_,
      fun ha hk hcd hf hd => hbarred ?_, fun ha hk hcd hf hd hu hl => ?raise⟩
    · rw [raiseBar, if_pos (by exact ha)]
    · rw [raiseBar, hphase, hcurtain]
      simp [ha, hk]
    · rw [raiseBar, hphase, hcurtain, hcondition]
      rcases hcd with hcd | hcd <;> simp [ha, hk, hcd]
    · rw [raiseBar, hphase, hcurtain, hcondition, hfaults]
      rcases hcd with hcd | hcd <;> simp only [fault] at hf <;> simp [ha, hk, hcd, hf]
    · rw [raiseBar, hphase, hcurtain, hcondition, hfaults, hpins]
      rcases hcd with hcd | hcd <;> simp only [fault] at hf <;> simp [ha, hk, hcd, hf, hd]
    case raise =>
      have hnone : raiseBar (heard x s) = none := by
        rw [raiseBar, hphase, hcurtain, hcondition, hfaults, hpins]
        rcases hcd with hcd | hcd <;> simp only [fault] at hf <;> simp [ha, hk, hcd, hf, hd]
      have hgo : raiseHoldRequest x (heard x s) = curtainChange .warnRaise .raiseHold
          ((heard x s).setCurtain (holdFrom st s)) := by
        unfold raiseHoldRequest raiseRequest
        rw [hs']
        rcases hrest with rfl | rfl <;> simp only [hnone] <;> rfl
      have hrecord : ({ curtainRecordAfter .warnRaise s.curtain with hold := some { remaining := s.cfg.holdLapse, back := st } }
          : CurtainRecord) = curtainRecordAfter .warnRaise (holdFrom st s) := by
        simp [holdFrom, curtainRecordAfter, isRaise, descentAfter, isDescent]
      rw [hgo, hrecord]
      refine ⟨_, rfl, curtainTook_change_from (c := holdFrom st s) hcond rfl rfl .raiseHold, ?_⟩
      have hmove : curtainChange .warnRaise .raiseHold ((heard x s).setCurtain (holdFrom st s))
          = afterCurtain (heard x s) (curtainMove .warnRaise .raiseHold ((heard x s).setCurtain (holdFrom st s))) := by
        simp [curtainChange, curtainGo, goesDown, afterCurtain]
      rw [hmove]
      exact warning_placed .raiseHold hcond (.inl rfl) hu hl

/-- Settles O37: a request elsewhere reaches nothing, and one not permitted is reported with its reason. -/
theorem curtainRequestsNotPermitted : Obligations.CurtainRequestsNotPermitted := by
  intro s x target h ht ignored
  refine ⟨fun helse => ?_, fun hrole heq hstage => ?_⟩
  · have hnot (k : CurtainKind) : (.next (receive ⟨x, .curtain k target⟩ s) : Result) = .next (heard x s) := by
      rw [receive_curtain h ht, takeCurtainFrame_elsewhere (s := heard x s) helse]
    exact ⟨hnot .lower, hnot .drop, hnot .stop, hnot .raiseHold⟩
  · have hignored {k : CurtainKind} (hk : curtainPermitted k (roleOf x s) = false) :
        (.next (receive ⟨x, .curtain k target⟩ s) : Result) = .next (ignored k) := by
      rw [receive_curtain h ht, takeCurtainFrame_ignored (s := heard x s) hrole heq (by rwa [judgedRole_heard h]),
        judgedRole_heard h]
    refine ⟨hignored ?_, hignored ?_, fun hfire hcurtain => hignored ?_⟩
    · cases hr : roleOf x s with
      | none => rfl
      | some r => cases r <;> simp_all [curtainPermitted]
    · cases hr : roleOf x s with
      | none => rfl
      | some r => cases r <;> simp_all [curtainPermitted]
    · cases hr : roleOf x s with
      | none => rfl
      | some r => cases r <;> simp_all [curtainPermitted]

end Sys2Proof.Machine
end

section
/-! PROOFS. The curtain's first state, its limits, its drive, the fail-safe lowering and the end of a warning. -/

namespace Sys2Proof.Machine

variable {s : State}

/-! ## The limits and the encoder (O38, O39) -/

/-- R97, R98: reaching a limit leaves the curtain record and the inputs of the condition. -/
theorem limitReached_frame (switch : LimitSwitch) (off : Nat) (pins : CurtainPins) (s : State) :
    (limitReached switch off pins s).curtain = s.curtain ∧ (limitReached switch off pins s).condition = s.condition
      ∧ (limitReached switch off pins s).computedCondition = s.computedCondition
      ∧ (limitReached switch off pins s).cfg = s.cfg := by
  unfold limitReached
  split <;> exact ⟨rfl, rfl, rfl, rfl⟩

theorem bottomActive_eq (st : CurtainState) (s : State) : bottomActive st s =
    (if st = .down then id else curtainChange .down .bottomLimit)
      ((limitReached .bottom s.curtain.pos { s.pins with bottomLimit := true } s).setCurtain
        { s.curtain with pos := 0, known := true }) := by
  have hcurtain := (limitReached_frame .bottom s.curtain.pos { s.pins with bottomLimit := true } s).1
  unfold bottomActive
  dsimp only
  rw [show (if s.curtain.known = true ∧ s.cfg.tolerance < s.curtain.pos
      then report (.positionMismatch .bottom s.curtain.pos) (s.setPins { s.pins with bottomLimit := true })
      else s.setPins { s.pins with bottomLimit := true })
    = limitReached .bottom s.curtain.pos { s.pins with bottomLimit := true } s from rfl, hcurtain]
  split <;> rfl

/-- Settles O38: the floor is reached from any state, and left without a change of state. -/
theorem bottomLimitTakesDown : Obligations.BottomLimitTakesDown := by
  intro s st hw hs hc reached floor
  obtain ⟨hcurtain, hcond, hcomputed, -⟩ := limitReached_frame .bottom s.curtain.pos { s.pins with bottomLimit := true } s
  have hreached : reached.condition = reached.computedCondition := hcond.trans ((hc hw).trans hcomputed.symm)
  have hrow (active : Bool) : exec (.bottomLimit active) s = .next (if active then bottomActive st s
      else s.setPins { s.pins with bottomLimit := false }) := by
    rw [exec_bottomLimit, whileWorking, if_pos hw, bottomLimit, hs]
  rw [hrow true, hrow false, if_pos rfl, if_neg Bool.false_ne_true, bottomActive_eq]
  refine ⟨fun hdown => ?_, fun hne => ?_, rfl⟩
  · rw [if_pos hdown]
    rfl
  · rw [if_neg hne]
    exact ⟨_, rfl, curtainTook_change_from (c := floor) hreached (by rw [show reached.curtain = s.curtain from hcurtain]) rfl _⟩

/-- R98: the states in which the top changes the curtain. -/
theorem reachTop_moves (h : s.curtain.state = some .raising ∨ s.curtain.state = some .stopped) :
    reachTop s = curtainChange .up .top s := by
  unfold reachTop
  rcases h with h | h <;> rw [h]

theorem reachTop_stays (hr : s.curtain.state ≠ some .raising) (hs : s.curtain.state ≠ some .stopped) : reachTop s = s := by
  unfold reachTop
  split
  · next h => exact absurd h hr
  · next h => exact absurd h hs
  · rfl

theorem topActive_eq (s : State) : topActive s =
    reachTop ((limitReached .top (offTop s.cfg s.curtain.pos) { s.pins with topLimit := true } s).setCurtain
      { s.curtain with
        pos := s.cfg.pTop, known := true, descent := s.curtain.descent.map (Descent.atTop s.cfg.pTop) }) := by
  have hcurtain := (limitReached_frame .top (offTop s.cfg s.curtain.pos) { s.pins with topLimit := true } s).1
  unfold topActive
  dsimp only
  rw [show (if s.curtain.known = true ∧ s.cfg.tolerance < offTop s.cfg s.curtain.pos
      then report (.positionMismatch .top s.curtain.pos) (s.setPins { s.pins with topLimit := true })
      else s.setPins { s.pins with topLimit := true })
    = limitReached .top (offTop s.cfg s.curtain.pos) { s.pins with topLimit := true } s from rfl, hcurtain]

/-- Settles O39: TOP_LIMIT and the encoder end in the same rule, that of reaching the top. -/
theorem topLimitAndEncoderReachTheTop : Obligations.TopLimitAndEncoderReachTheTop := by
  intro s st up hw hs hc off reached top p counted crosses
  obtain ⟨hcurtain, hcond, hcomputed, -⟩ := limitReached_frame .top off { s.pins with topLimit := true } s
  have htop (active : Bool) : exec (.topLimit active) s = .next (if active then topActive s
      else s.setPins { s.pins with topLimit := false }) := by
    rw [exec_topLimit, whileWorking, if_pos hw, topLimit, hs]
  have hactive : topActive s = reachTop (reached.setCurtain top) := topActive_eq s
  have hcount : exec (.encoderCount up) s
      = .next (if crosses then reachTop (s.setCurtain counted) else s.setCurtain counted) := by
    rw [exec_encoderCount, whileWorking, if_pos hw, encoderCount, hs]
    rfl
  rw [htop true, htop false, if_pos rfl, if_neg Bool.false_ne_true, hactive, hcount]
  have hstay {c : CurtainRecord} {u : State} (hcs : c.state = s.curtain.state) (hr : st ≠ .raising) (hst : st ≠ .stopped) :
      reachTop (u.setCurtain c) = u.setCurtain c := by
    refine reachTop_stays ?_ ?_ <;> rw [setCurtain_curtain, hcs, hs] <;> simpa
  have hmove {c : CurtainRecord} {u : State} (hcs : c.state = s.curtain.state) (hst : st = .raising ∨ st = .stopped) :
      reachTop (u.setCurtain c) = curtainChange .up .top (u.setCurtain c) := by
    refine reachTop_moves ?_
    rw [setCurtain_curtain, hcs, hs]
    rcases hst with rfl | rfl <;> simp
  refine ⟨fun hr hst => congrArg Host.Outcome.next (hstay rfl hr hst), fun hst => ⟨_, congrArg Host.Outcome.next (hmove rfl hst), ?_⟩,
    rfl, fun hno => ?_, fun hcross hst => ⟨curtainChange .up .top (s.setCurtain counted), ?_, ?_⟩⟩
  · exact curtainTook_change (s := reached.setCurtain top) (hcond.trans ((hc hw).trans hcomputed.symm)) rfl .top
  · split
    · next hcross =>
      obtain ⟨hr, hst⟩ := hno.resolve_left (not_not.2 hcross)
      exact congrArg Host.Outcome.next (hstay rfl hr hst)
    · rfl
  · rw [if_pos hcross]
    exact congrArg Host.Outcome.next (hmove (c := counted) rfl hst)
  · exact curtainTook_change (s := s.setCurtain counted) (hc hw) rfl .top

/-! ## A sample event of a station without an enabled zone -/

/-- R3: a disabled zone takes no part in a sample event. -/
theorem handleZone_disabled (inputs : SampleInputs) (had : List Bool) (n : Nat) (h : ∀ z ∈ s.zones, z.enabled = false) :
    handleZone inputs had s n = s := by
  have hsample (pair : Bool × Bool) : sampleZone n pair s = s := by
    unfold sampleZone
    split
    · next z hz => rw [h z (List.mem_of_getElem? hz), if_neg Bool.false_ne_true]
    · rfl
  have hcount : countTimer n s = s := by
    unfold countTimer
    split
    · next z hz =>
      split
      · rw [h z (List.mem_of_getElem? hz)]; rfl
      · rfl
    · rfl
  unfold handleZone
  dsimp only
  rw [hsample, hcount, ite_self]

theorem sampleZones_disabled (inputs : SampleInputs) (h : ∀ z ∈ s.zones, z.enabled = false) : sampleZones inputs s = s := by
  have hfold : ∀ (ns : List Nat) (had : List Bool), ns.foldl (handleZone inputs had) s = s := by
    intro ns had
    induction ns with
    | nil => rfl
    | cons n ns ih => rw [List.foldl_cons, handleZone_disabled inputs had n h, ih]
  exact hfold _ _

/-- The sample event is then the curtain's alone. -/
theorem sampleEvent_disabled (inputs : SampleInputs) (h : ∀ z ∈ s.zones, z.enabled = false) :
    sampleEvent inputs s = curtainSample inputs s.curtain.descent.isSome (markStalled false s) := by
  rw [sampleEvent, sampleZones_disabled (s := markStalled false s) inputs h]

/-- R118: a record that was absent when the event began is not judged. -/
theorem sampleDescent_absent (s : State) : sampleDescent false s = s := by
  unfold sampleDescent
  split <;> rfl

theorem curtainSample_absent (inputs : SampleInputs) (s : State) :
    curtainSample inputs false s = judgeHandshake inputs.driveMoving s := by
  unfold curtainSample
  rw [sampleDescent_absent, sampleDescent_absent, ite_self]

/-! ## The drive (O40, O41) -/

/-- Settles O40: each handshake with its timeout, by its row and by the sample that reaches it. -/
theorem driveHandshakeIsJudged : Obligations.DriveHandshakeIsJudged := by
  intro s inputs n hw hc jams becomes
  have hwork (f : State → State) : whileWorking f s = f s := if_pos hw
  have hjam {i : Instr} {cause : CurtainCause} (h : exec i s = .next (curtainChange .jammed cause s)) : jams i cause :=
    ⟨_, h, curtainTook_change (hc hw) rfl cause⟩
  refine ⟨fun hh => ⟨hjam ?_, ?_⟩, fun hh => ⟨hjam ?_, ?_⟩, fun hz hd => ?sample⟩
  · rw [exec_startTimeout, hwork, startDue, hh]
  · rw [exec_stopTimeout, hwork, stopDue, hh]
  · rw [exec_stopTimeout, hwork, stopDue, hh]
  · rw [exec_startTimeout, hwork, startDue, hh]
  case sample =>
    have hrow : exec (.sampleEvent inputs) s = .next (judgeHandshake inputs.driveMoving (markStalled false s)) := by
      rw [exec_sampleEvent, hwork, sampleEvent_disabled inputs hz, hd]
      exact congrArg Host.Outcome.next (curtainSample_absent inputs _)
    have hto {h : Handshake} (hj : judgeHandshake inputs.driveMoving (markStalled false s)
        = setHandshake h (markStalled false s)) : becomes h := by
      show exec _ s = _
      rw [hrow, hj]
      rfl
    have hjams {cause : CurtainCause} (hj : judgeHandshake inputs.driveMoving (markStalled false s)
        = curtainChange .jammed cause (markStalled false s)) : jams (.sampleEvent inputs) cause :=
      ⟨_, hrow.trans (congrArg Host.Outcome.next hj),
        curtainTook_change_from (c := { s.curtain with stalledNow := false }) (hc hw) rfl rfl cause⟩
    refine ⟨fun hh hm => hto ?_, fun hh hm hlt => hto ?_, fun hh hm hge => hjams ?_, fun hh hm hst => hjams ?_, fun hh hm => ?_,
      fun hh hm => hto ?_, fun hh hm hlt => hto ?_, fun hh hm hge => hjams ?_⟩
    · simp [judgeHandshake, hh, hm]
    · simp [judgeHandshake, hh, hm, show ¬(markStalled false s).cfg.startTimeout ≤ n + 1 from Nat.not_le.2 hlt]
    · simp [judgeHandshake, hh, hm, show (markStalled false s).cfg.startTimeout ≤ n + 1 from hge]
    · have hdriven : isDriven s.curtain.state = true := isDriven_iff.2 hst
      simp [judgeHandshake, hh, hm, hdriven]
    · have hj : judgeHandshake inputs.driveMoving (markStalled false s) = markStalled false s := by
        simp [judgeHandshake, hh, hm]
      show exec _ s = _
      rw [hrow, hj, ← hh]
      rfl
    · simp [judgeHandshake, hh, hm]
    · simp [judgeHandshake, hh, hm, show ¬(markStalled false s).cfg.startTimeout ≤ n + 1 from Nat.not_le.2 hlt]
    · simp [judgeHandshake, hh, hm, show (markStalled false s).cfg.startTimeout ≤ n + 1 from hge]

/-- R105: the record after a raise ends holds no hold, whatever its count was. -/
theorem recordAfter_endsHold (c : CurtainRecord) (x : Option Hold) {new : CurtainState} (hc : isRaise c.state = true)
    (hn : isRaise (some new) = false) : curtainRecordAfter new { c with hold := x } = curtainRecordAfter new c := by
  simp [curtainRecordAfter, hc, hn, descentAfter, openDescent]

theorem goesDown_back {x : CurtainState} (h : x = .down ∨ x = .stopped) : goesDown x = false ∧ isRaise (some x) = false := by
  rcases h with rfl | rfl <;> exact ⟨rfl, rfl⟩

/-- Settles O41: the hold that lapses and the drive that is lost, by the curtain's state. -/
theorem holdLapseAndDriveLoss : Obligations.HoldLapseAndDriveLoss := by
  refine ⟨fun s h hw hc => ?lapse, fun s st hw hs hc => ?loss⟩
  case lapse =>
    intro lapsed
    have hrow {x : Hold} (hx : s.curtain.hold = some x) : exec .holdLapse s
        = .next (lapseHold (s.setCurtain { s.curtain with hold := some { x with remaining := 0 } })) := by
      rw [exec_holdLapse, whileWorking, if_pos hw, holdDue, hx]
    refine ⟨fun hnone => ?_, fun hh hst hback => ?_, fun hh hst => ?_⟩
    · rw [exec_holdLapse, whileWorking, if_pos hw, holdDue, hnone]
    · obtain ⟨hgo, hraise⟩ := goesDown_back hback
      have hlapse : lapseHold lapsed = curtainChange h.back .holdLapse lapsed := by
        simp only [lapseHold, lapsed, hst]
      refine ⟨_, (hrow hh).trans (congrArg Host.Outcome.next hlapse), ?_⟩
      have htook := curtainTook_change (s := lapsed) (hc hw) hgo .holdLapse
      rwa [show lapsed.curtain = { s.curtain with hold := some { h with remaining := 0 } } from rfl,
        recordAfter_endsHold _ _ (by rw [hst]; rfl) hraise] at htook
    · have hlapse : lapseHold lapsed = curtainChange .stopped .holdLapse lapsed := by
        simp only [lapseHold, lapsed, hst]
      refine ⟨_, (hrow hh).trans (congrArg Host.Outcome.next hlapse), ?_⟩
      have htook := curtainTook_change (s := lapsed) (new := .stopped) (hc hw) rfl .holdLapse
      rwa [show lapsed.curtain = { s.curtain with hold := some { h with remaining := 0 } } from rfl,
        recordAfter_endsHold _ _ (by rw [hst]; rfl) rfl] at htook
  case loss =>
    intro lost
    have hrow (ready : Bool) : exec (.driveReadyLost ready) s = .next (if ready then s.setPins { s.pins with driveReady := true }
        else driveLost lost) := by
      rw [exec_driveReadyLost, whileWorking, if_pos hw, driveReadyChange, hs]
      cases ready <;> rfl
    have hs' : lost.curtain.state = some st := hs
    rw [hrow true, hrow false, if_pos rfl, if_neg Bool.false_ne_true]
    refine ⟨rfl, fun hst => ⟨curtainChange .jammed .driveReadyLost lost, ?_, curtainTook_change (s := lost) (hc hw) rfl _⟩,
      fun hst => ⟨curtainChange .dropping .driveReadyLost lost, ?_, curtainTook_downTo (s := lost) (hc hw) rfl _⟩,
      fun h hst hh hback => ⟨curtainChange h.back .driveReadyLost lost, ?_,
        curtainTook_change (s := lost) (hc hw) (goesDown_back hback).1 _⟩,
      fun hst hstall => ⟨curtainChange .dropping .driveReadyLost lost, ?_, curtainTook_downTo (s := lost) (hc hw) rfl _, fun hb => ?_⟩,
      fun hst hstall => ?_, fun hst => ?_⟩
    · rw [driveLost, hs', hst]
    · rw [driveLost, hs']
      rcases hst with rfl | rfl <;> rfl
    · rw [driveLost, hs', hst, show lost.curtain.hold = some h from hh]
    · rw [driveLost, hs', hst, show lost.curtain.stalledNow = true from hstall]
      rfl
    · have hcurtain := (curtainTook_downTo (s := lost) (new := .dropping) (hc hw) rfl .driveReadyLost).curtain
      have hdown : downTo lost .dropping = .dropping := by rw [downTo, show lost.pins.bottomLimit = false from hb]; rfl
      have hfloor : fromFloor lost = s.curtain := by rw [fromFloor, show lost.pins.bottomLimit = false from hb]; rfl
      rw [hcurtain, hdown, hfloor]
      exact ⟨rfl, by rw [curtainRecordAfter, hs, hst]; rfl⟩
    · rw [driveLost, hs', hst, show lost.curtain.stalledNow = false from hstall]
      rfl
    · rw [driveLost, hs']
      rcases hst with rfl | rfl | rfl | rfl <;> rfl

/-! ## The first state (O7) -/

/-- R111: a curtain that is down takes no condition, so that a recomputation leaves it and the line. -/
theorem recompute_down (h : s.curtain.state = some .down) :
    (recompute s).curtain = s.curtain ∧ (recompute s).line = s.line := by
  have hstay (u : State) (hu : u.curtain.state = some .down) : curtainCondition u = u := by
    unfold curtainCondition
    split <;> simp [hu, isRaise]
  unfold recompute
  dsimp only
  split
  · exact ⟨rfl, rfl⟩
  · rw [deliverCondition, hstay (report _ (s.setCondition s.computedCondition)) h]
    simp

/-- R37: outside ACTIVE a move queues no STATE frame. -/
theorem curtainMove_line_inactive (new : CurtainState) (cause : CurtainCause) (hp : s.phase ≠ .active) :
    (curtainMove new cause s).line = s.line := by
  unfold curtainMove
  dsimp only
  rw [offer_inactive (s := report _ (s.setCurtain (curtainRecordAfter new s.curtain))) _ hp]
  simp

/-- R95, R97: the first state, DROPPING or at the floor DOWN; before ACTIVE it sends nothing. -/
theorem curtainChange_dropping_inactive (cause : CurtainCause) (hp : s.phase ≠ .active) :
    (curtainChange .dropping cause s).curtain = curtainRecordAfter (downTo s .dropping) (fromFloor s)
      ∧ (curtainChange .dropping cause s).line = s.line := by
  rw [curtainChange, curtainGo, downTo, fromFloor]
  cases hb : s.pins.bottomLimit
  · have hsame : (curtainMove .dropping cause s).faults = s.faults := curtainMove_faults _ _ _
    rw [if_neg (by simp), afterCurtain, if_pos hsame]
    exact ⟨curtainMove_curtain _ _ _, curtainMove_line_inactive _ _ hp⟩
  · rw [if_pos (by simp [goesDown])]
    have hcurtain := curtainMove_curtain .down cause (s.setCurtain { s.curtain with pos := 0, known := true })
    have hline : (curtainMove .down cause (s.setCurtain { s.curtain with pos := 0, known := true })).line = s.line :=
      curtainMove_line_inactive (s := s.setCurtain _) _ _ hp
    generalize curtainMove .down cause (s.setCurtain _) = m at hcurtain hline ⊢
    obtain ⟨hstays, hkeeps⟩ := recompute_down (s := m) (by rw [hcurtain]; rfl)
    unfold afterCurtain
    split
    · exact ⟨hcurtain, hline⟩
    · exact ⟨hstays.trans hcurtain, hkeeps.trans hline⟩

/-- Settles O7: outside ACTIVE no STATE frame is queued, and DOWN is left by no condition. -/
theorem curtainStationTakesFirstState : Obligations.CurtainStationTakesFirstState := by
  intro s r pins hp hr hreset hmatch h1 h31 hrole
  generalize hc : readConfig r .curtain = c
  have hrole' : c.value.role = .curtain := by rw [← hc, readConfig_role]
  have hread : exec (.configReadDone (.bytes r) pins) s
      = .next (curtainChange .dropping .startUp (listening c pins s)) := by
    rw [exec_configReadDone, endConfigRead_usable r .curtain pins s hp hr (judgeRead_usable r .curtain hmatch (by omega) hrole),
      completeConfiguration_eq, hc, curtainStartUp, if_pos (show (listening c pins s).cfg.role = .curtain from hrole')]
  have hlisten : (listening c pins s).phase ≠ .active := by simp [listening]
  have hcurtain : (listening c pins s).curtain = CurtainRecord.reset := hreset
  obtain ⟨hrecord, hline⟩ := curtainChange_dropping_inactive .startUp hlisten
  refine ⟨_, hread, (curtainChange_frame _ _ _).1, (curtainChange_frame _ _ _).2.2.1, ?_, fun hb => ?_, fun hb => ?_⟩
  · rw [hline]; rfl
  · rw [hrecord, downTo, fromFloor, hcurtain, show (listening c pins s).pins.bottomLimit = true from hb]
    rfl
  · rw [hrecord, downTo, fromFloor, hcurtain, show (listening c pins s).pins.bottomLimit = false from hb]
    rfl

/-! ## The fail-safe lowering (O26) -/

/-- R112: what the fail-safe lowering makes of the curtain. -/
theorem failSafe_curtain (hs : s.condition = s.computedCondition) :
    (s.curtain.state = some .up ∨ s.curtain.state = some .stopped ∨ s.curtain.state = some .jammed
        ∨ s.curtain.state = some .warnRaise ∨ s.curtain.state = some .raising →
      CurtainTook s (loweringTarget s) (curtainRecordAfter (loweringTarget s) (fromFloor s)) .failSafe (failSafe s))
    ∧ (s.curtain.state = none ∨ s.curtain.state = some .down ∨ s.curtain.state = some .warnLower
        ∨ s.curtain.state = some .lowering ∨ s.curtain.state = some .dropping → failSafe s = s) := by
  refine ⟨fun h => ?_, fun h => ?_⟩
  · have hlowers : failSafe s = curtainLowering .failSafe s := by
      unfold failSafe
      rcases h with h | h | h | h | h <;> rw [h]
    rw [hlowers]
    exact curtainTook_lowering hs _
  · unfold failSafe
    rcases h with h | h | h | h | h <;> rw [h]

/-- R112, R113: of the faults the lowering changes that of the curtain alone. -/
theorem failSafe_faults (hs : s.condition = s.computedCondition) :
    ∃ fault, (failSafe s).faults = { s.faults with curtain := fault } := by
  obtain ⟨hlowers, hstays⟩ := failSafe_curtain hs
  cases hst : s.curtain.state with
  | none => exact ⟨_, by rw [hstays (.inl hst)]⟩
  | some st =>
    cases st with
    | up => exact ⟨_, (hlowers (by simp [hst])).faults⟩
    | stopped => exact ⟨_, (hlowers (by simp [hst])).faults⟩
    | jammed => exact ⟨_, (hlowers (by simp [hst])).faults⟩
    | warnRaise => exact ⟨_, (hlowers (by simp [hst])).faults⟩
    | raising => exact ⟨_, (hlowers (by simp [hst])).faults⟩
    | down | warnLower | lowering | dropping => exact ⟨_, by rw [hstays (by simp [hst])]⟩

/-- R55: a fault of the Peer Monitor after its report and the recomputation. -/
def peerFaultTaken (x : StationFault) (v : Bool) (s : State) : State :=
  recompute (report (.stationFaultChanged x v) (s.setFaults (s.faults.put x v)))

theorem putPeerFault_taken {x : StationFault} {v : Bool} (h : s.faults.get x ≠ v) :
    putPeerFault x v s = if v then failSafe (peerFaultTaken x v s) else peerFaultTaken x v s := if_neg h

/-- R59: the fault reaches the condition, the lights and the reports, its own report first. -/
theorem peerFaultTaken_eq (x : StationFault) (v : Bool) (hs : s.condition = s.computedCondition) :
    peerFaultTaken x v s = { s with
      faults := s.faults.put x v, condition := (peerFaultTaken x v s).condition, lights := (peerFaultTaken x v s).lights
      panel := (peerFaultTaken x v s).panel } :=
  recompute_of_faults (t := report (.stationFaultChanged x v) (s.setFaults (s.faults.put x v))) hs rfl rfl rfl rfl

theorem peerFaultTaken_settled (x : StationFault) (v : Bool) (s : State) :
    (peerFaultTaken x v s).condition = (peerFaultTaken x v s).computedCondition := recompute_settles _

theorem peerFaultTaken_reports (x : StationFault) (v : Bool) (s : State) :
    PanelGrows (report (.stationFaultChanged x v) s).panel (peerFaultTaken x v s).panel :=
  recompute_grows _ _ (PanelGrows.refl _)

/-- Settles O26: the fault is recomputed first, and moves the condition between QUIET and FAULT at most. -/
theorem aloneLowersTheCurtain : Obligations.AloneLowersTheCurtain := by
  intro s hp hsolo halone hc
  have hw : s.working = true := by rw [State.working, hp]; rfl
  generalize hx : s.setPeers { s.peers with anyPeer := 4 * s.cfg.statusInterval } = x
  have hxc : x.condition = x.computedCondition := by rw [← hx]; exact hc hw
  have hrow : exec .alone s = .next (failSafe (peerFaultTaken .alone true x)) := by
    rw [exec_alone, aloneDue, if_pos ⟨hp, hsolo⟩, hx, judgeAlone, if_pos (by rw [← hx]; exact ⟨hp, hsolo, le_refl _⟩),
      putPeerFault_taken (by rw [← hx]; exact show s.faults.alone ≠ true by rw [halone]; decide), if_pos rfl]
  have hfirst : PanelGrows (report (.stationFaultChanged .alone true) s).panel (failSafe (peerFaultTaken .alone true x)).panel := by
    refine failSafe_grows _ _ ?_
    have := peerFaultTaken_reports .alone true x
    rwa [← hx] at this ⊢
  have heq := peerFaultTaken_eq .alone true hxc
  obtain ⟨hlowers, hstays⟩ := failSafe_curtain (peerFaultTaken_settled .alone true x)
  have hcurtain : (peerFaultTaken .alone true x).curtain = s.curtain := by rw [heq, ← hx]; rfl
  have hpins : (peerFaultTaken .alone true x).pins = s.pins := by rw [heq, ← hx]; rfl
  obtain ⟨-, hmode, -, -, -, -, hpeers, hbeat, hzones, hpins', -⟩ := failSafe_frame (peerFaultTaken .alone true x)
  rw [hcurtain] at hlowers hstays
  refine ⟨_, hrow, ?_, ?_, FirstReport.of_grows hfirst, ?_, ?_, ?_, hpins'.trans hpins, fun h => ?_, fun h => ?_⟩
  · obtain ⟨fault, hfault⟩ := failSafe_faults (peerFaultTaken_settled .alone true x)
    rw [hfault, heq]
    rfl
  · rw [hpeers, heq, ← hx]; rfl
  · rw [hzones, heq, ← hx]; rfl
  · rw [hbeat, heq, ← hx]; rfl
  · rw [hmode, heq, ← hx]; rfl
  · rw [(hlowers h).curtain, loweringTarget, downTo, hpins]
    rfl
  · rw [hstays h, hcurtain]

/-! ## The end of the warning (O47) -/

/-- R154: the end of a repetition of the warning call, around what the curtain makes of it. -/
theorem endRepetition_safety {k : CallKey} (hw : s.working = true) (hcad : s.calls.cadence = .playing)
    (hk : s.calls.chosen = some k) (hs : k.cls = .safety) :
    exec .repetitionEnd s = .next (restAfter k (warningDone (endPlaying k s))) := by
  rw [exec_repetitionEnd, whileWorking, if_pos hw, endRepetition, hcad, hk]
  dsimp only
  rw [if_pos hs]

theorem restAfter_rests (k : CallKey) (s : State) :
    (restAfter k s).calls.cadence = .resting ∧ (restAfter k s).calls.chosen = none := ⟨rfl, rfl⟩

/-- R166: later reports leave the first where it is. -/
theorem FirstReport.of_later {u : State} {r : Report} (h : FirstReport s r u) (hg : PanelGrows u.panel t.panel) : FirstReport s r t := by
  intro hl
  obtain ⟨more, hm⟩ := h hl
  obtain ⟨later, hlater⟩ := hg.reports
  exact ⟨more ++ later, by rw [hlater, hm, List.append_assoc]; rfl⟩

/-- R107, R154: what is left of a change of the curtain state inside the end of a repetition. -/
theorem restAfter_took {u : State} {k : CallKey} {new : CurtainState} {c : CurtainRecord} {cause : CurtainCause}
    (h : CurtainTook s new c cause u) :
    (restAfter k u).curtain = c ∧ FirstReport s (.curtainChanged s.curtain.state new cause c.pos c.known) (restAfter k u)
      ∧ (restAfter k u).zones = s.zones ∧ (restAfter k u).beat = s.beat ∧ (restAfter k u).mode = s.mode
      ∧ (restAfter k u).peers = s.peers
      ∧ (restAfter k u).faults = { s.faults with curtain := curtainFaultAfter s.curtain.state new s.faults.curtain } := by
  obtain ⟨-, hmode, -, -, -, -, -, hpeers, -, hfaults, hbeat, hzones, hcurtain, -⟩ := restAfter_frame u k
  obtain ⟨-, hmode', -, -, -, -, hpeers', hbeat', hzones', -⟩ := h.others
  exact ⟨hcurtain.trans h.curtain, h.report.of_later (restAfter_grows _ _ _ (PanelGrows.refl _)), hzones.trans hzones',
    hbeat.trans hbeat', hmode.trans hmode', hpeers.trans hpeers', hfaults.trans h.faults⟩

/-- Settles O47: the warning's end starts the drive within the end of the repetition. -/
theorem warningDoneStartsTheDrive : Obligations.WarningDoneStartsTheDrive := by
  intro s k hw hc hcad hk hcls hready
  have hrow := endRepetition_safety hw hcad hk hcls
  have hpc : (endPlaying k s).condition = (endPlaying k s).computedCondition := hc hw
  have hpins : (endPlaying k s).pins.driveReady = true := hready
  refine ⟨fun hst => ?lower, fun hst hhold => ?raise⟩
  case lower =>
    have hdone : warningDone (endPlaying k s) = curtainChange .lowering .warningDone (endPlaying k s) := by
      rw [warningDone, show (endPlaying k s).curtain.state = some .warnLower from hst]
      exact if_pos hpins
    rw [hdone] at hrow
    obtain ⟨hcurtain, hfirst, hzones, hbeat, hmode, hpeers, -⟩ :=
      restAfter_took (k := k) (curtainTook_downTo hpc (new := .lowering) rfl .warningDone)
    refine ⟨_, hrow, rfl, rfl, hcurtain, ?_, hzones, hbeat, hmode, hpeers⟩
    rw [hcurtain, ← hst]
    exact hfirst
  case raise =>
    have hdone : warningDone (endPlaying k s) = curtainChange .raising .warningDone (endPlaying k s) := by
      rw [warningDone, show (endPlaying k s).curtain.state = some .warnRaise from hst]
      exact if_pos ⟨hhold, hpins⟩
    rw [hdone] at hrow
    obtain ⟨hcurtain, hfirst, hzones, hbeat, hmode, hpeers, hfaults⟩ :=
      restAfter_took (k := k) (curtainTook_change hpc (new := .raising) rfl .warningDone)
    refine ⟨_, hrow, rfl, rfl, hcurtain, ?_, hzones, hbeat, hmode, hpeers, hfaults⟩
    rw [← hst]
    exact hfirst

end Sys2Proof.Machine
end

section
/-! PROOFS. The supervision of a descent at a sample event (07 section 7.2). -/

namespace Sys2Proof.Machine

variable {s t : State}

/-! ## The reading, the travel and the branches of the judgement (R118 to R121) -/

theorem pushReading_getLastD (r : Nat) (rs : List Nat) : (pushReading r rs).getLastD 0 = r := by
  unfold pushReading
  split <;> simp

/-- R119: 16-bit counts are compared as a signed difference. -/
theorem travelBetween_movement (a b : Nat) : travelBetween .movement a b = Int.bmod ((a : Int) - b) 65536 := by
  simp only [travelBetween, Int.bmod]
  split <;> split <;> omega

/-- R120: a stall below its limit is counted. -/
theorem judgeDescent_counts {st : CurtainState} {d : Descent} (h : (d.sample s.curtain).travelled ≤ 0)
    (hlt : d.stallCount + 1 < s.cfg.stallLimit) :
    judgeDescent st d s = setDescent { d.sample s.curtain with stallCount := d.stallCount + 1 } s := by
  have hmin : min s.cfg.stallLimit ((d.sample s.curtain).stallCount + 1) = d.stallCount + 1 := Nat.min_eq_right hlt.le
  simp only [judgeDescent]
  rw [if_pos h, hmin, if_neg (fun hc => absurd hc.2 (Nat.ne_of_lt hlt))]

/-- R120: the stall that reaches its limit. -/
theorem judgeDescent_stalls {st : CurtainState} {d : Descent} (h : (d.sample s.curtain).travelled ≤ 0)
    (hlt : d.stallCount < s.cfg.stallLimit) (hge : s.cfg.stallLimit ≤ d.stallCount + 1) :
    judgeDescent st d s = descentStall st { d.sample s.curtain with stallCount := s.cfg.stallLimit } s := by
  have hmin : min s.cfg.stallLimit ((d.sample s.curtain).stallCount + 1) = s.cfg.stallLimit := Nat.min_eq_left hge
  simp only [judgeDescent]
  rw [if_pos h, hmin, if_pos ⟨hlt, rfl⟩]

/-- R120: a stall that stands at its limit is not reported again. -/
theorem judgeDescent_stands {st : CurtainState} {d : Descent} (h : (d.sample s.curtain).travelled ≤ 0)
    (heq : d.stallCount = s.cfg.stallLimit) :
    judgeDescent st d s = setDescent { d.sample s.curtain with stallCount := s.cfg.stallLimit } s := by
  have hmin : min s.cfg.stallLimit ((d.sample s.curtain).stallCount + 1) = s.cfg.stallLimit :=
    Nat.min_eq_left (heq ▸ Nat.le_succ d.stallCount)
  simp only [judgeDescent]
  rw [if_pos h, hmin, if_neg (fun hc => absurd hc.1 (heq ▸ Nat.lt_irrefl _))]

/-- R120, R121: downward travel ends the stall, and position units are projected. -/
theorem judgeDescent_moves {st : CurtainState} {d : Descent} (h : 0 < (d.sample s.curtain).travelled) :
    judgeDescent st d s =
      if d.kind = .position then projectDescent st { d.sample s.curtain with stallCount := 0 } s
      else setDescent { d.sample s.curtain with stallCount := 0 } s := by
  simp only [judgeDescent]
  rw [if_neg (Int.not_le.2 h)]
  rfl

/-! ## What a report of the descent leaves (R120 to R122) -/

/-- A stall or a lateness r has been reported first and CURTAIN_FAULT set, with curtain record c. -/
structure DescentReported (s : State) (r : Report) (c : CurtainRecord) (t : State) : Prop where
  curtain : t.curtain = c
  report : FirstReport s r t
  faults : t.faults = { s.faults with curtain := true }
  config : t.config = s.config
  others : t.zones = s.zones ∧ t.beat = s.beat ∧ t.mode = s.mode ∧ t.pins = s.pins

/-- R113, R122: CURTAIN_FAULT entered after m, which the curtain's moves have made of s. -/
theorem descentReported_fault {m : State} {r : Report} (hs : s.condition = s.computedCondition)
    (hgrows : PanelGrows (report r s).panel m.panel) (hcond : m.condition = s.condition) (hpeers : m.peers = s.peers)
    (hconfig : m.config = s.config) (hfaults : ∃ f, m.faults = { s.faults with curtain := f })
    (hsame : m.zones = s.zones ∧ m.beat = s.beat ∧ m.mode = s.mode ∧ m.pins = s.pins) :
    DescentReported s r m.curtain (afterCurtain s (putCurtainFault true m)) := by
  obtain ⟨hzones, hbeat, hmode, hpins⟩ := hsame
  obtain ⟨f, hf⟩ := hfaults
  have hput := putCurtainFault_faults true m
  have hpanel := afterCurtain_grows s _ _ (putCurtainFault_grows m _ true hgrows)
  have hafter := afterCurtain_eq (t := putCurtainFault true m) hs (by simp [hcond]) (by simp [hconfig]) (by simp [hzones])
    (by simp [hpeers])
  generalize hu : afterCurtain s (putCurtainFault true m) = u at *
  rw [hafter]
  exact {
    curtain := by simp
    report := FirstReport.of_grows hpanel
    faults := by simp [hput, hf]
    config := by simp [hconfig]
    others := by simp [hzones, hbeat, hmode, hpins] }

/-- R120, R122: a stall jams a lowering and is reported alone in a drop. -/
theorem descentStall_reported {st : CurtainState} (x : Descent) (hs : s.condition = s.computedCondition) :
    DescentReported s (.descentStalled st x.t x.kind (x.readings.getLastD 0) x.travelled x.span x.stallCount)
      (if st = .lowering then { curtainRecordAfter .jammed { s.curtain with descent := some x } with stalledNow := true }
        else { s.curtain with descent := some x }) (descentStall st x s) := by
  simp only [descentStall]
  generalize Report.descentStalled st x.t x.kind (x.readings.getLastD 0) x.travelled x.span x.stallCount = r
  split
  · have htook := curtainTook_change (s := report r (setDescent x s)) (new := .jammed) hs rfl .descentStalled
    have hgrows : PanelGrows (report r s).panel (curtainChange .jammed .descentStalled (report r (setDescent x s))).panel :=
      curtainChange_grows _ _ _ _ (PanelGrows.refl _)
    obtain ⟨-, hmode, hconfig, -, -, -, -, hbeat, hzones, hpins, -⟩ := htook.others
    have hcurtain := htook.curtain
    have hfaults := htook.faults
    unfold stallJam
    generalize curtainChange .jammed .descentStalled (report r (setDescent x s)) = u at *
    exact {
      curtain := by
        show ({ u.curtain with stalledNow := u.curtain.state == some .jammed } : CurtainRecord) = _
        rw [hcurtain]
        rfl
      report := FirstReport.of_grows hgrows
      faults := hfaults
      config := hconfig
      others := ⟨hzones, hbeat, hmode, hpins⟩ }
  · exact descentReported_fault (m := report r (setDescent x s)) hs (PanelGrows.refl _) rfl rfl rfl ⟨_, rfl⟩ ⟨rfl, rfl, rfl, rfl⟩

/-- R121, R122: a late lowering is dropped, or at the floor it is down, and a late drop goes on. -/
theorem descentTooLate_reported {st : CurtainState} (x : Descent) (p need : Nat) (hs : s.condition = s.computedCondition) :
    DescentReported s (.descentLate st x.t p x.span x.travelled need)
      (if st = .lowering then
        (if s.pins.bottomLimit then
          curtainRecordAfter .down { s.curtain with descent := some { x with lateReported := true }, pos := 0, known := true }
        else curtainRecordAfter .dropping { s.curtain with descent := some { x with lateReported := true } })
      else { s.curtain with descent := some { x with lateReported := true } }) (descentTooLate st x p need s) := by
  simp only [descentTooLate]
  generalize Report.descentLate st x.t p x.span x.travelled need = r
  generalize hb : report r (setDescent { x with lateReported := true } s) = b
  have hgrows : PanelGrows (report r s).panel b.panel := by rw [← hb]; exact PanelGrows.refl _
  split
  · obtain ⟨-, hmode, hconfig, -, -, -, hpeers, hcond, hbeat, hzones, hpins, -⟩ := curtainGo_frame b .dropping .descentLate
    have hcurtain : (curtainGo .dropping .descentLate b).curtain = if s.pins.bottomLimit then
          curtainRecordAfter .down { s.curtain with descent := some { x with lateReported := true }, pos := 0, known := true }
        else curtainRecordAfter .dropping { s.curtain with descent := some { x with lateReported := true } } := by
      rw [curtainGo, ← hb]
      show (if s.pins.bottomLimit = true then _ else _ : State).curtain = _
      split <;> rw [curtainMove_curtain] <;> rfl
    have hfaults : ∃ f, (curtainGo .dropping .descentLate b).faults = { b.faults with curtain := f } := by
      unfold curtainGo
      split <;> exact ⟨_, curtainMove_faults _ _ _⟩
    have hkeeps := curtainGo_grows b _ .dropping .descentLate hgrows
    generalize curtainGo .dropping .descentLate b = m at *
    subst hb
    rw [← hcurtain]
    exact descentReported_fault hs hkeeps hcond hpeers hconfig hfaults ⟨hzones, hbeat, hmode, hpins⟩
  · subst hb
    exact descentReported_fault (m := report r _) hs hgrows rfl rfl rfl ⟨_, rfl⟩ ⟨rfl, rfl, rfl, rfl⟩

/-! ## The handshake beside the descent (R108, R109, log 10) -/

/-- The drive handshake after a sample at which it makes no fault. -/
def shakenHandshake (moving : Bool) : Handshake → Handshake
  | .start n => if moving then .running else .start (n + 1)
  | h => h

/-- The drive handshake makes no fault at a sample, and does not wait for the drive to stop. -/
def HandshakeCalm (moving : Bool) (timeout : Nat) (h : Handshake) : Prop :=
  h = .idle ∨ (h = .running ∧ moving = true) ∨ ∃ n, h = .start n ∧ (moving = true ∨ n + 1 < timeout)

theorem judgeHandshake_calm {moving : Bool} (h : HandshakeCalm moving s.cfg.startTimeout s.curtain.handshake) :
    judgeHandshake moving s = setHandshake (shakenHandshake moving s.curtain.handshake) s := by
  have hkeep {h : Handshake} (hh : s.curtain.handshake = h) : s = setHandshake h s := by rw [← hh]; rfl
  rcases h with hh | ⟨hh, hm⟩ | ⟨n, hh, hm⟩
  · rw [judgeHandshake, hh]
    exact hkeep hh
  · rw [judgeHandshake, hh, hm]
    exact hkeep hh
  · rw [judgeHandshake, hh]
    cases moving with
    | true => rfl
    | false =>
      have hlt : n + 1 < s.cfg.startTimeout := hm.resolve_left (by simp)
      dsimp only
      rw [if_neg (by simp), if_neg (Nat.not_le.2 hlt)]
      rfl

theorem judgeHandshake_idle {moving : Bool} (h : s.curtain.handshake = .idle) : judgeHandshake moving s = s := by
  rw [judgeHandshake, h]

/-- R114: the two judgements of a sample event whose handshake is calm, in either order. -/
theorem sampleEvent_calm {inputs : SampleInputs} {st : CurtainState} {d : Descent} (hw : s.working = true)
    (hz : ∀ z ∈ s.zones, z.enabled = false) (hst : s.curtain.state = some st) (hd : s.curtain.descent = some d)
    (hcalm : HandshakeCalm inputs.driveMoving s.cfg.startTimeout s.curtain.handshake) :
    exec (.sampleEvent inputs) s = .next (if inputs.handshakeFirst then
        judgeDescent st d (setHandshake (shakenHandshake inputs.driveMoving s.curtain.handshake) (markStalled false s))
      else judgeHandshake inputs.driveMoving (judgeDescent st d (markStalled false s))) := by
  have hsample (u : State) (hu : u.curtain.state = s.curtain.state) (hud : u.curtain.descent = s.curtain.descent) :
      sampleDescent true u = judgeDescent st d u := by
    rw [sampleDescent, hu, hud, hst, hd]
    rfl
  rw [exec_sampleEvent, whileWorking, if_pos hw, sampleEvent_disabled inputs hz, hd, curtainSample, Option.isSome_some,
    hsample (markStalled false s) rfl rfl, judgeHandshake_calm (s := markStalled false s) hcalm]
  split
  · exact congrArg Host.Outcome.next (hsample _ rfl rfl)
  · rfl

/-- A judgement that reports nothing stores its record beside the handshake. -/
theorem sampleEvent_holds {inputs : SampleInputs} {st : CurtainState} {d x : Descent} (hw : s.working = true)
    (hz : ∀ z ∈ s.zones, z.enabled = false) (hst : s.curtain.state = some st) (hd : s.curtain.descent = some d)
    (hcalm : HandshakeCalm inputs.driveMoving s.cfg.startTimeout s.curtain.handshake)
    (hjudge : ∀ h, judgeDescent st d (setHandshake h (markStalled false s)) = setDescent x (setHandshake h (markStalled false s))) :
    exec (.sampleEvent inputs) s = .next { s with curtain := { s.curtain with
      handshake := shakenHandshake inputs.driveMoving s.curtain.handshake, stalledNow := false, descent := some x } } := by
  have hbase : judgeDescent st d (markStalled false s) = setDescent x (markStalled false s) := hjudge s.curtain.handshake
  rw [sampleEvent_calm hw hz hst hd hcalm, hjudge, hbase,
    judgeHandshake_calm (s := setDescent x (markStalled false s)) hcalm]
  split <;> rfl

/-- R113: with CURTAIN_FAULT in the set the handshake changes no fault. -/
theorem judgeHandshake_faults {moving : Bool} (h : s.faults.curtain = true) : (judgeHandshake moving s).faults = s.faults := by
  have hjam (cause : CurtainCause) : (curtainChange .jammed cause s).faults = s.faults := by
    have hmove : (curtainMove .jammed cause s).faults = s.faults := by
      rw [curtainMove_faults, show curtainFaultAfter s.curtain.state .jammed s.faults.curtain = s.faults.curtain from h.symm]
    rw [curtainChange, curtainGo, if_neg (by simp [goesDown]), afterCurtain, if_pos hmove, hmove]
  unfold judgeHandshake
  repeat' split
  all_goals simp [hjam]

/-- A judgement that reports, with the curtain record c that it makes of the one it finds. -/
theorem sampleEvent_reported {inputs : SampleInputs} {st : CurtainState} {d : Descent} {r : Report}
    (c : CurtainRecord → CurtainRecord) (hw : s.working = true) (hz : ∀ z ∈ s.zones, z.enabled = false)
    (hst : s.curtain.state = some st) (hd : s.curtain.descent = some d)
    (hcalm : HandshakeCalm inputs.driveMoving s.cfg.startTimeout s.curtain.handshake)
    (hjudge : ∀ h, DescentReported (setHandshake h (markStalled false s)) r
      (c { s.curtain with handshake := h, stalledNow := false }) (judgeDescent st d (setHandshake h (markStalled false s)))) :
    ∃ t, exec (.sampleEvent inputs) s = .next t ∧ FirstReport s r t ∧ t.faults = { s.faults with curtain := true }
      ∧ (t.zones = s.zones ∧ t.beat = s.beat ∧ t.mode = s.mode ∧ t.pins = s.pins)
      ∧ (t.curtain = c { s.curtain with
            handshake := shakenHandshake inputs.driveMoving s.curtain.handshake, stalledNow := false }
        ∨ ∃ u : State, u.curtain = c { s.curtain with stalledNow := false } ∧ u.cfg = s.cfg
            ∧ t.curtain = (judgeHandshake inputs.driveMoving u).curtain) := by
  rw [sampleEvent_calm hw hz hst hd hcalm]
  cases inputs.handshakeFirst with
  | true =>
    have hj := hjudge (shakenHandshake inputs.driveMoving s.curtain.handshake)
    exact ⟨_, rfl, hj.report, hj.faults, hj.others, .inl hj.curtain⟩
  | false =>
    have hj : DescentReported (markStalled false s) r (c { s.curtain with stalledNow := false })
      (judgeDescent st d (markStalled false s)) := hjudge s.curtain.handshake
    generalize judgeDescent st d (markStalled false s) = u at hj
    obtain ⟨-, hmode, -, -, -, -, -, hbeat, hzones, hpins, -⟩ := judgeHandshake_frame u inputs.driveMoving
    obtain ⟨hzones', hbeat', hmode', hpins'⟩ := hj.others
    refine ⟨_, rfl, hj.report.of_later (judgeHandshake_grows _ _ _ (PanelGrows.refl _)), ?_,
      ⟨hzones.trans hzones', hbeat.trans hbeat', hmode.trans hmode', hpins.trans hpins'⟩,
      .inr ⟨u, hj.curtain, by rw [State.cfg, hj.config]; rfl, rfl⟩⟩
    exact (judgeHandshake_faults (by rw [hj.faults])).trans hj.faults

/-! ## The judgements that report, at a sample event -/

section
variable {inputs : SampleInputs} {st : CurtainState} {d x : Descent}

/-- R120, R122: a stall that reaches its limit at a sample event. -/
theorem sampleEvent_stalls (hw : s.working = true) (hc : ConditionLaw s) (hz : ∀ z ∈ s.zones, z.enabled = false)
    (hst : s.curtain.state = some st) (hd : s.curtain.descent = some d)
    (hcalm : HandshakeCalm inputs.driveMoving s.cfg.startTimeout s.curtain.handshake) (hx : d.sample s.curtain = x)
    (ht : x.travelled ≤ 0) (hlt : d.stallCount < s.cfg.stallLimit) (hge : s.cfg.stallLimit ≤ d.stallCount + 1) :
    ∃ t, exec (.sampleEvent inputs) s = .next t
      ∧ FirstReport s (.descentStalled st x.t x.kind (x.readings.getLastD 0) x.travelled x.span s.cfg.stallLimit) t
      ∧ t.faults = { s.faults with curtain := true }
      ∧ (t.zones = s.zones ∧ t.beat = s.beat ∧ t.mode = s.mode ∧ t.pins = s.pins)
      ∧ t.curtain = (if st = .lowering then { curtainRecordAfter .jammed s.curtain with stalledNow := true }
          else { s.curtain with
            handshake := shakenHandshake inputs.driveMoving s.curtain.handshake, stalledNow := false
            descent := some { x with stallCount := s.cfg.stallLimit } }) := by
  have hjudge (h : Handshake) : DescentReported (setHandshake h (markStalled false s))
      (.descentStalled st x.t x.kind (x.readings.getLastD 0) x.travelled x.span s.cfg.stallLimit)
      (if st = .lowering then { curtainRecordAfter .jammed s.curtain with stalledNow := true }
        else { s.curtain with handshake := h, stalledNow := false, descent := some { x with stallCount := s.cfg.stallLimit } })
      (judgeDescent st d (setHandshake h (markStalled false s))) := by
    have hsample : d.sample (setHandshake h (markStalled false s)).curtain = x := hx
    rw [judgeDescent_stalls (s := setHandshake h (markStalled false s)) (by rw [hsample]; exact ht) hlt hge, hsample]
    exact descentStall_reported (s := setHandshake h (markStalled false s)) { x with stallCount := s.cfg.stallLimit } (hc hw)
  by_cases hlow : st = .lowering
  · simp only [if_pos hlow] at hjudge ⊢
    obtain ⟨t, hrow, hfirst, hfaults, hsame, hcurtain⟩ := sampleEvent_reported
      (fun _ => { curtainRecordAfter .jammed s.curtain with stalledNow := true }) hw hz hst hd hcalm hjudge
    refine ⟨t, hrow, hfirst, hfaults, hsame, hcurtain.elim id ?_⟩
    rintro ⟨u, hu, -, ht⟩
    rw [ht, judgeHandshake_idle (by rw [hu]; rfl), hu]
  · simp only [if_neg hlow] at hjudge ⊢
    obtain ⟨t, hrow, hfirst, hfaults, hsame, hcurtain⟩ := sampleEvent_reported
      (fun c => { c with descent := some { x with stallCount := s.cfg.stallLimit } }) hw hz hst hd hcalm hjudge
    refine ⟨t, hrow, hfirst, hfaults, hsame, hcurtain.elim id ?_⟩
    rintro ⟨u, hu, hcfg, ht⟩
    rw [ht, judgeHandshake_calm (by rw [hu, hcfg]; exact hcalm), setHandshake_curtain, hu]

/-- The record of a descent whose lateness is reported. -/
def Descent.late (x : Descent) : Descent := { x with stallCount := 0, lateReported := true }

/-- R121, R122: a descent that is late at a sample event. -/
theorem sampleEvent_late {need : Nat} (hw : s.working = true) (hc : ConditionLaw s) (hz : ∀ z ∈ s.zones, z.enabled = false)
    (hst : s.curtain.state = some st) (hd : s.curtain.descent = some d)
    (hcalm : HandshakeCalm inputs.driveMoving s.cfg.startTimeout s.curtain.handshake)
    (hjudge : ∀ h, judgeDescent st d (setHandshake h (markStalled false s))
      = descentTooLate st { x with stallCount := 0 } (x.readings.getLastD 0) need (setHandshake h (markStalled false s)))
    (hstd : st = .lowering ∨ st = .dropping) :
    ∃ t, exec (.sampleEvent inputs) s = .next t
      ∧ FirstReport s (.descentLate st x.t (x.readings.getLastD 0) x.span x.travelled need) t
      ∧ t.faults = { s.faults with curtain := true }
      ∧ (t.zones = s.zones ∧ t.beat = s.beat ∧ t.mode = s.mode ∧ t.pins = s.pins)
      ∧ (st = .dropping → t.curtain = { s.curtain with
          handshake := shakenHandshake inputs.driveMoving s.curtain.handshake, stalledNow := false, descent := some x.late })
      ∧ (st = .lowering → s.pins.bottomLimit = false →
          t.curtain = { curtainRecordAfter .dropping s.curtain with descent := some x.late })
      ∧ (st = .lowering → s.pins.bottomLimit = true → 2 ≤ s.cfg.startTimeout → t.curtain.state = some .down ∧ t.curtain.pos = 0
          ∧ t.curtain.known = true ∧ t.curtain.descent = none) := by
  have hlate (h : Handshake) : DescentReported (setHandshake h (markStalled false s))
      (.descentLate st x.t (x.readings.getLastD 0) x.span x.travelled need)
      (if st = .lowering then
        (if s.pins.bottomLimit then curtainRecordAfter .down { s.curtain with descent := some x.late, pos := 0, known := true }
        else { curtainRecordAfter .dropping s.curtain with descent := some x.late })
      else { s.curtain with handshake := h, stalledNow := false, descent := some x.late })
      (judgeDescent st d (setHandshake h (markStalled false s))) := by
    have := descentTooLate_reported (s := setHandshake h (markStalled false s)) (st := st) { x with stallCount := 0 }
      (x.readings.getLastD 0) need (hc hw)
    rw [hjudge]
    refine ⟨this.curtain.trans ?_, this.report, this.faults, this.config, this.others⟩
    by_cases hlow : st = .lowering
    · rw [if_pos hlow, if_pos hlow]
      show (if s.pins.bottomLimit = true then _ else _) = _
      split <;> simp [curtainRecordAfter, descentAfter, handshakeAfter, hst, hlow, isDriven, isDescent, Descent.late]
    · rw [if_neg hlow, if_neg hlow]
      rfl
  have htook := sampleEvent_reported (fun c => if st = .lowering then
        (if s.pins.bottomLimit then curtainRecordAfter .down { s.curtain with descent := some x.late, pos := 0, known := true }
        else { curtainRecordAfter .dropping s.curtain with descent := some x.late })
      else { c with descent := some x.late }) hw hz hst hd hcalm hlate
  obtain ⟨t, hrow, hfirst, hfaults, hsame, hcurtain⟩ := htook
  refine ⟨t, hrow, hfirst, hfaults, hsame, ?_, ?_, ?_⟩
  · rintro rfl
    simp only [reduceCtorEq, if_false] at hcurtain
    refine hcurtain.elim id ?_
    rintro ⟨u, hu, hcfg, ht⟩
    rw [ht, judgeHandshake_calm (by rw [hu, hcfg]; exact hcalm), setHandshake_curtain, hu]
  · rintro rfl hb
    simp only [if_true, hb, Bool.false_eq_true, if_false] at hcurtain
    refine hcurtain.elim id ?_
    rintro ⟨u, hu, -, ht⟩
    rw [ht, judgeHandshake_idle (by rw [hu]; rfl), hu]
  · rintro rfl hb htimeout
    simp only [if_true, hb] at hcurtain
    rcases hcurtain with hcurtain | ⟨u, hu, hcfg, ht⟩
    · rw [hcurtain]
      exact ⟨rfl, rfl, rfl, rfl⟩
    · have hstop : u.curtain.handshake = .stop 0 := by
        rw [hu]
        simp [curtainRecordAfter, handshakeAfter, hst, isDriven]
      have hkeeps : ∃ h, judgeHandshake inputs.driveMoving u = setHandshake h u := by
        rw [judgeHandshake, hstop]
        dsimp only
        split
        · exact ⟨_, rfl⟩
        · exact ⟨_, if_neg (by rw [hcfg]; omega)⟩
      obtain ⟨h, hh⟩ := hkeeps
      rw [ht, hh, setHandshake_curtain, hu]
      exact ⟨rfl, rfl, rfl, rfl⟩

end

/-! ## The obligation -/

/-- R108, R114: a handshake judged first that jams a lowering leaves no record to judge. -/
theorem sampleEvent_jams {inputs : SampleInputs} {d : Descent} {cause : CurtainCause} (hw : s.working = true)
    (hc : ConditionLaw s) (hz : ∀ z ∈ s.zones, z.enabled = false) (hd : s.curtain.descent = some d)
    (hfirst : inputs.handshakeFirst = true) (hj : judgeHandshake inputs.driveMoving (markStalled false s)
      = curtainChange .jammed cause (markStalled false s)) :
    ∃ t, exec (.sampleEvent inputs) s = .next t ∧ CurtainTook s .jammed (curtainRecordAfter .jammed s.curtain) cause t := by
  have htook : CurtainTook s .jammed (curtainRecordAfter .jammed s.curtain) cause (curtainChange .jammed cause (markStalled false s)) :=
    curtainTook_change_from (c := { s.curtain with stalledNow := false }) (hc hw) rfl rfl cause
  have hnone (u : State) (hu : u.curtain.descent = none) : sampleDescent true u = u := by
    unfold sampleDescent
    split
    · next h => rw [hu] at h; cases h
    · rfl
  refine ⟨_, ?_, htook⟩
  rw [exec_sampleEvent, whileWorking, if_pos hw, sampleEvent_disabled inputs hz, hd, curtainSample, if_pos hfirst, hj,
    Option.isSome_some, hnone _ (by rw [htook.curtain]; rfl)]

/-- The reading, the travel and the record that the obligation writes out are those of the sample. -/
theorem sample_eq (d : Descent) (c : CurtainRecord) :
    (d.sample c).readings.getLastD 0 = presentReading c d.kind
      ∧ (d.sample c).travelled = (match d.kind with
          | .position => (((d.sample c).readings.headD 0 : Nat) : Int) - presentReading c d.kind
          | .movement => Int.bmod ((((d.sample c).readings.headD 0 : Nat) : Int) - presentReading c d.kind) 65536) := by
  have hlast : (d.sample c).readings.getLastD 0 = presentReading c d.kind := pushReading_getLastD _ _
  refine ⟨hlast, ?_⟩
  rw [Descent.travelled, hlast]
  show travelBetween d.kind _ _ = _
  cases d.kind with
  | position => rfl
  | movement => exact travelBetween_movement _ _

/-- Settles O42: the travel over the span decides between the stall count, the projection and neither, and the
handshake is judged beside it. -/
theorem descentIsSupervised : Obligations.DescentIsSupervised := by
  intro s inputs st d hw hc hz hst hstd hd calm shaken reading list span travelled sampled stalled moving need judged
    holds stallReported jams
  have hshaken : shaken = shakenHandshake inputs.driveMoving s.curtain.handshake := by
    simp only [shaken]
    cases s.curtain.handshake <;> rfl
  have hcalm (h : calm) : HandshakeCalm inputs.driveMoving s.cfg.startTimeout s.curtain.handshake := by
    simp only [calm] at h
    cases hh : s.curtain.handshake with
    | idle => exact .inl rfl
    | running => exact .inr (.inl ⟨rfl, by rwa [hh] at h⟩)
    | start n => exact .inr (.inr ⟨n, rfl, by rwa [hh] at h⟩)
    | stop n => rw [hh] at h; exact h.elim
  have hreading : presentReading s.curtain d.kind = reading := by
    simp only [reading]
    cases d.kind <;> rfl
  have hsampled : d.sample s.curtain = sampled := by
    rw [Descent.sample, hreading]
    rfl
  obtain ⟨hlast, htravel⟩ := sample_eq d s.curtain
  rw [hsampled, hreading] at hlast htravel
  replace htravel : sampled.travelled = travelled := htravel
  have hspan : sampled.span = span := rfl
  have hkind : sampled.kind = d.kind := rfl
  have hstall : sampled.stallCount = d.stallCount ∧ sampled.lateReported = d.lateReported := ⟨rfl, rfl⟩
  have hneed : projectedNeed reading span travelled.toNat = need := rfl
  clear_value calm shaken need travelled span reading
  subst hshaken
  have hsample (h : Handshake) : d.sample (setHandshake h (markStalled false s)).curtain = sampled := hsampled
  clear_value sampled
  clear hreading list
  have hprojects (u : State) (hu : u.cfg = s.cfg) : projectDescent st moving u =
      if s.cfg.descentLimit < sampled.t + need ∧ d.lateReported = false then descentTooLate st moving reading need u
      else setDescent moving u := by
    simp only [projectDescent]
    rw [hu, show moving.readings.getLastD 0 = reading from hlast, show moving.travelled = travelled from htravel,
      show moving.span = span from hspan, hneed, show moving.lateReported = d.lateReported from hstall.2]
  have hholds {x : Descent} (h : calm) (hjudge : ∀ h, judgeDescent st d (setHandshake h (markStalled false s))
      = setDescent x (setHandshake h (markStalled false s))) : holds x := sampleEvent_holds hw hz hst hd (hcalm h) hjudge
  refine ⟨fun h ht hlt => hholds h fun h' => ?counts, fun h ht hlt hge => ?stall, fun h ht heq => hholds h fun h' => ?stands,
    fun h ht hk => hholds h fun h' => ?travels, fun h ht hk hin => hholds h fun h' => ?intime,
    fun h ht hk hlate hnew => ?late, fun hlow hfirst hmove => ?jam, fun ht hlt => ?row, fun hno => ?norow⟩
  case counts =>
    rw [judgeDescent_counts (s := setHandshake h' (markStalled false s)) (by rw [hsample, htravel]; exact ht) hlt, hsample]
  case stands =>
    rw [judgeDescent_stands (s := setHandshake h' (markStalled false s)) (by rw [hsample, htravel]; exact ht) heq, hsample]
    rfl
  case travels =>
    rw [judgeDescent_moves (by rw [hsample, htravel]; exact ht), if_neg (by rw [hk]; decide), hsample]
  case intime =>
    rw [judgeDescent_moves (by rw [hsample, htravel]; exact ht), if_pos hk, hsample]
    refine (hprojects (setHandshake h' (markStalled false s)) rfl).trans (if_neg ?_)
    rintro ⟨hlt, hnot⟩
    exact hin.elim (fun hle => absurd hlt (Nat.not_lt.2 hle)) (fun hr => by simp [hr] at hnot)
  case stall =>
    have hstalls := sampleEvent_stalls hw hc hz hst hd (hcalm h) hsampled (htravel.trans_le ht) hlt hge
    obtain ⟨t, hrow, hfirst, hfaults, ⟨hzones, hbeat, hmode, hpins⟩, hcurtain⟩ := hstalls
    rw [hlast, htravel, hspan, hkind] at hfirst
    exact ⟨t, hrow, hfirst, hfaults, hcurtain, hzones, hbeat, hmode, hpins⟩
  case late =>
    have hlates := sampleEvent_late (x := sampled) (need := need) hw hc hz hst hd (hcalm h) (fun h' => by
      rw [judgeDescent_moves (by rw [hsample, htravel]; exact ht), if_pos hk, hsample, hlast]
      exact (hprojects (setHandshake h' (markStalled false s)) rfl).trans (if_pos ⟨hlate, hnew⟩)) hstd
    rw [hlast, htravel, hspan] at hlates
    obtain ⟨t, hrow, hfirst, hfaults, ⟨hzones, hbeat, hmode, hpins⟩, hdrop, hlower, hfloor⟩ := hlates
    exact ⟨t, hrow, hfirst, hfaults, hdrop, hlower, hfloor, hzones, hbeat, hmode, hpins⟩
  case jam =>
    subst hlow
    refine ⟨fun hh => sampleEvent_jams hw hc hz hd hfirst ?_, fun n hh hge => sampleEvent_jams hw hc hz hd hfirst ?_⟩
    · rw [judgeHandshake, show (markStalled false s).curtain.handshake = .running from hh]
      exact if_pos ⟨hmove, isDriven_iff.2 (.inr hst)⟩
    · rw [judgeHandshake, show (markStalled false s).curtain.handshake = .start n from hh]
      exact (if_neg (by rw [hmove]; decide)).trans (if_pos hge)
  case row =>
    have hrow : exec .descentStalled s = .next (descentStall st stalled s) := by
      rw [exec_descentStalled, whileWorking, if_pos hw, stallNow, hst, hd]
      dsimp only
      rw [hsampled, if_pos ⟨htravel.trans_le ht, hlt⟩]
    have hj := descentStall_reported (st := st) stalled (hc hw)
    rw [show stalled.readings.getLastD 0 = reading from hlast, show stalled.travelled = travelled from htravel,
      show stalled.span = span from hspan, show stalled.kind = d.kind from hkind] at hj
    obtain ⟨hzones, hbeat, hmode, hpins⟩ := hj.others
    refine ⟨_, hrow, hj.report, hj.faults, hj.curtain.trans ?_, hzones, hbeat, hmode, hpins⟩
    rcases hstd with rfl | rfl <;> rfl
  case norow =>
    rw [exec_descentStalled, whileWorking, if_pos hw, stallNow, hst, hd]
    dsimp only
    rw [hsampled, if_neg]
    rintro ⟨hle, hlt⟩
    rw [htravel] at hle
    exact hno.elim (fun h => absurd h (Int.not_lt.2 hle)) (fun h => absurd hlt (Nat.not_lt.2 h))

end Sys2Proof.Machine
end

section
/-! PROOFS. The check and the bytes of a line frame (02 sections 2.3 and 2.4, 12 sections 12.1 and 12.2). -/

namespace Sys2Proof

/-! ## The check is linear (R179) -/

/-- R179: the register is linear in itself and in the bit. -/
theorem crcBit_xor (r x : BitVec 16) (a b : Bool) : crcBit (r ^^^ x) (a ^^ b) = crcBit r a ^^^ crcBit x b := by
  have hmsb : ((r ^^^ x).msb != (a ^^ b)) = ((r.msb != a) ^^ (x.msb != b)) := by
    rw [BitVec.msb_xor]
    cases r.msb <;> cases x.msb <;> cases a <;> cases b <;> rfl
  have hcancel (y z c : BitVec 16) : y ^^^ c ^^^ (z ^^^ c) = y ^^^ z := by
    rw [BitVec.xor_comm z c, BitVec.xor_assoc, ← BitVec.xor_assoc c c z, BitVec.xor_self, BitVec.zero_xor]
  unfold crcBit
  rw [hmsb, BitVec.shiftLeft_xor_distrib]
  cases (r.msb != a) <;> cases (x.msb != b)
  · simp
  · simp [BitVec.xor_assoc]
  · simp only [if_true, Bool.xor_false, Bool.false_eq_true, if_false]
    rw [BitVec.xor_assoc, BitVec.xor_assoc, BitVec.xor_comm 0x1021#16]
  · simp [hcancel]

theorem crcByte_xor (r x : BitVec 16) (b c : Byte) : crcByte (r ^^^ x) (b ^^^ c) = crcByte r b ^^^ crcByte x c := by
  have hfold (is : List Nat) : ∀ r x : BitVec 16,
      is.foldl (fun r i => crcBit r ((b ^^^ c).getLsbD i)) (r ^^^ x)
        = is.foldl (fun r i => crcBit r (b.getLsbD i)) r ^^^ is.foldl (fun r i => crcBit r (c.getLsbD i)) x := by
    induction is with
    | nil => intro r x; rfl
    | cons i is ih =>
      intro r x
      rw [List.foldl_cons, List.foldl_cons, List.foldl_cons, BitVec.getLsbD_xor, crcBit_xor, ih]
  exact hfold _ r x

/-- R179: the feedback constant is odd, so that a register other than 0 never shifts to 0. -/
theorem crcBit_eq_zero {x : BitVec 16} (h : crcBit x false = 0) : x = 0 := by
  have hshift : (x <<< 1).toNat = x.toNat * 2 % 65536 := by simp [BitVec.toNat_shiftLeft, Nat.shiftLeft_eq]
  have hmsb := BitVec.msb_eq_decide x
  unfold crcBit at h
  split at h
  · have hodd : x <<< 1 = 0x1021#16 := by
      have := congrArg (· ^^^ 0x1021#16) h
      simpa [BitVec.xor_assoc] using this
    have := congrArg BitVec.toNat hodd
    rw [hshift] at this
    simp at this
    omega
  · next hno =>
    have hlow : x.toNat < 32768 := by
      rw [Bool.bne_false, hmsb] at hno
      simpa using hno
    have := congrArg BitVec.toNat h
    rw [hshift] at this
    exact BitVec.eq_of_toNat_eq (by simp at this ⊢; omega)

theorem crcByte_zero_eq_zero {x : BitVec 16} (h : crcByte x 0#8 = 0#16) : x = 0 := by
  have hfold : ∀ (is : List Nat) (x : BitVec 16), is.foldl (fun r i => crcBit r ((0#8).getLsbD i)) x = 0 → x = 0 := by
    intro is
    induction is with
    | nil => exact fun _ h => h
    | cons i is ih =>
      intro x h
      refine crcBit_eq_zero (ih _ ?_)
      simpa using h
  exact hfold _ x h

/-- A byte other than 0 leaves the register at 0 changed. -/
theorem crcByte_of_zero {d : Byte} (h : crcByte 0#16 d = 0#16) : d = 0 := by
  have hall : ∀ n < 256, crcByte 0#16 (BitVec.ofNat 8 n) = 0#16 → n = 0 := by decide +kernel
  have := hall d.toNat d.isLt (by rwa [BitVec.ofNat_toNat, BitVec.setWidth_eq])
  exact BitVec.eq_of_toNat_eq this

theorem crcByte_injective_reg {r x : BitVec 16} {b : Byte} (h : crcByte r b = crcByte x b) : r = x := by
  have hzero := crcByte_xor r x b b
  rw [h, BitVec.xor_self, BitVec.xor_self] at hzero
  exact BitVec.xor_eq_zero_iff.1 (crcByte_zero_eq_zero hzero)

theorem crcByte_injective_byte {r : BitVec 16} {b c : Byte} (h : crcByte r b = crcByte r c) : b = c := by
  have hzero := crcByte_xor r r b c
  rw [h, BitVec.xor_self, BitVec.xor_self] at hzero
  exact BitVec.xor_eq_zero_iff.1 (crcByte_of_zero hzero)

theorem foldl_crcByte_injective (bs : List Byte) : ∀ {r x : BitVec 16}, bs.foldl crcByte r = bs.foldl crcByte x → r = x := by
  induction bs with
  | nil => exact fun h => h
  | cons b bs ih => exact fun h => crcByte_injective_reg (ih h)

/-- R179: a change of one byte changes the check. -/
theorem crc_set_ne {bs : List Byte} {k : Nat} {b : Byte} (hk : k < bs.length) (hb : bs[k]? ≠ some b) : crc (bs.set k b) ≠ crc bs := by
  have hfold : ∀ (bs : List Byte) (k : Nat) (r : BitVec 16), k < bs.length → bs[k]? ≠ some b →
      (bs.set k b).foldl crcByte r ≠ bs.foldl crcByte r := by
    intro bs
    induction bs with
    | nil => intro k r hk; simp at hk
    | cons c cs ih =>
      intro k r hk hb
      cases k with
      | zero => exact fun h => hb (by rw [crcByte_injective_byte (foldl_crcByte_injective cs h)]; rfl)
      | succ k => exact ih k _ (by simpa using hk) (by simpa using hb)
  exact hfold bs k _ hk hb

/-! ## Numbers in bytes (R178) -/

theorem byte_toNat (n : Nat) : (byte n).toNat = n % 256 := by simp [byte]

theorem unword_word {n : Nat} (h : n ≤ 65535) : unword (byte (n / 256)) (byte n) = n := by
  rw [unword, byte_toNat, byte_toNat]
  omega

theorem checkBytes_injective {c d : BitVec 16} (h : checkBytes c = checkBytes d) : c = d := by
  have hlt := c.isLt
  have hlt' := d.isLt
  simp only [checkBytes, word, List.cons.injEq, and_true] at h
  have h1 := congrArg BitVec.toNat h.1
  have h2 := congrArg BitVec.toNat h.2
  rw [byte_toNat, byte_toNat] at h1 h2
  exact BitVec.eq_of_toNat_eq (by omega)

/-! ## The reception checks over whole bytes (R32) -/

/-- R32: what is judged of bytes that are as long as their length byte says. -/
theorem judgeBytes_whole {arb len c d : Byte} {payload : List Byte} (hlen : len.toNat = payload.length) (endViolated : Bool) :
    judgeBytes (arb :: len :: (payload ++ [c, d])) endViolated =
      if [c, d] ≠ checkBytes (crc (arb :: len :: payload)) then .checkError
      else if endViolated || decide (24 < payload.length) then .formError else judgeFields arb payload := by
  simp [judgeBytes, hlen]

theorem checkBytes_eq (c : BitVec 16) : checkBytes c = [byte (c.toNat / 256), byte c.toNat] := rfl

theorem Frame.bytes_eq (pad : Byte) (f : Frame) : f.bytes pad = byte (32 * f.payload.cls + f.sender)
    :: byte (f.payload.bytes pad).length :: (f.payload.bytes pad ++ checkBytes (crc (f.body pad))) := rfl

theorem zoneEntryBytes_length (zs : List PeerZone) : (zs.flatMap zoneEntryBytes).length = 2 * zs.length := by
  induction zs with
  | nil => rfl
  | cons z zs ih => rw [List.flatMap_cons, List.length_append, ih]; simp [zoneEntryBytes]; omega

/-- R25: no frame carries more than 24 bytes. -/
theorem Payload.bytes_length {p : Payload} (pad : Byte) (h : p.formOk = true) : (p.bytes pad).length ≤ 24 := by
  cases p with
  | command c t => cases c <;> simp [Payload.bytes, commandBytes]
  | call b p c r st q => cases q <;> simp [Payload.bytes, word]
  | status r m f c zs =>
    have hzs : zs.length ≤ 8 := by simp [Payload.formOk] at h; exact h.1.1
    rcases c with - | ⟨st, p⟩ <;> simp [Payload.bytes, word, zoneEntryBytes_length, -List.length_flatMap] <;> omega
  | zone | beat | curtain | curtainState | cue => simp [Payload.bytes, word]

/-- R32: bytes whose check is not that of the bytes ahead of it. -/
theorem judgeBytes_check {arb len : Byte} {payload check : List Byte} (hlen : len.toNat = payload.length) (endViolated : Bool)
    (htwo : check.length = 2) (h : check ≠ checkBytes (crc (arb :: len :: payload))) :
    judgeBytes (arb :: len :: (payload ++ check)) endViolated = .checkError := by
  obtain ⟨c, d, rfl⟩ := List.length_eq_two.1 htwo
  rw [judgeBytes_whole hlen, if_pos h]

/-- R32, R179: of whole bytes with the right check, one changed byte other than the length leaves a check that is wrong. -/
theorem judgeBytes_set {arb len b : Byte} {payload : List Byte} (hlen : len.toNat = payload.length) (endViolated : Bool) {k : Nat}
    (hk : k < (arb :: len :: (payload ++ checkBytes (crc (arb :: len :: payload)))).length) (hone : k ≠ 1)
    (hb : (arb :: len :: (payload ++ checkBytes (crc (arb :: len :: payload))))[k]? ≠ some b) :
    judgeBytes ((arb :: len :: (payload ++ checkBytes (crc (arb :: len :: payload)))).set k b) endViolated = .checkError := by
  have hcover {arb' : Byte} {payload' : List Byte} (hlen' : payload'.length = payload.length)
      (hne : crc (arb' :: len :: payload') ≠ crc (arb :: len :: payload)) :
      judgeBytes (arb' :: len :: (payload' ++ checkBytes (crc (arb :: len :: payload)))) endViolated = .checkError :=
    judgeBytes_check (hlen.trans hlen'.symm) endViolated rfl (fun h => hne (checkBytes_injective h).symm)
  match k, hone with
  | 0, _ => exact hcover rfl (crc_set_ne (bs := arb :: len :: payload) (k := 0) (by simp) (by simpa using hb))
  | k + 2, _ =>
    rw [List.set_cons_succ, List.set_cons_succ]
    by_cases hin : k < payload.length
    · rw [List.set_append_left _ _ hin]
      refine hcover (by simp) (crc_set_ne (bs := arb :: len :: payload) (k := k + 2) (by simpa using hin) ?_)
      simpa [List.getElem?_append_left hin] using hb
    · rw [List.set_append_right _ _ (Nat.le_of_not_lt hin)]
      simp only [List.length_cons, List.length_append] at hk
      have hbyte : (checkBytes (crc (arb :: len :: payload)))[k - payload.length]? ≠ some b := by
        simpa [List.getElem?_append_right (Nat.le_of_not_lt hin)] using hb
      have hsize : k - payload.length < 2 := by rw [show (checkBytes (crc (arb :: len :: payload))).length = 2 from rfl] at hk; omega
      refine judgeBytes_check hlen endViolated (List.length_set.trans rfl) (fun heq => hbyte ?_)
      rw [← heq, List.getElem?_set_self hsize]

/-- Settles O21: the check covers every byte ahead of it, and is compared with both of its own. -/
theorem oneDamagedByteIsACheckError : Obligations.OneDamagedByteIsACheckError := by
  intro pad f k b endViolated hf hk hone hb
  have hform : f.payload.formOk = true := by simp [Frame.wellFormed, Frame.formOk] at hf; exact hf.1.2
  have hlength := Payload.bytes_length pad hform
  have hlen : (byte (f.payload.bytes pad).length).toNat = (f.payload.bytes pad).length := by rw [byte_toNat]; omega
  exact judgeBytes_set hlen endViolated hk hone hb

end Sys2Proof
end

section
/-! PROOFS. Every frame the line can carry is read back from its bytes (12 sections 12.1 and 12.2). -/

namespace Sys2Proof

/-! ## The codes are read back (12 section 12.1) -/

theorem ZoneState.ofCode_code (z : ZoneState) : ZoneState.ofCode z.code = some z := by cases z <;> rfl
theorem Role.ofCode_code (r : Role) : Role.ofCode r.code = some r := by cases r <;> rfl
theorem Mode.ofCode_code (m : Mode) : Mode.ofCode m.code = some m := by cases m <;> rfl
theorem CurtainState.ofCode_code (x : CurtainState) : CurtainState.ofCode x.code = some x := by cases x <;> rfl
theorem CurtainKind.ofCode_code (k : CurtainKind) : CurtainKind.ofCode k.code = some k := by cases k <;> rfl
theorem CallClass.ofCode_code {c : CallClass} (h : c ≠ .safety) : CallClass.ofCode c.code = some c := by
  cases c with
  | routine => rfl
  | showCall => rfl
  | safety => exact absurd rfl h

theorem ZoneState.code_le (z : ZoneState) : z.code ≤ 5 := by cases z <;> decide
theorem Role.code_le (r : Role) : r.code ≤ 4 := by cases r <;> decide
theorem Mode.code_le (m : Mode) : m.code ≤ 3 := by cases m <;> decide
theorem CurtainState.code_le (x : CurtainState) : x.code ≤ 8 := by cases x <;> decide
theorem CurtainKind.code_le (k : CurtainKind) : k.code ≤ 3 := by cases k <;> decide
theorem CallClass.code_le (c : CallClass) : c.code ≤ 3 := by cases c <;> decide

theorem sizeCode_le (n : Nat) : sizeCode n ≤ 4 := by
  unfold sizeCode
  repeat' split
  all_goals decide

/-- A value that fits in a byte is the byte's. -/
theorem byte_toNat_of_le {n : Nat} (h : n ≤ 255) : (byte n).toNat = n := by rw [byte_toNat]; omega

theorem FaultSet.ofByte_code (f : FaultSet) : FaultSet.ofByte (byte f.code) = some f := by
  obtain ⟨a, b, c, d, e⟩ := f
  cases a <;> cases b <;> cases c <;> cases d <;> cases e <;> decide

theorem blockOfByte_blockByte {b : AreaBlock} (h : b.named = true) : blockOfByte (blockByte b) = some b := by
  obtain ⟨size, offset⟩ := b
  simp only [AreaBlock.named, AreaBlock.sizeOk, Bool.and_eq_true, Bool.or_eq_true, beq_iff_eq, decide_eq_true_eq] at h
  obtain ⟨hsize, hoffset⟩ := h
  have hcode := sizeCode_le size
  have hbyte : (byte (16 * sizeCode size + offset)).toNat = 16 * sizeCode size + offset := byte_toNat_of_le (by omega)
  have hpow : 2 ^ sizeCode size = size := by rcases hsize with (((rfl | rfl) | rfl) | rfl) | rfl <;> rfl
  unfold blockOfByte blockByte
  dsimp only
  rw [hbyte, show (16 * sizeCode size + offset) / 16 = sizeCode size by omega,
    show (16 * sizeCode size + offset) % 16 = offset by omega, if_pos hcode, hpow]

theorem Start.ofCodes_bytes (pad : Byte) (s : Start) :
    Start.ofCodes (byte s.kindCode).toNat (startByte pad s).toNat = some s := by
  cases s with
  | now => rfl
  | nextBoundary => rfl
  | atBeat n =>
    have hn : n.toNat ≤ 255 := by have := n.isLt; omega
    show (if n.toNat ≤ 255 then some (Start.atBeat (BitVec.ofNat 8 n.toNat)) else none) = _
    rw [if_pos hn, BitVec.ofNat_toNat, BitVec.setWidth_eq]

/-! ## The payloads are read back (12 section 12.2) -/

theorem readCommand_bytes {c : Command} (pad : Byte) (h : c.zoneOk = true) :
    ∃ z m, commandBytes pad c = [z, m] ∧ readCommand (byte c.code) z m = some c := by
  have hzone {n : Nat} (hn : n ≤ 8) : (byte n).toNat = n := byte_toNat_of_le (by omega)
  cases c with
  | ack z => exact ⟨_, _, rfl, by simp [readCommand, Command.code, byte_toNat, hzone (by simpa [Command.zoneOk] using h)]⟩
  | reset => exact ⟨_, _, rfl, rfl⟩
  | silence => exact ⟨_, _, rfl, rfl⟩
  | isolate z =>
    have hz : z ≤ 7 := by simpa [Command.zoneOk] using h
    exact ⟨_, _, rfl, by simp [readCommand, Command.code, byte_toNat]; omega⟩
  | restore z =>
    have hz : z ≤ 7 := by simpa [Command.zoneOk] using h
    exact ⟨_, _, rfl, by simp [readCommand, Command.code, byte_toNat]; omega⟩
  | setMode m => exact ⟨_, _, rfl, by cases m <;> rfl⟩

theorem readZoneList_bytes {zs : List PeerZone} (h : zs.all PeerZone.entryOk = true) :
    readZoneList zs.length (zs.flatMap zoneEntryBytes) = some zs := by
  induction zs with
  | nil => rfl
  | cons z zs ih =>
    rw [List.all_cons, Bool.and_eq_true] at h
    obtain ⟨hz, hzs⟩ := h
    obtain ⟨index, area, state⟩ := z
    simp only [PeerZone.entryOk, Bool.and_eq_true, decide_eq_true_eq] at hz
    obtain ⟨⟨hindex, harea⟩, -⟩ := hz
    have hcode := state.code_le
    have hx : (byte (16 * index + state.code)).toNat = 16 * index + state.code := byte_toNat_of_le (by omega)
    have ha : (byte area).toNat = area := byte_toNat_of_le (by omega)
    show readZoneList (zs.length + 1) (byte (16 * index + state.code) :: byte area :: zs.flatMap zoneEntryBytes) = _
    rw [readZoneList, hx, ha, ih hzs, show (16 * index + state.code) % 16 = state.code by omega,
      show (16 * index + state.code) / 16 = index by omega, ZoneState.ofCode_code]

theorem readPayload_status {r : Role} (m : Mode) (f : FaultSet) {c : Option (CurtainState × Nat)} {zs : List PeerZone} (pad : Byte)
    (hzs : (Payload.status r m f c zs).formOk = true) (hfit : (Payload.status r m f c zs).fits = true) :
    readPayload 6 ((Payload.status r m f c zs).bytes pad) = some (.status r m f c zs) := by
  simp only [Payload.formOk, Bool.and_eq_true, decide_eq_true_eq] at hzs
  obtain ⟨⟨hlength, hall⟩, -⟩ := hzs
  have hlist := readZoneList_bytes hall
  have hlen : (byte zs.length).toNat = zs.length := byte_toNat_of_le (by omega)
  have hrole : (byte r.code).toNat = r.code := byte_toNat_of_le (by have := r.code_le; omega)
  have hmode : (byte m.code).toNat = m.code := byte_toNat_of_le (by have := m.code_le; omega)
  rcases c with - | ⟨st, p⟩
  · have hr : r ≠ .curtain := by simpa [Payload.fits] using hfit
    show readStatus (byte r.code) (byte m.code) (byte f.code) (byte 0) (byte 0) (byte 0) (byte zs.length)
      (zs.flatMap zoneEntryBytes) = _
    rw [readStatus, hrole, hmode, hlen, Role.ofCode_code, Mode.ofCode_code, FaultSet.ofByte_code, hlist]
    cases r with
    | curtain => exact absurd rfl hr
    | stage | foh | fire | area => rfl
  · simp only [Payload.fits, Bool.and_eq_true, decide_eq_true_eq] at hfit
    obtain ⟨rfl, hp⟩ := hfit
    have hst : (byte st.code).toNat = st.code := byte_toNat_of_le (by have := st.code_le; omega)
    show readStatus (byte Role.curtain.code) (byte m.code) (byte f.code) (byte st.code) (byte (p / 256)) (byte p) (byte zs.length)
      (zs.flatMap zoneEntryBytes) = _
    rw [readStatus, hrole, hmode, hlen, Role.ofCode_code, Mode.ofCode_code, FaultSet.ofByte_code, hlist]
    dsimp only
    rw [hst, CurtainState.ofCode_code, unword_word hp]
    rfl

theorem readPayload_call {b : AreaBlock} {p : Nat} {c : CallClass} {r : Nat} (st : Start) {q : Option LinkedCue} (pad : Byte)
    (hf : (Payload.call b p c r st q).formOk = true) (hfit : (Payload.call b p c r st q).fits = true) :
    readPayload 5 ((Payload.call b p c r st q).bytes pad) = some (.call b p c r st q) := by
  simp only [Payload.formOk, Bool.and_eq_true, decide_eq_true_eq] at hf
  obtain ⟨⟨hb, hp⟩, hc⟩ := hf
  have hpat : (byte p).toNat = p := byte_toNat_of_le (by omega)
  have hcls : (byte c.code).toNat = c.code := byte_toNat_of_le (by have := c.code_le; omega)
  rcases q with - | ⟨level, duration⟩
  · have hr : (byte r).toNat = r := byte_toNat_of_le (by simpa [Payload.fits] using hfit)
    show readCall (blockByte b) (byte p) (byte c.code) (byte r) (byte st.kindCode) (startByte pad st) (byte 0) [] = _
    rw [readCall, blockOfByte_blockByte hb, hcls, CallClass.ofCode_code hc, Start.ofCodes_bytes, hpat, hr]
    rfl
  · simp only [Payload.fits, Bool.and_eq_true, decide_eq_true_eq] at hfit
    obtain ⟨⟨hr, hlevel⟩, hduration⟩ := hfit
    show readCall (blockByte b) (byte p) (byte c.code) (byte r) (byte st.kindCode) (startByte pad st) (byte 1)
      (word level ++ [byte duration]) = _
    rw [readCall, blockOfByte_blockByte hb, hcls, CallClass.ofCode_code hc, Start.ofCodes_bytes, hpat, byte_toNat_of_le hr]
    show some (Payload.call b p c r st (some ⟨unword (byte (level / 256)) (byte level), (byte duration).toNat⟩)) = _
    rw [unword_word hlevel, byte_toNat_of_le hduration]

/-- R30, R178: the payload's bytes give the payload. -/
theorem readPayload_bytes {p : Payload} (pad : Byte) (hf : p.formOk = true) (hfit : p.fits = true) :
    readPayload p.cls (p.bytes pad) = some p := by
  cases p with
  | zone i a z =>
    simp only [Payload.formOk, Bool.and_eq_true, decide_eq_true_eq] at hf
    show (ZoneState.ofCode (byte z.code).toNat).map (fun st => Payload.zone (byte i).toNat (byte a).toNat st) = _
    rw [show (byte z.code).toNat = z.code from byte_toNat_of_le (by have := z.code_le; omega), ZoneState.ofCode_code, byte_toNat_of_le (by omega), byte_toNat_of_le (by omega)]
    rfl
  | beat n => rfl
  | command c t =>
    simp only [Payload.formOk, Bool.and_eq_true, decide_eq_true_eq] at hf
    obtain ⟨z, m, hbytes, hread⟩ := readCommand_bytes pad hf.1
    simp only [Payload.bytes, hbytes]
    show (readCommand (byte c.code) z m).map (fun c => Payload.command c (byte t).toNat) = _
    rw [hread, byte_toNat_of_le (by omega)]
    rfl
  | curtain k t =>
    have ht : t ≤ 31 := by simpa [Payload.formOk] using hf
    show readCurtain (byte k.code) (byte t) [] = _
    unfold readCurtain
    rw [byte_toNat_of_le (by have := k.code_le; omega), CurtainKind.ofCode_code, byte_toNat_of_le (by omega)]
  | curtainState t st pos =>
    have ht : t ≤ 31 := by simpa [Payload.formOk] using hf
    have hp : pos ≤ 65535 := by simpa [Payload.fits] using hfit
    show (CurtainState.ofCode (byte st.code).toNat).map
      (fun x => Payload.curtainState (byte t).toNat x (unword (byte (pos / 256)) (byte pos))) = _
    rw [show (byte st.code).toNat = st.code from byte_toNat_of_le (by have := st.code_le; omega), CurtainState.ofCode_code, byte_toNat_of_le (by omega), unword_word hp]
    rfl
  | cue b l d st =>
    simp only [Payload.fits, Bool.and_eq_true, decide_eq_true_eq] at hfit
    obtain ⟨hl, hd⟩ := hfit
    show readCue _ _ _ _ _ _ = _
    rw [readCue, blockOfByte_blockByte hf, Start.ofCodes_bytes, unword_word hl, byte_toNat_of_le hd]
  | call b p c r st q => exact readPayload_call st pad hf hfit
  | status r m f c zs => exact readPayload_status m f pad hf hfit

theorem Payload.cls_le (p : Payload) : p.cls ≤ 6 := by cases p <;> simp [Payload.cls]

/-- Settles O20: the fields are read back one by one, and the check is that of the bytes. -/
theorem frameBytesDecodeToTheFrame : Obligations.FrameBytesDecodeToTheFrame := by
  intro pad f hf
  obtain ⟨sender, p⟩ := f
  rw [Frame.wellFormed, Bool.and_eq_true] at hf
  obtain ⟨hform, hfit⟩ := hf
  have hform' := hform
  simp only [Frame.formOk, Bool.and_eq_true, decide_eq_true_eq] at hform'
  obtain ⟨⟨hlow, hhigh⟩, hp⟩ := hform'
  have hlength := Payload.bytes_length pad hp
  have hcls := p.cls_le
  have harb : (byte (32 * p.cls + sender)).toNat = 32 * p.cls + sender := byte_toNat_of_le (by omega)
  rw [Frame.bytes_eq, checkBytes_eq, judgeBytes_whole (byte_toNat_of_le (by dsimp only; omega)), ← checkBytes_eq]
  refine (if_neg (not_not.2 rfl)).trans ((if_neg (by simp; omega)).trans ?_)
  rw [judgeFields, harb, show (32 * p.cls + sender) / 32 = p.cls by omega,
    show (32 * p.cls + sender) % 32 = sender by omega, readPayload_bytes pad hp hfit]
  exact if_pos hform

end Sys2Proof
end

section
/-! PROOFS. The error score, the send slot and the frames a controller takes of its own (02 sections 2.2 to 2.6). -/

namespace Sys2Proof.Machine

variable {s : State}

/-! ## A frame handed on from a peer that is PRESENT (R31, R44, R48) -/

/-- R44, R48: the peer entry that a CURTAIN STATE leaves. -/
def stateHeard (st : CurtainState) (pos : Nat) (e : PeerEntry) : PeerEntry :=
  { e with heard := 0, liveness := .present, curtain := some (st, pos) }

/-- R44, R48: a CURTAIN STATE of a peer that is PRESENT changes its entry and the count of any peer. -/
theorem handOn_curtainState {x : Nat} (target : Nat) (st : CurtainState) (pos : Nat) (hx : x ≠ s.cfg.station)
    (hp : isPresent x s = true) (ha : s.faults.alone = false) :
    handOn ⟨x, .curtainState target st pos⟩ s
      = s.setPeers { s.peers with table := updateEntry x (stateHeard st pos) s.peers.table, anyPeer := 0 } := by
  have htwice (es : List PeerEntry) : updateEntry x (fun e => { e with curtain := some (st, pos) })
      (updateEntry x (fun e => { e with heard := 0, liveness := .present }) es) = updateEntry x (stateHeard st pos) es := by
    unfold updateEntry
    rw [List.map_map]
    refine List.map_congr_left fun e _ => ?_
    rw [Function.comp_apply]
    by_cases he : e.station = x <;> simp [he, stateHeard]
  rw [handOn, if_neg hx, heardFrom_present s x hp ha]
  refine (if_neg hx).trans ?_
  simp [takeStateFrame, setTable, State.setPeers, htwice]

/-- R58: such a frame leaves the inputs of the condition. -/
theorem computedCondition_stateHeard (x : Nat) (st : CurtainState) (pos : Nat) (s : State) (any : Nat) :
    (s.setPeers { s.peers with table := updateEntry x (stateHeard st pos) s.peers.table, anyPeer := any }).computedCondition
      = s.computedCondition :=
  computedCondition_setTable (s := s) (updateEntry_zones (n := x) (f := stateHeard st pos) fun _ _ _ => rfl)

/-- R36: LINE_DEGRADED reaches the line by the transmit queue alone. -/
theorem judgeDegraded_line_eq (s : State) : (judgeDegraded s).line = { s.line with tx := (judgeDegraded s).line.tx } := by
  unfold judgeDegraded
  split
  · exact putLineFault_line s _ _ _
  · split
    · exact putLineFault_line s _ _ _
    · rfl

theorem judgeDegraded_cfg (s : State) : (judgeDegraded s).cfg = s.cfg := by
  rw [State.cfg, (judgeDegraded_frame s).2.2.1, State.cfg]

/-- R31 to R36: a good frame of another station, with no BEAT held aside. -/
theorem receive_good {x : Nat} {p : Payload} (hw : s.working = true) (hf : Frame.formOk ⟨x, p⟩ = true) (hx : x ≠ s.cfg.station)
    (hheld : s.line.heldBeat = none) : receive ⟨x, p⟩ s = handOn ⟨x, p⟩ (judgeDegraded (s.setLine s.line.countGood)) := by
  have hline : (judgeDegraded (s.setLine s.line.countGood)).line.heldBeat = none := by
    rw [judgeDegraded_line_eq, setLine_line, countGood_eq]
    exact hheld
  have hown : ¬(x = (judgeDegraded (s.setLine s.line.countGood)).cfg.station
      ∧ (judgeDegraded (s.setLine s.line.countGood)).faults.duplicate = false) := by
    rw [judgeDegraded_cfg]
    exact fun h => hx h.1
  unfold receive
  rw [if_pos hw, if_pos hf]
  unfold receiveGood
  rw [resolveHeldBeat_none _ _ hline, noteDuplicate, if_neg hown]

/-! ## LINE_DEGRADED (R36) -/

/-- R36: where the score reaches the threshold, LINE_DEGRADED enters, with its report first. -/
theorem judgeDegraded_enters (hd : s.faults.lineDegraded = false) (h : s.line.threshold ≤ s.line.score) :
    judgeDegraded s = putLineFault .lineDegraded true (.lineDegradedChanged true s.line.score) s := if_pos ⟨hd, h⟩

theorem putLineFault_degraded (v : Bool) (r : Report) : (putLineFault .lineDegraded v r s).faults.lineDegraded = v := by
  unfold putLineFault
  simp [FaultSet.put]

/-- R36: where the score falls to 0, LINE_DEGRADED leaves; only the condition and the lights follow. -/
theorem judgeDegraded_leaves (hd : s.faults.lineDegraded = true) (h : s.line.score = 0) (hc : s.condition = s.computedCondition) :
    judgeDegraded s = { s with
        faults := { s.faults with lineDegraded := false }, condition := (judgeDegraded s).condition
        lights := (judgeDegraded s).lights, panel := (judgeDegraded s).panel }
      ∧ (judgeDegraded s).condition = (judgeDegraded s).computedCondition
      ∧ FirstReport s (.lineDegradedChanged false 0) (judgeDegraded s) := by
  have hleave : judgeDegraded s = putLineFault .lineDegraded false (.lineDegradedChanged false 0) s := by
    rw [judgeDegraded, if_neg (by simp [hd]), if_pos ⟨hd, h⟩, h]
  rw [hleave]
  exact ⟨recompute_of_faults (t := report _ (s.setFaults (s.faults.put .lineDegraded false))) hc rfl rfl rfl rfl,
    recompute_settles _, putLineFault_firstReport s _ _ _⟩

/-! ## Errors and good frames (O16) -/

/-- R32 to R36: bytes that fail. -/
theorem exec_rxFrameError_error {bytes : List Byte} {endViolated : Bool} (hw : s.working = true)
    (h : judgeBytes bytes endViolated = .checkError ∨ judgeBytes bytes endViolated = .formError) :
    exec (.rxFrameError bytes endViolated) s
      = .next (receiveError (if judgeBytes bytes endViolated = .checkError then .check else .form) s) := by
  rw [exec_rxFrameError, receiveBytes, if_pos hw]
  rcases h with h | h <;> rw [h] <;> rfl

/-- R36: where no error takes the score to the threshold, LINE_DEGRADED is left. -/
theorem judgeDegraded_error (l : LineState) (hscore : l.score = min 15 (s.line.score + 1)) (hthr : l.threshold = s.line.threshold)
    (h : s.faults.lineDegraded = true ∨ min 15 (s.line.score + 1) < s.line.threshold) : judgeDegraded (s.setLine l) = s.setLine l := by
  refine judgeDegraded_still _ ?_
  rw [setLine_faults, setLine_line, hscore, hthr]
  split
  · omega
  · next hd => exact h.resolve_left hd

/-- Settles O16: each kind of error and the sixteenth good frame, by whether the score makes LINE_DEGRADED change. -/
theorem lineErrorsAreCounted : Obligations.LineErrorsAreCounted := by
  refine ⟨fun s bytes endViolated hw hheld herr => ?bytes, fun s f hslot => ?bit, fun s x target pos st hx hc hgood ht => ?good⟩
  case bytes =>
    intro counted
    have hrow := exec_rxFrameError_error hw herr
    have hcount : s.line.countError (if judgeBytes bytes endViolated = .checkError then .check else .form) = counted := by
      rcases herr with h | h <;> simp [h, counted, LineState.countError, bump]
    rw [receiveError, hcount] at hrow
    refine ⟨fun h => ?_, fun hd hge => ?_⟩
    · rw [hrow, judgeDegraded_error counted rfl rfl h, resolveHeldBeat_none (s.setLine counted) _ hheld]
      rfl
    · rw [judgeDegraded_enters (s := s.setLine counted) hd hge] at hrow
      have hline := putLineFault_line (s.setLine counted) .lineDegraded true (.lineDegradedChanged true (s.setLine counted).line.score)
      have hframe := putLineFault_frame (s.setLine counted) .lineDegraded true (.lineDegradedChanged true (s.setLine counted).line.score)
      obtain ⟨-, hmode, -, -, -, -, hpeers, hbeat, hzones, -⟩ := hframe
      rw [resolveHeldBeat_none _ _ (by rw [hline]; exact hheld)] at hrow
      exact ⟨_, hrow, putLineFault_degraded (s := s.setLine counted) _ _, hline, hpeers, hzones, hbeat, hmode,
        putLineFault_firstReport (s.setLine counted) _ _ _⟩
  case bit =>
    intro counted
    have hrow : exec .bitError s = .next (report (.txDropped f .bitError) (judgeDegraded (s.setLine counted))) := by
      rw [exec_bitError, abandonFrame, hslot]
      rfl
    refine ⟨fun h => ?_, fun hd hge => ?_⟩
    · rw [hrow, judgeDegraded_error counted rfl rfl h]
      rfl
    · rw [judgeDegraded_enters (s := s.setLine counted) hd hge] at hrow
      exact ⟨_, hrow, putLineFault_degraded (s := s.setLine counted) _ _, putLineFault_line (s.setLine counted) .lineDegraded true _,
        (putLineFault_firstReport (s.setLine counted) _ _ _).of_later (report_grows _ _ _ (PanelGrows.refl _))⟩
  case good =>
    intro taken
    have hw : s.working = true := hx.working
    have hpeer : x ≠ s.cfg.station := hx.peer
    have hheld : s.line.heldBeat = none := hx.held
    have halone : s.faults.alone = false := hx.company
    have hpres : isPresent x s = true := hx.present
    have hdegraded (hd : s.faults.lineDegraded = false) : s.line.score < s.line.threshold := by simpa [hd] using hx.degraded
    have hcount : s.line.countGood = { s.line with good := 0, score := s.line.score - 1 } := by simp [countGood_eq, hgood]
    have hrow : exec (.curtainStateFrame x target st pos) s
        = .next (handOn ⟨x, .curtainState target st pos⟩ (judgeDegraded (s.setLine s.line.countGood))) := by
      rw [exec_curtainStateFrame, receive_good hw (by simp [Frame.formOk, Payload.formOk, hx.station.1, hx.station.2, ht]) hpeer hheld]
    have htaken : taken = (s.setLine s.line.countGood).setPeers
        { s.peers with table := updateEntry x (stateHeard st pos) s.peers.table, anyPeer := 0 } := by
      rw [hcount]
      rfl
    rw [htaken]
    generalize hv : s.setLine s.line.countGood = v at hrow ⊢
    have hvpeers : v.peers = s.peers := by rw [← hv]; rfl
    refine ⟨fun h => ?_, fun hd hone => ?_⟩
    · have hstill : judgeDegraded v = v := by
        refine judgeDegraded_still v ?_
        rw [← hv, setLine_faults, setLine_line, hcount]
        dsimp only
        split
        · next hd => have := h.resolve_left (by simp [hd]); omega
        · next hd => have := hdegraded (by simpa using hd); omega
      rw [hrow, hstill, handOn_curtainState target st pos (by rw [← hv]; exact hpeer) (by rw [← hv]; exact hpres)
        (by rw [← hv]; exact halone), hvpeers]
    · have hvscore : v.line.score = 0 := by rw [← hv, setLine_line, hcount, hone]
      have hvc : v.condition = v.computedCondition := by rw [← hv]; exact hc hw
      obtain ⟨heq, hsettled, hfirst⟩ := judgeDegraded_leaves (s := v) (by rw [← hv]; exact hd) hvscore hvc
      have hfirst' : FirstReport s (.lineDegradedChanged false 0) (judgeDegraded v) := by
        rw [← hv] at hfirst ⊢
        exact hfirst
      generalize judgeDegraded v = j at *
      have hjpeers : j.peers = s.peers := by rw [heq]; exact hvpeers
      have hjcfg : j.cfg = s.cfg := by rw [heq, ← hv]; rfl
      rw [handOn_curtainState target st pos (by rw [hjcfg]; exact hpeer) (by rw [isPresent, hjpeers]; exact hpres)
        (by rw [heq, ← hv]; exact halone)] at hrow
      refine ⟨_, hrow, ?_, fun _ => ?_, hfirst'⟩
      · rw [hjpeers]
        conv_lhs => rw [heq]
        rw [← hv]
        rfl
      · exact hsettled.trans (computedCondition_stateHeard x st pos j 0).symm

end Sys2Proof.Machine
end

section
/-! PROOFS. The send slot, and the frames a controller takes of its own (02 sections 2.2 and 2.6). -/

namespace Sys2Proof.Machine

variable {s : State}

/-! ## A frame that returns (R40, R69) -/

/-- R40: a returning frame, in the words of `Returned`. -/
theorem returnFrame_returned (f : Payload) (h : inClassOrder s.line.tx = true) : Returned f s (returnFrame f s) := by
  refine ⟨fun hw => if_pos (waits_iff.2 hw), fun hno => ?_⟩
  have hwaits : ¬waits f s.line.tx = true := by rw [waits_eq_false.2 hno]; exact Bool.false_ne_true
  obtain ⟨before, after, hold, hnew, hbefore, hafter⟩ := rejoinQueue_rejoined f h
  refine ⟨before, after, hold, hbefore, hafter, fun hl => ?_, fun hl => ?_⟩
  · rw [returnFrame, if_neg hwaits, if_pos hl, hnew]
    rfl
  · have hne : before ++ f :: after ≠ [] := by simp
    refine ⟨(before ++ f :: after).dropLast, (before ++ f :: after).getLast hne, (List.dropLast_append_getLast hne).symm, ?_⟩
    rw [returnFrame, if_neg hwaits, if_neg (Nat.not_lt.2 hl), hnew, List.getLast?_eq_some_getLast hne]
    rfl

/-- What a count makes of the line: it neither reads nor writes the transmit queue and the BEAT held aside. -/
structure CountsOnly (g : LineState → LineState) : Prop where
  tx   : ∀ l, (g l).tx = l.tx
  held : ∀ l, (g l).heldBeat = l.heldBeat
  set  : ∀ l q b, g { l with tx := q, heldBeat := b } = { g l with tx := q, heldBeat := b }

theorem countGood_countsOnly : CountsOnly LineState.countGood :=
  ⟨fun l => by rw [countGood_eq], fun l => by rw [countGood_eq], fun l q b => by rw [countGood_eq, countGood_eq]⟩

theorem countError_countsOnly (k : LineError) : CountsOnly (LineState.countError k) := ⟨fun _ => rfl, fun _ => rfl, fun _ _ _ => rfl⟩

/-- A return reads and writes the transmit queue alone of the line. -/
theorem returnFrame_setLine {g : LineState → LineState} (hg : CountsOnly g) (f : Payload) (s : State) :
    returnFrame f (s.setLine (g s.line)) = (returnFrame f s).setLine (g (returnFrame f s).line) := by
  have hplace (q : List Payload) (u : State) (hu : u.line = s.line) :
      setTx q (u.setLine (g s.line)) = (setTx q u).setLine (g (setTx q u).line) := by
    have hset := hg.set u.line q u.line.heldBeat
    rw [← hu, show (setTx q u).line = { u.line with tx := q, heldBeat := u.line.heldBeat } from rfl, hset, ← hg.held u.line]
    rfl
  unfold returnFrame
  rw [setLine_line, hg.tx]
  split
  · rfl
  · split
    · exact hplace _ s rfl
    · split
      · exact hplace _ (report _ s) rfl
      · rfl

/-! ## Reception while a BEAT is held aside (R69, log 34) -/

/-- A state without its held BEAT. -/
def released (s : State) : State := s.setLine { s.line with heldBeat := none }

/-- R36: one more good frame from a peer heard lately leaves LINE_DEGRADED. -/
theorem judgeDegraded_hearsPeer {x : Nat} (h : HearsPeer x (released s)) :
    judgeDegraded (s.setLine s.line.countGood) = s.setLine s.line.countGood := by
  have hdeg : if s.faults.lineDegraded then s.line.score ≠ 0 else s.line.score < s.line.threshold := h.degraded
  have hgood : s.line.good < 15 := h.good
  exact judgeDegraded_countGood s (fun hd => by simpa [hd] using hdeg) (fun _ hd => by simpa [hd] using hdeg) (fun hge => by omega)

/-- R69: a good frame settles the held BEAT before it is handed on. -/
theorem receive_heldBeat {x : Nat} {p : Payload} (h : HearsPeer x (released s)) (hf : Frame.formOk ⟨x, p⟩ = true) :
    receive ⟨x, p⟩ s = handOn ⟨x, p⟩ (noteDuplicate x (resolveHeldBeat p.isBeat (s.setLine s.line.countGood))) := by
  have hw : s.working = true := h.working
  unfold receive
  rw [if_pos hw, if_pos hf]
  unfold receiveGood
  rw [judgeDegraded_hearsPeer h]

/-- A count leaves a state released. -/
theorem released_setLine {g : LineState → LineState} (hg : CountsOnly g) (s : State) :
    released (s.setLine (g s.line)) = (released s).setLine (g (released s).line) := by
  have hset := hg.set s.line s.line.tx none
  show s.setLine { g s.line with heldBeat := none } = s.setLine (g { s.line with tx := s.line.tx, heldBeat := none })
  rw [hset, ← hg.tx s.line]

/-- R69: what the settling of a held BEAT leaves, beside what the frame is counted as. -/
theorem resolveHeldBeat_count {g : LineState → LineState} {n : BitVec 8} (hg : CountsOnly g) (hn : s.line.heldBeat = some n)
    (byBeat : Bool) : resolveHeldBeat byBeat (s.setLine (g s.line)) =
      if byBeat then (released s).setLine (g (released s).line)
      else (returnFrame (.beat n) (released s)).setLine (g (returnFrame (.beat n) (released s)).line) := by
  rw [← returnFrame_setLine hg, ← released_setLine hg, resolveHeldBeat, setLine_line, hg.held, hn]
  rfl

/-- A return leaves what a frame is judged by: the faults, the peers, the configuration and the counts of the line. -/
theorem returnFrame_kept (f : Payload) (s : State) : (returnFrame f s).phase = s.phase ∧ (returnFrame f s).config = s.config
    ∧ (returnFrame f s).faults = s.faults ∧ (returnFrame f s).peers = s.peers
    ∧ (returnFrame f s).line = { s.line with tx := (returnFrame f s).line.tx } := by
  unfold returnFrame
  split
  · exact ⟨rfl, rfl, rfl, rfl, rfl⟩
  · split
    · exact ⟨rfl, rfl, rfl, rfl, rfl⟩
    · split <;> exact ⟨rfl, rfl, rfl, rfl, rfl⟩

/-- A peer heard lately stays so through a return. -/
theorem HearsPeer.returnFrame {x : Nat} (h : HearsPeer x s) (f : Payload) : HearsPeer x (returnFrame f s) := by
  obtain ⟨hphase, hconfig, hfaults, hpeers, hline⟩ := returnFrame_kept f s
  generalize Machine.returnFrame f s = u at *
  exact {
    working := by rw [State.working, hphase]; exact h.working
    station := h.station
    peer := by rw [State.cfg, hconfig]; exact h.peer
    held := by rw [hline]; exact h.held
    good := by rw [hline]; exact h.good
    degraded := by rw [hline, hfaults]; exact h.degraded
    company := by rw [hfaults]; exact h.company
    present := by rw [isPresent, hpeers]; exact h.present }

theorem released_held (s : State) : (released s).line.heldBeat = none := rfl

theorem released_eq (h : s.line.heldBeat = none) : released s = s := by
  unfold released
  rw [← h]
  rfl

/-- R40: a frame that lost arbitration, a BEAT apart, returns. -/
theorem loseArbitration_returns {f : Payload} (hs : s.line.slot = some f) (hb : f.isBeat = false) :
    loseArbitration s = returnFrame f (setSlot none s) := by
  unfold loseArbitration
  rw [hs]
  cases f with
  | beat n => cases hb
  | zone | command | curtain | curtainState | cue | call | status => rfl

/-- Settles O17: what begins, what returns and what becomes of a BEAT held aside. -/
theorem sendSlotTakesAndReturnsFrames : Obligations.SendSlotTakesAndReturnsFrames := by
  refine ⟨fun s => ⟨fun f rest hp hs hh htx => ?_, fun h => ?_⟩, fun s f hs => ⟨fun n hf => ?_, fun hb hw => ?_, fun hb hno hord => ?_⟩,
    fun s n hn hord => ?held⟩
  · rw [exec_txStart, beginFrame, if_pos ⟨hp, hs, hh⟩, htx]
    rfl
  · rw [exec_txStart, beginFrame]
    split
    · next hidle =>
      obtain ⟨hp, hs, hh⟩ := hidle
      simp only [hp, hs, hh, not_true, Option.isSome_none, Bool.false_eq_true, false_or, ne_eq] at h
      rw [h]
    · rfl
  · rw [exec_arbitrationLost, loseArbitration, hs, hf]
    rfl
  · rw [exec_arbitrationLost, loseArbitration_returns hs hb]
    exact congrArg Host.Outcome.next (if_pos (waits_iff.2 hw))
  · obtain ⟨before, after, hold, hbefore, hafter, hroom, hfull⟩ := (returnFrame_returned (s := setSlot none s) f hord).2 hno
    rw [exec_arbitrationLost, loseArbitration_returns hs hb]
    refine ⟨before, after, hold, hbefore, hafter, fun hl => congrArg Host.Outcome.next (hroom hl), fun hl => ?_⟩
    obtain ⟨kept, last, hkept, hreturned⟩ := hfull hl
    exact ⟨kept, last, hkept, congrArg Host.Outcome.next hreturned⟩
  case held =>
    intro freed
    have hreceive {x : Nat} {p : Payload} (hx : HearsPeer x (released s)) (hf : Frame.formOk ⟨x, p⟩ = true) {u : State}
        (hu : HearsPeer x u) (hcount : resolveHeldBeat p.isBeat (s.setLine s.line.countGood) = u.setLine u.line.countGood) :
        receive ⟨x, p⟩ s = receive ⟨x, p⟩ u := by
      have hsame := released_eq hu.held
      rw [receive_heldBeat hx hf, hcount, receive_heldBeat (s := u) (hsame.symm ▸ hu) hf,
        resolveHeldBeat_none (u.setLine u.line.countGood) _ (by rw [setLine_line, countGood_countsOnly.held]; exact hu.held)]
    have hcount (byBeat : Bool) := resolveHeldBeat_count countGood_countsOnly hn byBeat
    refine ⟨fun x m hx => congrArg Host.Outcome.next (hreceive hx ?_ hx (hcount true)), returnFrame (.beat n) (released s),
      returnFrame_returned (s := released s) _ hord, fun x i a z hx hi ha => ?_, fun bytes endViolated hw herr h => ?_⟩
    · simp [Frame.formOk, Payload.formOk, hx.station.1, hx.station.2]
    · exact congrArg Host.Outcome.next (hreceive hx (formOk_zone z hx.station.1 hx.station.2 hi ha) (hx.returnFrame _) (hcount false))
    · obtain ⟨hphase, -, hfaults, -, hline⟩ := returnFrame_kept (.beat n) (released s)
      have hw' : (returnFrame (.beat n) (released s)).working = true := by rw [State.working, hphase]; exact hw
      have hcounts (k : LineError) := resolveHeldBeat_count (countError_countsOnly k) hn false
      rw [exec_rxFrameError_error hw herr, exec_rxFrameError_error hw' herr]
      generalize (if judgeBytes bytes endViolated = .checkError then LineError.check else LineError.form) = k
      generalize hu : returnFrame (.beat n) (released s) = u at *
      have hscore : u.line.score = s.line.score ∧ u.line.threshold = s.line.threshold ∧ u.line.heldBeat = none := by
        rw [hline]
        exact ⟨rfl, rfl, rfl⟩
      obtain ⟨hsc, hthr, hheld⟩ := hscore
      have hstill : judgeDegraded (s.setLine (s.line.countError k)) = s.setLine (s.line.countError k) :=
        judgeDegraded_error _ rfl rfl h
      have hstill' : judgeDegraded (u.setLine (u.line.countError k)) = u.setLine (u.line.countError k) :=
        judgeDegraded_error _ rfl rfl (by rw [hsc, hthr, hfaults]; exact h)
      rw [receiveError, receiveError, hstill, hstill', hcounts, resolveHeldBeat_none (u.setLine (u.line.countError k)) _ hheld]
      rfl

/-! ## The own frames (O18) -/

/-- R29, R31: a frame that was sent is handed to the owners of its class. -/
theorem exec_frameSent_payload {f : Payload} (hs : s.line.slot = some f) :
    exec .frameSent s = .next (takePayload s.cfg.station f (setSlot none s)) := by
  rw [exec_frameSent, reflectFrame, hs]
  exact congrArg (fun u => Host.Outcome.next (takePayload s.cfg.station f u)) (if_pos rfl)

/-- R80: the role judged for the own number. -/
theorem judgedRole_own (s : State) : judgedRole s.cfg.station s = some s.cfg.role := if_pos rfl

/-- R79: a command for all stations or for this one. -/
theorem addressed_iff {x : Nat} : addressed x s = true ↔ x = 0 ∨ x = s.cfg.station := by
  simp [addressed]

/-- R82: a command addressed here that nothing bars is taken. -/
theorem takeCommandFrame_taken {x y : Nat} {c : Command} (ha : y = 0 ∨ y = s.cfg.station)
    (h : ignoreReason c (judgedRole x s) s = none) : takeCommandFrame x c y s = takeCommand c x y false s := by
  unfold takeCommandFrame
  rw [if_pos (addressed_iff.2 ha), h]

/-- R81: a command addressed here is ignored with its reason. -/
theorem takeCommandFrame_ignored {x y : Nat} {c : Command} {reason : IgnoreReason} (ha : y = 0 ∨ y = s.cfg.station)
    (h : ignoreReason c (judgedRole x s) s = some reason) :
    takeCommandFrame x c y s = report (.commandIgnored c x y (judgedRole x s) reason) s := by
  unfold takeCommandFrame
  rw [if_pos (addressed_iff.2 ha), h]

/-- R81, R86: the reasons from a known role. -/
theorem ignoreReason_none {c : Command} {r : Role} (hr : rolePermitted c r = true) (hal : c = .silence → s.condition = .alarm) :
    ignoreReason c (some r) s = none := by
  simp only [ignoreReason]
  rw [if_neg (by simp [hr]), if_neg (fun h => h.2 (hal h.1))]

theorem ignoreReason_senderRole {c : Command} {r : Role} (hr : rolePermitted c r = false) :
    ignoreReason c (some r) s = some .senderRole := if_pos (by simp [hr])

theorem ignoreReason_notAlarm {r : Role} (hr : rolePermitted .silence r = true) (hal : s.condition ≠ .alarm) :
    ignoreReason .silence (some r) s = some .notAlarm := by
  simp only [ignoreReason]
  rw [if_neg (by simp [hr]), if_pos ⟨trivial, hal⟩]

theorem takeCommandFrame_elsewhere {x : Nat} {c : Command} {y : Nat} (h0 : y ≠ 0) (h : y ≠ s.cfg.station) : takeCommandFrame x c y s = s := by
  unfold takeCommandFrame
  rw [if_neg (by rw [addressed_iff]; exact fun h' => h'.elim h0 h)]

/-- R81: who may give a command. -/
theorem rolePermitted_iff {c : Command} {r : Role} : rolePermitted c r = true ↔
    r = .stage ∨ r = .foh ∨ (r = .fire ∧ ∀ m, c ≠ .setMode m) := by
  cases c <;> cases r <;> simp [rolePermitted]

/-- R101: the other states are left. -/
theorem lowerRequest_closed (h : ¬(s.curtain.state = some .up ∨ s.curtain.state = some .stopped ∨ s.curtain.state = some .jammed
    ∨ s.curtain.state = some .warnRaise ∨ s.curtain.state = some .raising)) : lowerRequest s = s := by
  simp only [not_or] at h
  obtain ⟨hup, hstopped, hjammed, hwarn, hraising⟩ := h
  unfold lowerRequest
  split
  · next hs => exact absurd hs hup
  · next hs => exact absurd hs hstopped
  · next hs => exact absurd hs hjammed
  · next hs => exact absurd hs hwarn
  · next hs => exact absurd hs hraising
  · rfl

/-- R102: a curtain that is down or dropping is left. -/
theorem dropRequest_closed (h : s.curtain.state = some .down ∨ s.curtain.state = some .dropping) : dropRequest s = s := by
  unfold dropRequest
  rcases h with h | h <;> rw [h]

/-- R177: a change of mode that is allowed. -/
theorem changeMode_allowed {m : Mode} {x : Nat} (hne : m ≠ s.mode) (h : s.mode = .standby ∨ m = .standby) :
    changeMode m x s = report (.modeChanged s.mode m x) (s.setMode m) := by
  rw [changeMode, if_neg hne, if_pos (by rcases h with h | h <;> simp [modeAllowed, h])]

/-- Settles O18: class by class, what the owners of a frame take of one that bears the own number. -/
theorem sentFrameIsTakenBySender : Obligations.SentFrameIsTakenBySender := by
  intro s f hs sent own open_
  have hrow := exec_frameSent_payload hs
  have hown : own = sent.cfg.station := rfl
  have hrole : judgedRole own sent = some sent.cfg.role := judgedRole_own sent
  refine ⟨?record, fun n hf => ?_, fun b l d st hf => ?_, fun b p c r st q hf => ?_, fun k x hf h => ?_,
    fun k hf hcur hw hc => ?curtain, fun c x hf h0 h => ?_, fun c x hf hx hr hal => ?_, fun c x hf hx hr => ?_,
    fun x hf hx hr hal => ?_, fun m x hf hx hr hallowed hne => ?_⟩
  case record =>
    rintro (⟨i, a, z, rfl⟩ | ⟨r, m, x, c, zs, rfl⟩ | ⟨x, c, p, rfl⟩)
    · exact hrow.trans (congrArg Host.Outcome.next (if_pos rfl))
    · exact hrow.trans (congrArg Host.Outcome.next (if_pos rfl))
    · exact hrow.trans (congrArg Host.Outcome.next (if_pos rfl))
  all_goals subst hf
  case curtain =>
    have hcond : sent.condition = sent.computedCondition := hc hw
    have hjudged : judgedRole own sent = some .curtain := by rw [hrole]; exact congrArg some hcur
    have hact (hperm : curtainPermitted k (some .curtain) = true) : exec .frameSent s = .next (requestOf own k sent) :=
      hrow.trans (congrArg Host.Outcome.next (takeCurtainFrame_permitted (s := sent) hcur rfl (by rw [← hjudged] at hperm; exact hperm)))
    refine ⟨fun hk ho => ⟨_, ?_, curtainTook_lowering hcond .lower⟩, fun hk ho => ?_, fun st hk hst hd hdr => ⟨_, ?_,
      curtainTook_downTo hcond rfl .drop⟩, fun hk hst => ?_, fun hk => ?_⟩
    · subst hk
      rw [hact rfl]
      exact congrArg Host.Outcome.next (lowerRequest_open ho)
    · subst hk
      rw [hact rfl]
      exact congrArg Host.Outcome.next (lowerRequest_closed ho)
    · subst hk
      rw [hact rfl]
      exact congrArg Host.Outcome.next (dropRequest_open hst hd hdr)
    · subst hk
      rw [hact rfl]
      exact congrArg Host.Outcome.next (dropRequest_closed hst)
    · have hno : curtainPermitted k (judgedRole own sent) = false := by rw [hjudged]; rcases hk with rfl | rfl <;> rfl
      refine hrow.trans (congrArg Host.Outcome.next ((takeCurtainFrame_ignored (s := sent) hcur rfl hno).trans ?_))
      rw [show judgedRole s.cfg.station sent = some .curtain from hjudged]
      rfl
  · exact hrow.trans (congrArg Host.Outcome.next (if_pos (.inl rfl)))
  · exact hrow
  · exact hrow
  · exact hrow.trans (congrArg Host.Outcome.next (takeCurtainFrame_elsewhere (s := sent) h))
  · exact hrow.trans (congrArg Host.Outcome.next (takeCommandFrame_elsewhere (s := sent) h0 h))
  · exact hrow.trans (congrArg Host.Outcome.next (takeCommandFrame_taken (s := sent) hx
      (hrole ▸ ignoreReason_none (rolePermitted_iff.2 hr) hal)))
  · have hno : rolePermitted c s.cfg.role = false := by
      rw [Bool.eq_false_iff, Ne, rolePermitted_iff]
      rintro (h | h | ⟨h, hall⟩)
      · simp [h] at hr
      · simp [h] at hr
      · simp [h] at hr
        exact hr.elim hall
    refine hrow.trans (congrArg Host.Outcome.next ((takeCommandFrame_ignored (s := sent) hx
      (hrole ▸ ignoreReason_senderRole hno)).trans ?_))
    rw [hrole]
    rfl
  · have hr' : rolePermitted .silence s.cfg.role = true := by rcases hr with h | h | h <;> rw [h] <;> rfl
    refine hrow.trans (congrArg Host.Outcome.next ((takeCommandFrame_ignored (s := sent) hx
      (hrole ▸ ignoreReason_notAlarm hr' hal)).trans ?_))
    rw [hrole]
    rfl
  · have hr' : rolePermitted (.setMode m) s.cfg.role = true := rolePermitted_iff.2 (by tauto)
    refine hrow.trans (congrArg Host.Outcome.next ((takeCommandFrame_taken (s := sent) hx
      (hrole ▸ ignoreReason_none hr' (by simp))).trans ?_))
    exact changeMode_allowed (s := report (.commandTaken (.setMode m) own x false) sent) hne hallowed

end Sys2Proof.Machine
end

section
/-! PROOFS. The panel's requests that send a frame (05 section 5.4, 06 section 6.9, 08 section 8.7, 09 section 9.5). -/

namespace Sys2Proof.Machine

variable {s : State}

/-! ## A request and its answer (R164) -/

/-- R162: a row whose request is judged after the record that was sent is gone. -/
theorem exec_request {i : Instr} {request : State → State} {t : State} (hi : exec i s = .next (completeTransfer request s))
    (hfree : PanelFree s) (ht : request (recordSent s) = t) : exec i s = .next t := by
  rw [hi, completeTransfer_free hfree, ht]

/-- R164: a request that nothing bars is carried out and answered. -/
theorem answerRequest_taken {k : RequestKind} {tag : Nat} {f : State → State} {reason : Option RefusalReason} (h : reason = none) :
    answerRequest k tag reason f s = place (.taken k tag) (f s) := by rw [h]; rfl

theorem answerRequest_refused {k : RequestKind} {tag : Nat} {f : State → State} {reason : Option RefusalReason} {r : RefusalReason}
    (h : reason = some r) : answerRequest k tag reason f s = refuse k tag r s := by rw [h]; rfl

/-! ## The phase and the place (R91, R115, R142, R160) -/

theorem framePhase_active (h : s.phase = .active) : framePhase s = none := by rw [framePhase, h]

theorem framePhase_unconfigured (h : s.phase = .unconfigured) : framePhase s = some .unconfigured := by rw [framePhase, h]

theorem framePhase_notReady (h : s.phase = .configRead ∨ s.phase = .listen) : framePhase s = some .notReady := by
  rcases h with h | h <;> rw [framePhase, h]

theorem placeable_room {f : Payload} (h : s.line.tx.length < 8) : placeable f s = none := by
  rw [placeable, if_pos (by simp [canPlace, h])]

theorem placeable_waits {f : Payload} (h : waits f s.line.tx = true) : placeable f s = none := by
  rw [placeable, if_pos (by simp [canPlace, h])]

theorem placeable_full {f : Payload} (hw : waits f s.line.tx = false) (h : ¬s.line.tx.length < 8) : placeable f s = some .txFull := by
  rw [placeable, if_neg (by simp [canPlace, hw, h])]

/-- R37: a frame of which none waits joins where there is room. -/
theorem offer_joins {f : Payload} (hp : s.phase = .active) (hw : waits f s.line.tx = false) (hl : s.line.tx.length < 8) :
    offer f s = setTx (joinQueue f s.line.tx) s := by
  rw [offer, if_neg (not_not.2 hp), hw, if_neg Bool.false_ne_true, if_pos hl]

/-- R38: a frame of which one waits takes its place. -/
theorem offer_replaces {f : Payload} (hp : s.phase = .active) (hw : waits f s.line.tx = true) :
    offer f s = setTx (replaceIn f s.line.tx) s := by
  rw [offer, if_neg (not_not.2 hp), if_pos hw]

/-- A frame of a class without a sort never waits (the table of R38). -/
theorem waits_of_noSort {f : Payload} (hf : ∀ g, sameSort g f = false) (q : List Payload) : waits f q = false :=
  waits_eq_false.2 fun g _ => hf g

theorem cue_noSort (b : AreaBlock) (l d : Nat) (st : Start) (g : Payload) : sameSort g (.cue b l d st) = false := by
  cases g <;> simp [sameSort]

theorem call_noSort (b : AreaBlock) (p : Nat) (c : CallClass) (r : Nat) (st : Start) (q : Option LinkedCue) (g : Payload) :
    sameSort g (.call b p c r st q) = false := by cases g <;> simp [sameSort]

theorem command_noSort (c : Command) (x : Nat) (g : Payload) : sameSort g (.command c x) = false := by cases g <;> simp [sameSort]

theorem curtain_noSort {k : CurtainKind} (hk : k ≠ .raiseHold) (x : Nat) (g : Payload) : sameSort g (.curtain k x) = false := by
  cases g with
  | curtain j y =>
    cases k with
    | raiseHold => exact absurd rfl hk
    | lower | drop | stop => cases j <;> rfl
  | zone | beat | command | curtainState | cue | call | status => rfl

theorem sameSort_raiseHold {g : Payload} {x : Nat} : sameSort g (.curtain .raiseHold x) = true ↔ ∃ y, g = .curtain .raiseHold y := by
  cases g with
  | curtain j y => cases j <;> simp [sameSort]
  | zone | beat | command | curtainState | cue | call | status => simp [sameSort]

/-- R38: a RAISE_HOLD takes the place of the one that waits. -/
theorem replaceIn_raiseHold (x : Nat) (q : List Payload) : replaceIn (.curtain .raiseHold x) q =
    q.map (fun g => match g with | .curtain .raiseHold _ => .curtain .raiseHold x | g => g) := by
  refine List.map_congr_left fun g _ => ?_
  cases g with
  | curtain j y => cases j <;> rfl
  | zone | beat | command | curtainState | cue | call | status => rfl

/-! ## The frames of a request (R142, R160) -/

theorem cueOf_good {a : CueArgs} {st : Start} (hst : Start.ofCodes a.startKind a.startBeat = some st)
    (hb : AreaBlock.named ⟨a.size, a.offset⟩ = true) :
    cueOf a = some (.cue ⟨a.size, a.offset - a.offset % a.size⟩ (min 1000 a.level) (min 240 a.duration) st) := by
  rw [cueOf, hst]
  simp only [hb, if_true, clampTo_zero]
  rfl

theorem cueOf_bad {a : CueArgs} (h : Start.ofCodes a.startKind a.startBeat = none ∨ AreaBlock.named ⟨a.size, a.offset⟩ = false) :
    cueOf a = none := by
  unfold cueOf
  split
  · next st hst =>
    have hb := h.resolve_left (by simp [hst])
    dsimp only
    rw [hb, if_neg Bool.false_ne_true]
  · rfl

theorem callOf_good {a : CallArgs} {c : CallClass} {st : Start} (hc : CallClass.ofCode a.cls = some c)
    (hst : Start.ofCodes a.startKind a.startBeat = some st) (hb : AreaBlock.named ⟨a.size, a.offset⟩ = true) (hp : a.pattern ≤ 7)
    (hf : a.linkedFlag ≤ 1) : callOf a = some (.call ⟨a.size, a.offset - a.offset % a.size⟩ a.pattern c (max 1 (min 16 a.repeats)) st
      (if a.linkedFlag = 1 then some { level := min 1000 a.level, duration := min 240 a.duration } else none)) := by
  rw [callOf, hc, hst]
  simp only [hb, hp, hf, and_true, if_true, clampTo_zero]
  rfl

theorem callOf_bad {a : CallArgs} (h : CallClass.ofCode a.cls = none ∨ Start.ofCodes a.startKind a.startBeat = none
    ∨ AreaBlock.named ⟨a.size, a.offset⟩ = false ∨ 8 ≤ a.pattern ∨ 2 ≤ a.linkedFlag) : callOf a = none := by
  unfold callOf
  split
  · next c st hc hst =>
    dsimp only
    rw [if_neg]
    rintro ⟨hb, hp, hf⟩
    simp only [hc, hst, hb, reduceCtorEq, Bool.true_eq_false, false_or] at h
    omega
  · rfl

/-! ## The requests (O52) -/

theorem callRequest_phase {tag : Nat} {a : CallArgs} {r : RefusalReason} (h : framePhase s = some r) :
    callRequest tag a s = refuse .call tag r s := by rw [callRequest, h]

theorem callRequest_bad {tag : Nat} {a : CallArgs} (h : framePhase s = none) (ha : callOf a = none) :
    callRequest tag a s = refuse .call tag .badValue s := by rw [callRequest, h, ha]

theorem callRequest_frame {tag : Nat} {a : CallArgs} {f : Payload} (h : framePhase s = none) (ha : callOf a = some f) :
    callRequest tag a s = if s.mode = .standby then refuse .call tag .wrongMode s
      else if s.condition = .alarm then refuse .call tag .condition s
      else answerRequest .call tag (placeable f s) (offer f) s := by rw [callRequest, h, ha]

theorem cueRequest_phase {tag : Nat} {a : CueArgs} {r : RefusalReason} (h : framePhase s = some r) :
    cueRequest tag a s = refuse .cue tag r s := by rw [cueRequest, h]

theorem cueRequest_bad {tag : Nat} {a : CueArgs} (h : framePhase s = none) (ha : cueOf a = none) :
    cueRequest tag a s = refuse .cue tag .badValue s := by rw [cueRequest, h, ha]

theorem cueRequest_frame {tag : Nat} {a : CueArgs} {f : Payload} (h : framePhase s = none) (ha : cueOf a = some f) :
    cueRequest tag a s = answerRequest .cue tag (placeable f s) (offer f) s := by rw [cueRequest, h, ha]

/-- R115: the checks of a curtain request in ACTIVE, in their order. -/
theorem curtainRefusal_active {k : CurtainKind} {target : Nat} (h : framePhase s = none) : curtainRefusal k target s =
    if !curtainPermitted k (some s.cfg.role) then some .noAuthority
    else if target = 0 ∨ 31 < target then some .badValue
    else if k = .raiseHold ∧ !satisfied s.peers.table target then some .notPresent
    else placeable (.curtain k target) s := by rw [curtainRefusal, h]

/-- R115: a curtain request in ACTIVE that no check but the last bars. -/
theorem curtainRefusal_last {k : CurtainKind} {target : Nat} (h : framePhase s = none)
    (hperm : curtainPermitted k (some s.cfg.role) = true) (h1 : 1 ≤ target) (h31 : target ≤ 31)
    (hs : k = .raiseHold → satisfied s.peers.table target = true) : curtainRefusal k target s = placeable (.curtain k target) s := by
  rw [curtainRefusal_active h, if_neg (by simp [hperm]), if_neg (by omega), if_neg]
  rintro ⟨hk, hno⟩
  simp [hs hk] at hno

theorem curtainRefusal_noAuthority {k : CurtainKind} {target : Nat} (h : framePhase s = none)
    (hperm : curtainPermitted k (some s.cfg.role) = false) : curtainRefusal k target s = some .noAuthority := by
  rw [curtainRefusal_active h, if_pos (by simp [hperm])]

theorem curtainRefusal_badValue {k : CurtainKind} {target : Nat} (h : framePhase s = none)
    (hperm : curtainPermitted k (some s.cfg.role) = true) (ht : target = 0 ∨ 32 ≤ target) :
    curtainRefusal k target s = some .badValue := by
  rw [curtainRefusal_active h, if_neg (by simp [hperm]), if_pos (by omega)]

/-- Settles O52: by the phase, then in ACTIVE by the first check that bars the request. -/
theorem frameRequestsAreJudgedInOrder : Obligations.FrameRequestsAreJudgedInOrder := by
  intro s tag target call cue hfree before answered sends refuses curtainRefuses allRefuse ordered room mayDrop holdWaits
  have hbefore : before = { s with panel := before.panel } := recordSent_eq s
  have hrefuses {i : Instr} {k : RequestKind} {r : RefusalReason} {request : State → State}
      (hi : exec i s = .next (completeTransfer request s)) (hr : request before = refuse k tag r before) : refuses i k r :=
    exec_request hi hfree hr
  have hphase : before.phase = s.phase := by rw [hbefore]
  have hline : before.line = s.line := by rw [hbefore]
  have hplaced {k : RequestKind} (q : List Payload) : place (.taken k tag) (setTx q before)
      = { answered (.taken k tag) with line := { s.line with tx := q } } := by
    rw [setTx, hline]
    rfl
  have hcfg : before.cfg = s.cfg := by rw [hbefore]; rfl
  have hpeers : before.peers = s.peers := by rw [hbefore]
  have hmode : before.mode = s.mode := by rw [hbefore]
  have hcond : before.condition = s.condition := by rw [hbefore]
  have hsends {i : Instr} {k : RequestKind} {f : Payload} {request : State → State} (hp : s.phase = .active)
      (hi : exec i s = .next (completeTransfer request s))
      (hr : request before = answerRequest k tag (placeable f before) (offer f) before) (hf : waits f s.line.tx = false)
      (ho : ordered) (hl : room) : sends i k f := by
    refine ⟨joinQueue f s.line.tx, joinQueue_joined f ho, exec_request hi hfree (hr.trans ?_)⟩
    rw [answerRequest_taken (placeable_room (by rw [hline]; exact hl)),
      offer_joins (hphase.trans hp) (by rw [hline]; exact hf) (by rw [hline]; exact hl), hline, hplaced]
  have hfull {i : Instr} {k : RequestKind} {f : Payload} {request : State → State}
      (hi : exec i s = .next (completeTransfer request s))
      (hr : request before = answerRequest k tag (placeable f before) (offer f) before) (hf : waits f s.line.tx = false)
      (hl : ¬room) : refuses i k .txFull :=
    hrefuses hi (hr.trans (answerRequest_refused (placeable_full (by rw [hline]; exact hf) (by rw [hline]; exact hl))))
  have hall {r : RefusalReason} (h : framePhase before = some r) : allRefuse r := by
    have hcur (k : CurtainKind) : curtainRefusal k target before = some r := by rw [curtainRefusal, h]
    exact ⟨hrefuses (exec_call s _ _) (callRequest_phase h), hrefuses (exec_cue s _ _) (cueRequest_phase h),
      hrefuses (exec_curtainLower s _ _) (answerRequest_refused (hcur _)), hrefuses (exec_curtainDrop s _ _) (answerRequest_refused (hcur _)),
      hrefuses (exec_curtainStop s _ _) (answerRequest_refused (hcur _)),
      hrefuses (exec_curtainRaiseHold s _ _) (answerRequest_refused (hcur _))⟩
  refine ⟨fun hp => hall (framePhase_unconfigured (hphase.trans hp)), fun hp => hall (framePhase_notReady (by rwa [hphase])),
    fun hp => ?active⟩
  have hact : framePhase before = none := framePhase_active (hphase.trans hp)
  have hrole : before.cfg.role = s.cfg.role := by rw [hcfg]
  have hperm {k : CurtainKind} (h : curtainPermitted k (some s.cfg.role) = true) : curtainPermitted k (some before.cfg.role) = true := by
    rw [hrole]; exact h
  have hdrop : mayDrop ↔ curtainPermitted .drop (some s.cfg.role) = true := by
    simp only [mayDrop]
    cases s.cfg.role <;> simp [curtainPermitted]
  have hstage {k : CurtainKind} (hk : k = .stop ∨ k = .raiseHold) : s.cfg.role = .stage ↔ curtainPermitted k (some s.cfg.role) = true := by
    rcases hk with rfl | rfl <;> simp [curtainPermitted]
  have hwaits : waits (.curtain .raiseHold target) s.line.tx = true ↔ holdWaits := by
    rw [waits_iff]
    simp only [sameSort_raiseHold]
    exact Iff.rfl
  have hnohold (h : ¬holdWaits) : waits (.curtain .raiseHold target) s.line.tx = false := by
    rw [← hwaits] at h
    simpa using h
  have hlast {rk : RequestKind} {k : CurtainKind} (hk : curtainPermitted k (some s.cfg.role) = true) (h1 : 1 ≤ target) (h31 : target ≤ 31)
      (hs : k = .raiseHold → satisfied s.peers.table target = true) : curtainRequest rk tag k target before
        = answerRequest rk tag (placeable (.curtain k target) before) (offer (.curtain k target)) before := by
    rw [curtainRequest, curtainRefusal_last hact (hperm hk) h1 h31 (by rw [hpeers]; exact hs)]
  refine ⟨?cue, ?cueBad, ?callBad, ?call, ?sendsCurtain, ?curtainFull, ?hold, ?curtainBad, ?noStage, ?noDrop⟩
  case cue =>
    intro start hst hb
    have hcue := cueOf_good hst hb
    exact ⟨fun ho hl => hsends hp (exec_cue s _ _) (cueRequest_frame hact hcue) (waits_of_noSort (cue_noSort _ _ _ _) _) ho hl,
      fun hl => hfull (exec_cue s _ _) (cueRequest_frame hact hcue) (waits_of_noSort (cue_noSort _ _ _ _) _) hl⟩
  case cueBad => exact fun h => hrefuses (exec_cue s _ _) (cueRequest_bad hact (cueOf_bad h))
  case callBad => exact fun h => hrefuses (exec_call s _ _) (callRequest_bad hact (callOf_bad h))
  case call =>
    intro cls start hc hst hb hpat hflag
    have hcall := callRequest_frame (tag := tag) hact (callOf_good hc hst hb hpat hflag)
    rw [hmode, hcond] at hcall
    refine ⟨fun hm => hrefuses (exec_call s _ _) ?_, fun hm hal => hrefuses (exec_call s _ _) ?_,
      fun hm hal hl => hfull (exec_call s _ _) (hcall.trans ((if_neg hm).trans (if_neg hal))) (waits_of_noSort (call_noSort _ _ _ _ _ _) _) hl,
      fun hm hal ho hl => hsends hp (exec_call s _ _) (hcall.trans ((if_neg hm).trans (if_neg hal))) (waits_of_noSort (call_noSort _ _ _ _ _ _) _) ho hl⟩
    · rw [hcall, if_pos hm]
    · rw [hcall, if_neg hm, if_pos hal]
  case sendsCurtain =>
    intro h1 h31 ho hl
    refine ⟨hsends hp (exec_curtainLower s _ _) (hlast rfl h1 h31 (by simp)) (waits_of_noSort (curtain_noSort (by decide) _) _) ho hl,
      fun hm => hsends hp (exec_curtainDrop s _ _) (hlast (hdrop.1 hm) h1 h31 (by simp)) (waits_of_noSort (curtain_noSort (by decide) _) _)
        ho hl,
      fun hr => hsends hp (exec_curtainStop s _ _) (hlast ((hstage (.inl rfl)).1 hr) h1 h31 (by simp))
        (waits_of_noSort (curtain_noSort (by decide) _) _) ho hl,
      fun hr hs hno => hsends hp (exec_curtainRaiseHold s _ _) (hlast ((hstage (.inr rfl)).1 hr) h1 h31 (fun _ => hs)) (hnohold hno) ho hl⟩
  case curtainFull =>
    intro h1 h31 hl
    refine ⟨hfull (exec_curtainLower s _ _) (hlast rfl h1 h31 (by simp)) (waits_of_noSort (curtain_noSort (by decide) _) _) hl,
      fun hm => hfull (exec_curtainDrop s _ _) (hlast (hdrop.1 hm) h1 h31 (by simp)) (waits_of_noSort (curtain_noSort (by decide) _) _) hl,
      fun hr => hfull (exec_curtainStop s _ _) (hlast ((hstage (.inl rfl)).1 hr) h1 h31 (by simp))
        (waits_of_noSort (curtain_noSort (by decide) _) _) hl,
      fun hr hs hno => hfull (exec_curtainRaiseHold s _ _) (hlast ((hstage (.inr rfl)).1 hr) h1 h31 (fun _ => hs)) (hnohold hno) hl⟩
  case hold =>
    intro h1 h31 hr
    refine ⟨fun hs => hrefuses (exec_curtainRaiseHold s _ _) (answerRequest_refused ?_), fun hs hw =>
      exec_request (exec_curtainRaiseHold s _ _) hfree ?_⟩
    · rw [curtainRefusal_active hact, if_neg (by simp [hperm ((hstage (.inr rfl)).1 hr)]), if_neg (by omega),
        if_pos ⟨rfl, by rw [hpeers, hs]; rfl⟩]
    · refine (hlast ((hstage (.inr rfl)).1 hr) h1 h31 (fun _ => hs)).trans ?_
      have hwait : waits (.curtain .raiseHold target) before.line.tx = true := by rw [hline]; exact hwaits.2 hw
      rw [answerRequest_taken (placeable_waits hwait), offer_replaces (hphase.trans hp) hwait, hline, replaceIn_raiseHold]
      exact hplaced _
  case curtainBad =>
    intro ht
    have hbad {rk : RequestKind} {k : CurtainKind} (hk : curtainPermitted k (some s.cfg.role) = true) :
        curtainRequest rk tag k target before = refuse rk tag .badValue before :=
      answerRequest_refused (curtainRefusal_badValue hact (hperm hk) ht)
    exact ⟨hrefuses (exec_curtainLower s _ _) (hbad rfl), fun hm => hrefuses (exec_curtainDrop s _ _) (hbad (hdrop.1 hm)),
      fun hr => ⟨hrefuses (exec_curtainStop s _ _) (hbad ((hstage (.inl rfl)).1 hr)),
        hrefuses (exec_curtainRaiseHold s _ _) (hbad ((hstage (.inr rfl)).1 hr))⟩⟩
  case noStage =>
    intro hr
    have hno {rk : RequestKind} {k : CurtainKind} (hk : k = .stop ∨ k = .raiseHold) :
        curtainRequest rk tag k target before = refuse rk tag .noAuthority before := by
      refine answerRequest_refused (curtainRefusal_noAuthority hact ?_)
      rw [hrole, Bool.eq_false_iff]
      exact fun h => hr ((hstage hk).2 h)
    exact ⟨hrefuses (exec_curtainStop s _ _) (hno (.inl rfl)), hrefuses (exec_curtainRaiseHold s _ _) (hno (.inr rfl))⟩
  case noDrop =>
    intro hm
    refine hrefuses (exec_curtainDrop s _ _) (answerRequest_refused (curtainRefusal_noAuthority hact ?_))
    rw [hrole, Bool.eq_false_iff]
    exact fun h => hm (hdrop.2 h)

end Sys2Proof.Machine
end

section
/-! PROOFS. The panel's command requests (05 section 5.4). -/

namespace Sys2Proof.Machine

variable {s : State} {c : Command} {target tag : Nat} {rk : RequestKind}

/-! ## The checks of a command request, in their order (R89, R91) -/

theorem commandRefusal_unconfigured (h : s.phase = .unconfigured) (key valid : Bool) :
    commandRefusal key valid c target s = some .unconfigured := if_pos h

theorem commandRefusal_configRead (h : s.phase = .configRead) (key valid : Bool) :
    commandRefusal key valid c target s = some .notReady := by
  rw [commandRefusal, if_neg (by simp [h]), if_pos h]

/-- R89: in LISTEN and ACTIVE the phase bars nothing. -/
theorem commandRefusal_working (h : s.working = true) (key valid : Bool) : commandRefusal key valid c target s =
    if !(key && rolePermitted c s.cfg.role) then some .noAuthority
    else if !valid || decide (31 < target) then some .badValue
    else if c = .silence ∧ target = s.cfg.station ∧ s.condition ≠ .alarm then some .condition
    else none := by
  have hphase : s.phase ≠ .unconfigured ∧ s.phase ≠ .configRead := by
    rw [State.working] at h
    constructor <;> rintro hp <;> rw [hp] at h <;> simp at h
  rw [commandRefusal, if_neg hphase.1, if_neg hphase.2]

theorem commandRefusal_noAuthority (h : s.working = true) {key : Bool} (valid : Bool)
    (hk : key = false ∨ ¬rolePermitted c s.cfg.role = true) : commandRefusal key valid c target s = some .noAuthority := by
  rw [commandRefusal_working h, if_pos]
  rcases hk with hk | hk <;> simp [hk]

theorem commandRefusal_badValue (h : s.working = true) {valid : Bool} (hr : rolePermitted c s.cfg.role = true)
    (hv : valid = false ∨ 32 ≤ target) : commandRefusal true valid c target s = some .badValue := by
  rw [commandRefusal_working h, if_neg (by simp [hr]), if_pos]
  rcases hv with hv | hv
  · simp [hv]
  · simp only [Bool.or_eq_true, decide_eq_true_eq]
    exact .inr (by omega)

theorem commandRefusal_condition (h : s.working = true) (hr : rolePermitted .silence s.cfg.role = true) (ht : target ≤ 31)
    (hown : target = s.cfg.station) (hc : s.condition ≠ .alarm) : commandRefusal true true .silence target s = some .condition := by
  rw [commandRefusal_working h, if_neg (by simp [hr]), if_neg (by simp; omega), if_pos ⟨rfl, hown, hc⟩]

theorem commandRefusal_none (h : s.working = true) {valid : Bool} (hv : valid = true) (hr : rolePermitted c s.cfg.role = true)
    (ht : target ≤ 31) (hs : c = .silence → target ≠ s.cfg.station ∨ s.condition = .alarm) :
    commandRefusal true valid c target s = none := by
  rw [commandRefusal_working h, if_neg (by simp [hr]), if_neg (by simp [hv]; omega), if_neg]
  rintro ⟨hc, hown, hal⟩
  exact (hs hc).elim (fun hne => hne hown) hal

theorem commandRequest_refused {key valid : Bool} {r : RefusalReason} (h : commandRefusal key valid c target s = some r) :
    commandRequest rk tag key valid c target s = refuse rk tag r s := by rw [commandRequest, h]

/-- R91: a command for elsewhere leaves by its frame. -/
theorem commandRequest_frame {key valid : Bool} (h : commandRefusal key valid c target s = none)
    (hl : isZoneCommand c = true → target ≠ s.cfg.station) : commandRequest rk tag key valid c target s
      = answerRequest rk tag (commandFrameRefusal c target s) (offer (.command c target)) s := by
  rw [commandRequest, h]
  exact if_neg fun hlocal => hl hlocal.1 hlocal.2

/-- R90: a zone command that names the own station acts at once. -/
theorem commandRequest_local {key valid : Bool} (h : commandRefusal key valid c target s = none) (hz : isZoneCommand c = true)
    (ht : target = s.cfg.station) : commandRequest rk tag key valid c target s
      = place (.taken rk tag) (takeCommand c s.cfg.station target true s) := by
  rw [commandRequest, h]
  exact if_pos ⟨hz, ht⟩

/-- R88: a mode that has a code. -/
theorem setModeRequest_code (m : Mode) (key : Bool) :
    setModeRequest tag key target m.code s = commandRequest .setMode tag key true (.setMode m) target s := by
  rw [setModeRequest, Mode.ofCode_code]
  rfl

/-- R81: who may give a command at the panel. -/
theorem rolePermitted_command {r : Role} (hc : ∀ m, c ≠ .setMode m) :
    rolePermitted c r = true ↔ r = .fire ∨ r = .foh ∨ r = .stage := by
  rw [rolePermitted_iff]
  constructor
  · rintro (h | h | ⟨h, -⟩) <;> simp [h]
  · rintro (h | h | h)
    · exact .inr (.inr ⟨h, hc⟩)
    · exact .inr (.inl h)
    · exact .inl h

theorem rolePermitted_setMode {r : Role} (m : Mode) : rolePermitted (.setMode m) r = true ↔ r = .foh ∨ r = .stage := by
  cases r <;> simp [rolePermitted]

theorem Mode.ofCode_none {n : Nat} (h : 4 ≤ n) : Mode.ofCode n = none := by
  match n, h with
  | n + 4, _ => rfl

/-! ## The obligation -/

/-- Settles O53: by the phase, and in LISTEN and ACTIVE by the first check that bars the request. -/
theorem commandRequestsSendTheirFrame : Obligations.CommandRequestsSendTheirFrame := by
  intro s tag target zone m key hfree before answered sends refuses mayCommand maySetMode zoneRefuse silenceRefuses modeRefuses
    mayLeave
  have hbefore : before = { s with panel := before.panel } := recordSent_eq s
  have hphase : before.phase = s.phase := by rw [hbefore]
  have hline : before.line = s.line := by rw [hbefore]
  have hcfg : before.cfg = s.cfg := by rw [hbefore]; rfl
  have hcond : before.condition = s.condition := by rw [hbefore]
  have hrefuses {i : Instr} {k : RequestKind} {r : RefusalReason} {key valid : Bool} {c : Command}
      (hi : exec i s = .next (completeTransfer (commandRequest k tag key valid c target) s))
      (hr : commandRefusal key valid c target before = some r) : refuses i k r :=
    exec_request hi hfree (commandRequest_refused hr)
  have hmode (key : Bool) : exec (.setMode tag key target m.code) s
      = .next (completeTransfer (commandRequest .setMode tag key true (.setMode m) target) s) := by
    rw [exec_setMode]
    exact congrArg (fun f => Host.Outcome.next (completeTransfer f s)) (funext fun u => setModeRequest_code m key)
  have hall {key : Bool} {r : RefusalReason} (h : ∀ valid c, commandRefusal key valid c target before = some r) :
      zoneRefuse key r ∧ silenceRefuses key r ∧ modeRefuses key r :=
    ⟨⟨hrefuses (exec_ack s _ _ _ _) (h _ _), hrefuses (exec_reset s _ _ _) (h _ _), hrefuses (exec_isolate s _ _ _ _) (h _ _),
      hrefuses (exec_restore s _ _ _ _) (h _ _)⟩, hrefuses (exec_silence s _ _ _) (h _ _), hrefuses (hmode key) (h _ _)⟩
  have hmay {c : Command} (hc : ∀ m, c ≠ .setMode m) : mayCommand ↔ rolePermitted c before.cfg.role = true := by
    rw [hcfg]; exact (rolePermitted_command hc).symm
  have hmaySet (m : Mode) : maySetMode ↔ rolePermitted (.setMode m) before.cfg.role = true := by
    rw [hcfg]; exact (rolePermitted_setMode m).symm
  have hstation : before.cfg.station = s.cfg.station := by rw [hcfg]
  have hleaves {i : Instr} {k : RequestKind} {valid : Bool} {c : Command} (hw : s.working = true)
      (hi : exec i s = .next (completeTransfer (commandRequest k tag true valid c target) s)) (hv : valid = true)
      (hr : rolePermitted c before.cfg.role = true) (ht : target ≤ 31) (hl : isZoneCommand c = true → target ≠ s.cfg.station)
      (hs : c = .silence → target ≠ s.cfg.station ∨ s.condition = .alarm) : exec i s = .next
        (answerRequest k tag (commandFrameRefusal c target before) (offer (.command c target)) before) := by
    refine exec_request hi hfree (commandRequest_frame (commandRefusal_none ?_ hv hr ht ?_) ?_)
    · rwa [State.working, hphase]
    · rwa [hstation, hcond]
    · rwa [hstation]
  have hwork (hp : s.phase = .active ∨ s.phase = .listen) : s.working = true := by
    rw [State.working]
    rcases hp with hp | hp <;> rw [hp] <;> rfl
  have hsilence {c : Command} (hc : isZoneCommand c = true) (hn : c = .silence) : target ≠ s.cfg.station ∨ s.condition = .alarm := by
    rw [hn] at hc; cases hc
  have hack (hw : s.working = true) (ht : target ≤ 31) (hm : mayCommand) (hne : target ≠ s.cfg.station) (hz : zone ≤ 8) :=
    hleaves hw (exec_ack s tag true target zone) (decide_eq_true hz) ((hmay (by simp)).1 hm) ht (fun _ => hne) (hsilence rfl)
  have hreset (hw : s.working = true) (ht : target ≤ 31) (hm : mayCommand) (hne : target ≠ s.cfg.station) :=
    hleaves hw (exec_reset s tag true target) rfl ((hmay (by simp)).1 hm) ht (fun _ => hne) (hsilence rfl)
  have hisolate (hw : s.working = true) (ht : target ≤ 31) (hm : mayCommand) (hne : target ≠ s.cfg.station) (hz : zone ≤ 7) :=
    hleaves hw (exec_isolate s tag true target zone) (decide_eq_true hz) ((hmay (by simp)).1 hm) ht (fun _ => hne) (hsilence rfl)
  have hrestore (hw : s.working = true) (ht : target ≤ 31) (hm : mayCommand) (hne : target ≠ s.cfg.station) (hz : zone ≤ 7) :=
    hleaves hw (exec_restore s tag true target zone) (decide_eq_true hz) ((hmay (by simp)).1 hm) ht (fun _ => hne) (hsilence rfl)
  have hsilences (hw : s.working = true) (ht : target ≤ 31) (hm : mayCommand) (hs : target ≠ s.cfg.station ∨ s.condition = .alarm) :=
    hleaves hw (exec_silence s tag true target) rfl ((hmay (by simp)).1 hm) ht (by simp [isZoneCommand]) (fun _ => hs)
  have hsetMode (hw : s.working = true) (ht : target ≤ 31) (hm : maySetMode) :=
    hleaves hw (hmode true) rfl ((hmaySet m).1 hm) ht (by simp [isZoneCommand]) (by simp)
  have hleave {r : RefusalReason} (hp : s.phase = .active ∨ s.phase = .listen) (ht : target ≤ 31)
      (hr : ∀ c, commandFrameRefusal c target before = some r) : mayLeave r := by
    have hgone {i : Instr} {k : RequestKind} {c : Command} (h : exec i s = .next
        (answerRequest k tag (commandFrameRefusal c target before) (offer (.command c target)) before)) : refuses i k r :=
      h.trans (congrArg Host.Outcome.next (answerRequest_refused (hr c)))
    exact ⟨fun hm hne hz => ⟨hgone (hack (hwork hp) ht hm hne (by omega)), hgone (hreset (hwork hp) ht hm hne),
        hgone (hisolate (hwork hp) ht hm hne hz), hgone (hrestore (hwork hp) ht hm hne hz)⟩,
      fun hm hs => hgone (hsilences (hwork hp) ht hm hs), fun hm => hgone (hsetMode (hwork hp) ht hm)⟩
  refine ⟨fun hp ho hl ht => ?sent, fun hp hfull ht => hleave (.inl hp) ht fun c => ?_, fun hp ht => hleave (.inr hp) ht fun c => ?_,
    fun hp => hall fun valid c => commandRefusal_unconfigured (hphase.trans hp) _ _,
    fun hp => hall fun valid c => commandRefusal_configRead (hphase.trans hp) _ _, fun hw => ?barred⟩
  case sent =>
    have hgone {i : Instr} {k : RequestKind} {c : Command} (h : exec i s = .next
        (answerRequest k tag (commandFrameRefusal c target before) (offer (.command c target)) before)) : sends i k c := by
      refine ⟨joinQueue (.command c target) s.line.tx, joinQueue_joined _ ho, h.trans (congrArg Host.Outcome.next ?_)⟩
      have hnone : commandFrameRefusal c target before = none := by
        rw [commandFrameRefusal, if_neg (not_not.2 (hphase.trans hp)), placeable_room (by rw [hline]; exact hl)]
      rw [answerRequest_taken hnone, offer_joins (hphase.trans hp) (waits_of_noSort (command_noSort _ _) _) (by rw [hline]; exact hl),
        setTx, hline]
      rfl
    have hw := hwork (.inl hp)
    exact ⟨fun hm hne => ⟨fun hz => hgone (hack hw ht hm hne hz), hgone (hreset hw ht hm hne),
        fun hz => ⟨hgone (hisolate hw ht hm hne hz), hgone (hrestore hw ht hm hne hz)⟩⟩,
      fun hm hs => hgone (hsilences hw ht hm hs), fun hm => hgone (hsetMode hw ht hm)⟩
  · rw [commandFrameRefusal, if_neg (not_not.2 (hphase.trans hp)), placeable_full (waits_of_noSort (command_noSort _ _) _)
      (by rw [hline]; omega)]
  · rw [commandFrameRefusal, if_pos (by rw [hphase, hp]; decide)]
  case barred =>
    have hwb : before.working = true := by rwa [State.working, hphase]
    have hkey {c : Command} (hc : ∀ m, c ≠ .setMode m) (h : key = false ∨ ¬mayCommand) :
        key = false ∨ ¬rolePermitted c before.cfg.role = true := h.imp_right fun h hr => h ((hmay hc).2 hr)
    refine ⟨fun h => ⟨⟨hrefuses (exec_ack s _ _ _ _) ?_, hrefuses (exec_reset s _ _ _) ?_, hrefuses (exec_isolate s _ _ _ _) ?_,
        hrefuses (exec_restore s _ _ _ _) ?_⟩, hrefuses (exec_silence s _ _ _) ?_⟩, fun h => hrefuses (hmode key) ?_,
      fun hm => ⟨fun hz => hrefuses (exec_ack s _ _ _ _) ?_, fun hz => ⟨hrefuses (exec_isolate s _ _ _ _) ?_,
          hrefuses (exec_restore s _ _ _ _) ?_⟩, fun ht => ⟨hrefuses (exec_reset s _ _ _) ?_, hrefuses (exec_silence s _ _ _) ?_⟩,
        fun hown ht hal => hrefuses (exec_silence s _ _ _) ?_⟩, fun hm hz => hrefuses (exec_setMode s _ _ _ _) ?_⟩
    · exact commandRefusal_noAuthority hwb _ (hkey (by simp) h)
    · exact commandRefusal_noAuthority hwb _ (hkey (by simp) h)
    · exact commandRefusal_noAuthority hwb _ (hkey (by simp) h)
    · exact commandRefusal_noAuthority hwb _ (hkey (by simp) h)
    · exact commandRefusal_noAuthority hwb _ (hkey (by simp) h)
    · exact commandRefusal_noAuthority hwb _ (h.imp_right fun h hr => h ((hmaySet m).2 hr))
    · exact commandRefusal_badValue hwb ((hmay (by simp)).1 hm) (hz.imp_left fun h => decide_eq_false (by omega))
    · exact commandRefusal_badValue hwb ((hmay (by simp)).1 hm) (hz.imp_left fun h => decide_eq_false (by omega))
    · exact commandRefusal_badValue hwb ((hmay (by simp)).1 hm) (hz.imp_left fun h => decide_eq_false (by omega))
    · exact commandRefusal_badValue hwb ((hmay (by simp)).1 hm) (.inr ht)
    · exact commandRefusal_badValue hwb ((hmay (by simp)).1 hm) (.inr ht)
    · exact commandRefusal_condition hwb ((hmay (by simp)).1 hm) ht (hown.trans hstation.symm) (by rw [hcond]; exact hal)
    · exact commandRefusal_badValue hwb ((hmaySet _).1 hm) (hz.imp_left fun h => by rw [Mode.ofCode_none h]; rfl)

end Sys2Proof.Machine
end

section
/-! PROOFS. The own zones: their changes, the escalations, and a sample event (01 sections 1.2 to 1.5). -/

namespace Sys2Proof.Machine

variable {s t : State}

/-! ## The escalations (R13, R14) -/

/-- The record of a zone that coincidence takes to ALARM where it can be escalated. -/
def escalated (s : State) (y : ZoneRecord) : ZoneRecord := if escalates s y then y.to .alarm none else y

/-- R13: who takes part reads the configuration alone. -/
theorem participates_congr (hc : t.config = s.config) (y : ZoneRecord) : participates t y = participates s y := by
  simp only [participates, State.concerns, State.cfg, hc]

theorem escalates_congr (hc : t.config = s.config) (y : ZoneRecord) : escalates t y = escalates s y := by
  simp only [escalates, participates_congr hc]

theorem escalated_congr (hc : t.config = s.config) : escalated t = escalated s := by
  funext y
  rw [escalated, escalated, escalates_congr hc]

/-- R13: an escalation changes its own zone alone. -/
theorem escalateZone_zones (n m : Nat) (s : State) : (escalateZone n s).zones[m]? =
    if m = n then (s.zones[m]?).map (escalated s) else s.zones[m]? := by
  unfold escalateZone
  split
  · next y hy =>
    obtain ⟨hlt, rfl⟩ := List.getElem?_eq_some_iff.1 hy
    by_cases hmn : m = n
    · subst hmn
      rw [if_pos rfl, hy, Option.map_some, escalated]
      split
      · rw [changeZone_zones, List.getElem?_set_self hlt]
      · exact hy
    · rw [if_neg hmn]
      split
      · rw [changeZone_zones, List.getElem?_set_ne (Ne.symm hmn)]
      · rfl
  · next hy =>
    split
    · next hmn => rw [hmn, hy]; rfl
    · rfl

/-- R13, R14: after the escalations each zone but the one excepted has gone to ALARM where it could. -/
theorem escalate_zones (except : Option Nat) (s : State) (m : Nat) : (escalate except s).zones[m]? =
    if except = some m then s.zones[m]? else (s.zones[m]?).map (escalated s) := by
  have hfold (k : Nat) : ((List.range k).foldl (fun s n => if except = some n then s else escalateZone n s) s).config = s.config
      ∧ ((List.range k).foldl (fun s n => if except = some n then s else escalateZone n s) s).zones[m]? =
        if except = some m ∨ k ≤ m then s.zones[m]? else (s.zones[m]?).map (escalated s) := by
    induction k with
    | zero => exact ⟨rfl, by simp⟩
    | succ k ih =>
      obtain ⟨hc, hz⟩ := ih
      rw [List.range_succ, List.foldl_append]
      generalize (List.range k).foldl (fun s n => if except = some n then s else escalateZone n s) s = u at hc hz
      simp only [List.foldl_cons, List.foldl_nil]
      split
      · next hk =>
        refine ⟨hc, hz.trans ?_⟩
        by_cases hm : except = some m
        · simp [hm]
        · have : m ≠ k := fun h => hm (h ▸ hk)
          simp only [hm, false_or, show k ≤ m ↔ k + 1 ≤ m by omega]
      · next hk =>
        refine ⟨(escalateZone_frame u k).2.1.trans hc, ?_⟩
        rw [escalateZone_zones, hz, escalated_congr hc]
        by_cases hmk : m = k
        · subst hmk
          simp [hk]
        · simp only [hmk, if_false, show k ≤ m ↔ k + 1 ≤ m by omega]
  rw [escalate, (hfold _).2]
  by_cases hm : except = some m
  · simp [hm]
  · simp only [hm, false_or, if_false]
    split
    · next hlen => rw [List.getElem?_eq_none hlen]; rfl
    · rfl

/-! ## A zone that moves (R13, R14, R16) -/

/-- A zone's record after its own move, and every other zone's after the escalation it brings. -/
theorem moveZone_zones {n : Nat} {z : ZoneRecord} (z' : ZoneRecord) (cause : ZoneCause) (hz : s.zones[n]? = some z) (m : Nat) :
    (moveZone n z' cause s).zones[m]? = if m = n then some z'
      else if z.state ≠ z'.state ∧ inActivity z'.state ∧ participates s z' then (s.zones[m]?).map (escalated s) else s.zones[m]? := by
  obtain ⟨hlt, -⟩ := List.getElem?_eq_some_iff.1 hz
  have hset : (changeZone n z' cause s).zones[m]? = if m = n then some z' else s.zones[m]? := by
    rw [changeZone_zones, List.getElem?_set]
    by_cases hmn : m = n
    · subst hmn; simp [hlt]
    · simp [hmn, Ne.symm hmn]
  have hconfig : (changeZone n z' cause s).config = s.config := (changeZone_frame s n z' cause).2.1
  unfold moveZone
  rw [hz]
  dsimp only
  split
  · rw [escalate_zones, hset, escalated_congr hconfig]
    by_cases hmn : m = n
    · simp [hmn]
    · simp [hmn, Ne.symm hmn]
  · exact hset

/-- A move into activity leaves the zones as `ZonesAfter` says. -/
theorem moveZone_zonesAfter {n : Nat} {z z' : ZoneRecord} (cause : ZoneCause) (hz : s.zones[n]? = some z) (hne : z.state ≠ z'.state) :
    ZonesAfter s n z' (moveZone n z' cause s) := by
  intro m
  rw [moveZone_zones z' cause hz m]
  by_cases hmn : m = n
  · rw [if_pos hmn, if_pos hmn]
  · rw [if_neg hmn, if_neg hmn]
    by_cases hact : inActivity z'.state = true ∧ participates s z' = true
    · rw [if_pos ⟨hne, hact⟩]
      simp only [hact.1, hact.2, Bool.true_and]
      rfl
    · rw [if_neg (fun h => hact h.2)]
      have : (inActivity z'.state && participates s z') = false := by
        rw [Bool.eq_false_iff, Ne, Bool.and_eq_true]
        exact hact
      simp [this]

/-- A move out of activity changes its own zone alone. -/
theorem moveZone_quiet {n : Nat} {z : ZoneRecord} (z' : ZoneRecord) (cause : ZoneCause) (hz : s.zones[n]? = some z)
    (hq : inActivity z'.state = false) : (moveZone n z' cause s).zones = s.zones.set n z' := by
  refine List.ext_getElem? fun m => ?_
  obtain ⟨hlt, -⟩ := List.getElem?_eq_some_iff.1 hz
  rw [moveZone_zones z' cause hz m, List.getElem?_set]
  by_cases hmn : m = n
  · subst hmn; simp [hlt]
  · simp [hmn, Ne.symm hmn, hq]

theorem moveZone_zoneFrame (n : Nat) (z : ZoneRecord) (cause : ZoneCause) (s : State) : ZoneFrame s (moveZone n z cause s) := by
  obtain ⟨hmode, hconfig, hclamp, hheld, hbeat, hpins, hunder, hpending⟩ := moveZone_frame s n z cause
  exact ⟨hmode, hconfig, hbeat, hpins, hclamp, hheld, hunder, hpending⟩

/-- R16: an announcement begins with its report. -/
theorem announceZone_reports (n : Nat) (prev : ZoneState) (z : ZoneRecord) (cause : ZoneCause) (s : State) :
    PanelGrows (report (.zoneChanged n z.area prev z.state cause) s).panel (announceZone n prev z cause s).panel := by
  unfold announceZone
  dsimp only
  generalize hs2 : (if z.state = .alarm ∧ (report (.zoneChanged n z.area prev z.state cause) s).phase = .listen then
    enterActive .ownAlarm ((report (.zoneChanged n z.area prev z.state cause) s).setListenCount 0)
    else report (.zoneChanged n z.area prev z.state cause) s) = s2
  have hgrows : PanelGrows (report (.zoneChanged n z.area prev z.state cause) s).panel s2.panel := by
    rw [← hs2]
    split
    · exact enterActive_grows _ _ _ (PanelGrows.refl _)
    · exact PanelGrows.refl _
  split
  · exact countedAlarm_grows _ _ (recompute_grows _ _ (offer_grows _ _ _ hgrows))
  · exact recompute_grows _ _ (offer_grows _ _ _ hgrows)

/-- R16: the report of its change is the first that a move makes. -/
theorem moveZone_firstReport {n : Nat} {z z' : ZoneRecord} (cause : ZoneCause) (hz : s.zones[n]? = some z) (hne : z.state ≠ z'.state) :
    FirstReport s (.zoneChanged n z'.area z.state z'.state cause) (moveZone n z' cause s) := by
  have hchange : PanelGrows (report (.zoneChanged n z'.area z.state z'.state cause) s).panel (changeZone n z' cause s).panel := by
    unfold changeZone
    rw [hz]
    dsimp only
    rw [if_neg hne]
    exact announceZone_reports n z.state z' cause (setZone n z' s)
  unfold moveZone
  rw [hz]
  dsimp only
  split
  · exact FirstReport.of_grows (escalate_grows _ _ _ hchange)
  · exact FirstReport.of_grows hchange

/-! ## The timers (O13) -/

/-- R10, R11: an expiry of an enabled zone in its timed state. -/
theorem expireFrom_expires {st : ZoneState} {n : Nat} {z : ZoneRecord} (hz : s.zones[n]? = some z) (he : z.enabled = true)
    (hst : z.state = st) (ht : z.timer.isSome = true) (hr : z.restarted = false) :
    expireFrom st n s = moveZone n (z.to .alarm none) (expiryCause st) s := by
  rw [expireFrom, hz]
  dsimp only
  rw [if_pos ⟨he, hst, ht⟩, hr, if_neg Bool.false_ne_true, expireZone, hz]
  dsimp only
  rw [hst]

/-- Settles O13: an expiry is a move into ALARM. -/
theorem timerExpiryTakesAlarm : Obligations.TimerExpiryTakesAlarm := by
  intro s n z hw hz he ht
  have hexpire {st : ZoneState} (hst : z.state = st) (hne : st ≠ .alarm) (hr : z.restarted = false) :
      ZonesAfter s n { z with state := .alarm, timer := none, restarted := false } (expireFrom st n s)
        ∧ ZoneFrame s (expireFrom st n s) ∧ FirstReport s (.zoneChanged n z.area st .alarm (expiryCause st)) (expireFrom st n s) := by
    have hne' : z.state ≠ (z.to .alarm none).state := by rw [hst]; exact hne
    rw [expireFrom_expires hz he hst ht hr]
    have hfirst := moveZone_firstReport (expiryCause st) hz hne'
    rw [hst] at hfirst
    exact ⟨moveZone_zonesAfter _ hz hne', moveZone_zoneFrame _ _ _ _, hfirst⟩
  have hwork (f : State → State) : whileWorking f s = f s := if_pos hw
  refine ⟨fun hst hr => ⟨_, congrArg Host.Outcome.next (hwork _), hexpire hst (by decide) hr⟩, fun hst hr => ?_,
    fun hst hr => ⟨_, congrArg Host.Outcome.next (hwork _), hexpire hst (by decide) hr⟩⟩
  rw [exec_t1Expiry, hwork, expireFrom, hz]
  dsimp only
  rw [if_pos ⟨he, hst, ht⟩, if_pos hr]
  rfl

/-! ## A sample event at zones that only take readings (O11) -/

/-- R4, R5, R8: the record of a QUIET zone that reads CLEAR, or has no reading yet. -/
def clearSampled (z : ZoneRecord) : ZoneRecord :=
  { z with
    history := pushHistory .clear z.history
    reading := formReading (pushHistory .clear z.history) z.reading
    restarted := false
    faultScore := if formReading (pushHistory .clear z.history) z.reading = some .clear then z.faultScore - 1 else z.faultScore }

theorem sampleZone_disabled {n : Nat} {z : ZoneRecord} (hz : s.zones[n]? = some z) (he : z.enabled = false) (pair : Bool × Bool) :
    sampleZone n pair s = s := by
  rw [sampleZone, hz]
  dsimp only
  rw [he, if_neg Bool.false_ne_true]

theorem countTimer_disabled {n : Nat} {z : ZoneRecord} (hz : s.zones[n]? = some z) (he : z.enabled = false) : countTimer n s = s := by
  rw [countTimer, hz]
  dsimp only
  split
  · rw [he]; rfl
  · rfl

/-- R3: a disabled zone is passed over. -/
theorem handleZone_passes {n : Nat} {z : ZoneRecord} (inputs : SampleInputs) (had : List Bool) (hz : s.zones[n]? = some z)
    (he : z.enabled = false) : handleZone inputs had s n = s := by
  unfold handleZone
  dsimp only
  rw [sampleZone_disabled hz he, countTimer_disabled hz he, ite_self]

/-- R6: stages 1 and 2 at an enabled zone. -/
theorem sampleZone_enabled {n : Nat} {z : ZoneRecord} (hz : s.zones[n]? = some z) (he : z.enabled = true) (pair : Bool × Bool) :
    sampleZone n pair s = match (z.sample (classOf pair)).reading with
      | some r => applyReading n r (z.sample (classOf pair)) (setZone n (z.sample (classOf pair)) s)
      | none => setZone n (z.sample (classOf pair)) s := by
  rw [sampleZone, hz]
  exact if_pos he

theorem setZone_setZone (n : Nat) (y z : ZoneRecord) (s : State) : setZone n z (setZone n y s) = setZone n z s := by
  show s.setZones ((s.zones.set n y).set n z) = s.setZones (s.zones.set n z)
  rw [List.set_set]

/-- R4, R5, R8: a QUIET zone that reads CLEAR, or has no reading yet, takes the sample and stays. -/
theorem sampleZone_clear {n : Nat} {z : ZoneRecord} (hz : s.zones[n]? = some z) (he : z.enabled = true) (hq : z.state = .quiet)
    (hscore : z.faultScore ≤ z.threshold) (hthr : 0 < z.threshold)
    (hr : formReading (pushHistory .clear z.history) z.reading = none ∨ formReading (pushHistory .clear z.history) z.reading = some .clear) :
    sampleZone n (false, false) s = setZone n (clearSampled z) s := by
  rw [sampleZone_enabled hz he]
  rcases hr with hr | hr
  · rw [show (z.sample (classOf (false, false))).reading = none from hr]
    simp only [clearSampled, hr, reduceCtorEq, if_false]
    exact congrArg (setZone n · s) (by rw [ZoneRecord.sample, show classOf (false, false) = .clear from rfl, hr])
  · rw [show (z.sample (classOf (false, false))).reading = some .clear from hr]
    dsimp only
    unfold applyReading
    rw [show (z.sample (classOf (false, false))).state = .quiet from hq]
    dsimp only
    have hlow : ¬(z.sample (classOf (false, false))).threshold ≤ scoreAfter .clear (z.sample (classOf (false, false))) := by
      show ¬z.threshold ≤ z.faultScore - 1
      omega
    rw [if_neg (by decide), if_neg hlow, setZone_setZone]
    refine congrArg (setZone n · s) ?_
    simp only [clearSampled, hr, if_true, scoreAfter, ZoneRecord.sample, show classOf (false, false) = .clear from rfl, hq]

/-- Zones that are handled one after another, each by itself. -/
theorem foldl_setZones {g : State → Nat → State} {f : ZoneRecord → ZoneRecord}
    (hg : ∀ zs n z, s.zones[n]? = some z → zs[n]? = some z → g (s.setZones zs) n = setZone n (f z) (s.setZones zs)) :
    (List.range s.zones.length).foldl g s = s.setZones (s.zones.map f) := by
  have hfold (k : Nat) (hk : k ≤ s.zones.length) :
      (List.range k).foldl g s = s.setZones ((s.zones.take k).map f ++ s.zones.drop k) := by
    induction k with
    | zero => rw [List.take_zero, List.drop_zero]; rfl
    | succ k ih =>
      have hlt : k < s.zones.length := hk
      have hlen : ((s.zones.take k).map f).length = k := by simp; omega
      rw [List.range_succ, List.foldl_append, ih (by omega), List.foldl_cons, List.foldl_nil,
        hg _ k s.zones[k] (List.getElem?_eq_getElem hlt) (by rw [List.getElem?_append_right hlen.le, hlen, Nat.sub_self]; simp)]
      rw [setZone, setZones_zones, List.set_append_right _ _ hlen.le, hlen, Nat.sub_self, List.drop_eq_getElem_cons hlt,
        List.set_cons_zero, List.take_succ_eq_append_getElem hlt, List.map_append, List.append_assoc]
      rfl
  rw [hfold _ le_rfl, List.take_length, List.drop_length, List.append_nil]

/-- Settles O11: each enabled zone takes its sample and stays, and the curtain at rest is not judged. -/
theorem clearSampleOnlyTakesReadings : Obligations.ClearSampleOnlyTakesReadings := by
  intro s inputs hw hh hd hpins hall
  have hzones : sampleZones inputs (markStalled false s) = (markStalled false s).setZones
      (s.zones.map (fun z => if z.enabled then clearSampled z else z)) := by
    refine foldl_setZones (s := markStalled false s) fun zs n z hz hzs => ?_
    cases he : z.enabled
    · rw [handleZone_passes inputs _ hzs he, if_neg Bool.false_ne_true]
      obtain ⟨hlt, rfl⟩ := List.getElem?_eq_some_iff.1 hzs
      rw [setZone, setZones_zones, List.set_getElem_self]
      rfl
    · obtain ⟨hq, htimer, hscore, hthr, hr⟩ := hall z (List.mem_of_getElem? hz) he
      have hhad : ((markStalled false s).zones.map (fun z => z.timer.isSome)).getD n false = false := by
        rw [List.getD_eq_getElem?_getD, List.getElem?_map, hz]
        simp [htimer]
      unfold handleZone
      dsimp only
      rw [hpins, sampleZone_clear (s := (markStalled false s).setZones zs) hzs he hq hscore hthr hr, hhad, if_neg Bool.false_ne_true]
      rfl
  have hcurtain : curtainSample inputs false ((markStalled false s).setZones
      (s.zones.map (fun z => if z.enabled then clearSampled z else z))) = (markStalled false s).setZones
      (s.zones.map (fun z => if z.enabled then clearSampled z else z)) := by
    exact (curtainSample_absent _ _).trans (judgeHandshake_idle hh)
  rw [exec_sampleEvent, whileWorking, if_pos hw, sampleEvent, hd, hzones]
  exact congrArg Host.Outcome.next hcurtain

end Sys2Proof.Machine
end

section
/-! PROOFS. A sample event at the only enabled zone of a station (01 sections 1.2 to 1.4). -/

namespace Sys2Proof.Machine

variable {s t : State} {n : Nat} {z : ZoneRecord}

/-! ## The one enabled zone (O12) -/

/-- Every zone but zone n is disabled. -/
def Alone (n : Nat) (s : State) : Prop := ∀ m y, m ≠ n → s.zones[m]? = some y → y.enabled = false

theorem Alone.setZone (h : Alone n s) (z : ZoneRecord) : Alone n (setZone n z s) := by
  intro m y hm hy
  refine h m y hm ?_
  rwa [Machine.setZone, setZones_zones, List.getElem?_set_ne (Ne.symm hm)] at hy

/-- R13: with no other enabled zone there is none to escalate. -/
theorem moveZone_alone (ha : Alone n s) (hz : s.zones[n]? = some z) (z' : ZoneRecord) (cause : ZoneCause) :
    (moveZone n z' cause s).zones = s.zones.set n z' := by
  refine List.ext_getElem? fun m => ?_
  rw [moveZone_zones z' cause hz m, List.getElem?_set]
  obtain ⟨hlt, -⟩ := List.getElem?_eq_some_iff.1 hz
  by_cases hm : m = n
  · subst hm; simp [hlt]
  · rw [if_neg hm, if_neg (Ne.symm hm)]
    have hstays : (s.zones[m]?).map (escalated s) = s.zones[m]? := by
      cases hy : s.zones[m]? with
      | none => rfl
      | some y =>
        rw [Option.map_some, escalated, if_neg (by simp [escalates, participates, ha m y hm hy])]
    split
    · exact hstays
    · rfl

theorem setZone_getElem? (hz : s.zones[n]? = some z) (y : ZoneRecord) : (setZone n y s).zones[n]? = some y := by
  obtain ⟨hlt, -⟩ := List.getElem?_eq_some_iff.1 hz
  rw [setZone, setZones_zones, List.getElem?_set_self hlt]

/-- R7 to R9: what a reading makes of the one enabled zone, in a state that is not QUIET, FAULT or ISOLATED. -/
theorem applyReading_latched (r : Reading) (h : z.state = .preAlarm ∨ z.state = .investigating ∨ z.state = .alarm) :
    applyReading n r z s = setZone n { z with faultScore := scoreAfter r z } s := by
  unfold applyReading
  rcases h with h | h | h <;> rw [h]

/-- Of events one after another at the zones, only that at zone n does something. -/
theorem foldl_range_only {g : State → Nat → State} {len : Nat} (hn : n < len) (hbefore : ∀ m, m ≠ n → m < len → g s m = s)
    (hafter : ∀ m, m ≠ n → m < len → g (g s n) m = g s n) : (List.range len).foldl g s = g s n := by
  have hfold (k : Nat) (hk : k ≤ len) : (List.range k).foldl g s = if n < k then g s n else s := by
    induction k with
    | zero => rfl
    | succ k ih =>
      rw [List.range_succ, List.foldl_append, ih (by omega), List.foldl_cons, List.foldl_nil]
      rcases Nat.lt_trichotomy n k with hlt | rfl | hgt
      · rw [if_pos hlt, if_pos (by omega), hafter k (by omega) hk]
      · rw [if_neg (by omega), if_pos (by omega)]
      · rw [if_neg (by omega), if_neg (by omega), hbefore k (by omega) hk]
  rw [hfold len le_rfl, if_pos hn]

/-- R3, R6: zones that are passed over leave a sample event to the one enabled zone. -/
theorem sampleZones_alone (inputs : SampleInputs) (ha : Alone n s) (hz : s.zones[n]? = some z)
    (hset : ∀ m, m ≠ n → (handleZone inputs (s.zones.map (fun z => z.timer.isSome)) s n).zones[m]? = s.zones[m]?) :
    sampleZones inputs s = handleZone inputs (s.zones.map (fun z => z.timer.isSome)) s n := by
  unfold sampleZones
  generalize s.zones.map (fun z => z.timer.isSome) = had at hset ⊢
  obtain ⟨hlt, -⟩ := List.getElem?_eq_some_iff.1 hz
  refine foldl_range_only hlt (fun m hm hlen => ?_) fun m hm hlen => ?_
  · have hm' := List.getElem?_eq_getElem hlen
    exact handleZone_passes inputs had hm' (ha m _ hm hm')
  · have hm' := List.getElem?_eq_getElem hlen
    exact handleZone_passes inputs had ((hset m hm).trans hm') (ha m _ hm hm')

/-- R7: with no other enabled zone the companions of zone n are zones of peers. -/
theorem companionActive_alone (ha : Alone n s) :
    companionActive s n = s.peerZones.any (fun y => s.concerns y.area && inActivity y.state) := by
  have hown : s.zones.zipIdx.any (fun p => p.2 != n && participates s p.1 && inActivity p.1.state) = false := by
    rw [List.any_eq_false]
    rintro ⟨y, m⟩ hmem
    have hy : s.zones[m]? = some y := List.mem_zipIdx_iff_getElem?.1 hmem
    by_cases hm : m = n
    · simp [hm]
    · simp [participates, ha m y hm hy]
  rw [companionActive, hown, Bool.false_or]

/-- R7: an ACTIVE reading at the one enabled zone, in QUIET. -/
theorem startAlarm_alone (ha : Alone n s) (hz : s.zones[n]? = some z) :
    (startAlarm n z s).zones = s.zones.set n
      (if z.kind = .callPoint ∨ z.t1 = 0 ∨ (s.concerns z.area = true ∧ ∃ y ∈ s.peerZones, s.concerns y.area = true ∧ inActivity y.state = true)
        then z.to .alarm none else z.to .preAlarm (some z.t1)) := by
  have hcompanion : companionActive s n = true ↔ ∃ y ∈ s.peerZones, s.concerns y.area = true ∧ inActivity y.state = true := by
    simp [companionActive_alone ha]
  unfold startAlarm
  cases hk : z.kind with
  | callPoint => simp only [true_or, if_true]; exact moveZone_alone ha hz _ _
  | detector =>
    simp only [reduceCtorEq, false_or]
    by_cases ht : z.t1 = 0
    · simp only [ht, true_or, if_true]; exact moveZone_alone ha hz _ _
    · simp only [ht, false_or, if_false, Bool.and_eq_true, hcompanion]
      split <;> exact moveZone_alone ha hz _ _

theorem applyReading_quiet_active (hst : z.state = .quiet) : applyReading n .active z s = startAlarm n z s := by
  rw [applyReading, hst]
  exact if_pos rfl

/-- R8: a fault reading, or a CLEAR one, at the one enabled zone in QUIET. -/
theorem applyReading_quiet (ha : Alone n s) (hz : s.zones[n]? = some z) (hst : z.state = .quiet) {x : Reading} (hx : x ≠ .active) :
    (applyReading n x z s).zones = s.zones.set n (if z.threshold ≤ scoreAfter x z
      then { z with faultScore := scoreAfter x z, state := .fault, restarted := false } else { z with faultScore := scoreAfter x z }) := by
  rw [applyReading, hst]
  dsimp only
  rw [if_neg hx]
  split
  · exact moveZone_alone ha hz _ _
  · rfl

/-- R9: a reading at the one enabled zone in FAULT. -/
theorem applyReading_fault (ha : Alone n s) (hz : s.zones[n]? = some z) (hst : z.state = .fault) (x : Reading) :
    (applyReading n x z s).zones = s.zones.set n (if x ≠ .active ∧ scoreAfter x z = 0
      then { z with faultScore := scoreAfter x z, state := .quiet, restarted := false } else { z with faultScore := scoreAfter x z }) := by
  rw [applyReading, hst]
  dsimp only
  split
  · exact moveZone_alone ha hz _ _
  · rfl

/-- R9: an isolated zone takes no reading. -/
theorem applyReading_isolated (hst : z.state = .isolated) (x : Reading) : applyReading n x z s = s := by
  rw [applyReading, hst]

/-- R7 to R9: a reading changes the one enabled zone alone. -/
theorem applyReading_alone (ha : Alone n s) (hz : s.zones[n]? = some z) (r : Reading) :
    ∃ y, (applyReading n r z s).zones = s.zones.set n y ∧ y.enabled = z.enabled := by
  have hself : s.zones = s.zones.set n z := by
    obtain ⟨hlt, rfl⟩ := List.getElem?_eq_some_iff.1 hz
    exact (List.set_getElem_self hlt).symm
  unfold applyReading
  dsimp only
  split
  · exact ⟨z, hself, rfl⟩
  · split
    · refine ⟨_, startAlarm_alone ha hz, ?_⟩
      split <;> rfl
    · split
      · exact ⟨_, moveZone_alone ha hz _ _, rfl⟩
      · exact ⟨_, rfl, rfl⟩
  · split
    · exact ⟨_, moveZone_alone ha hz _ _, rfl⟩
    · exact ⟨_, rfl, rfl⟩
  · exact ⟨_, rfl, rfl⟩

theorem sampleZone_alone (ha : Alone n s) (hz : s.zones[n]? = some z) (he : z.enabled = true) (pair : Bool × Bool) :
    ∃ y, (sampleZone n pair s).zones = s.zones.set n y ∧ y.enabled = true := by
  rw [sampleZone_enabled hz he]
  cases hr : (z.sample (classOf pair)).reading with
  | none => exact ⟨_, rfl, he⟩
  | some r =>
    obtain ⟨y, hy, hye⟩ := applyReading_alone (ha.setZone _) (setZone_getElem? hz (z.sample (classOf pair))) r
    refine ⟨y, hy.trans ?_, hye.trans he⟩
    rw [setZone, setZones_zones, List.set_set]

theorem countTimer_alone (ha : Alone n s) (hz : s.zones[n]? = some z) : ∃ y, (countTimer n s).zones = s.zones.set n y := by
  have hself : s.zones = s.zones.set n z := by
    obtain ⟨hlt, rfl⟩ := List.getElem?_eq_some_iff.1 hz
    exact (List.set_getElem_self hlt).symm
  rw [countTimer, hz]
  dsimp only
  split
  · split
    · exact ⟨z, hself⟩
    · split
      · rw [expireZone, hz]
        exact ⟨_, moveZone_alone ha hz _ _⟩
      · exact ⟨_, rfl⟩
  · exact ⟨z, hself⟩

/-- R6, R10, R11: a running timer of the one enabled zone is counted, and expires into ALARM. -/
theorem countTimer_counts (ha : Alone n s) (hz : s.zones[n]? = some z) (he : z.enabled = true) {k : Nat} (ht : z.timer = some k) :
    (countTimer n s).zones[n]? = some (if 2 ≤ k then { z with timer := some (k - 1) } else z.to .alarm none) := by
  obtain ⟨hlt, -⟩ := List.getElem?_eq_some_iff.1 hz
  rw [countTimer, hz]
  dsimp only
  rw [ht, he]
  dsimp only
  rw [if_neg (by decide)]
  by_cases hk : k ≤ 1
  · rw [if_pos hk, if_neg (by omega), expireZone, hz]
    dsimp only
    rw [moveZone_alone ha hz, List.getElem?_set_self hlt]
  · rw [if_neg hk, if_pos (by omega), setZone_getElem? hz]

/-- R6: a sample event at the one enabled zone, with its timer present before the event or not. -/
theorem sampleEvent_alone (inputs : SampleInputs) (ha : Alone n s) (hz : s.zones[n]? = some z) (he : z.enabled = true) :
    (∀ m, m ≠ n → (sampleEvent inputs s).zones[m]? = s.zones[m]?)
      ∧ (sampleEvent inputs s).zones[n]? = (if z.timer.isSome then
          countTimer n (sampleZone n (inputs.zonePins.getD n (false, false)) (markStalled false s))
        else sampleZone n (inputs.zonePins.getD n (false, false)) (markStalled false s)).zones[n]? := by
  have hhad : ((markStalled false s).zones.map (fun z => z.timer.isSome)).getD n false = z.timer.isSome := by
    rw [List.getD_eq_getElem?_getD, List.getElem?_map, show (markStalled false s).zones[n]? = some z from hz]
    rfl
  have hhandle : handleZone inputs ((markStalled false s).zones.map (fun z => z.timer.isSome)) (markStalled false s) n
      = if z.timer.isSome then countTimer n (sampleZone n (inputs.zonePins.getD n (false, false)) (markStalled false s))
        else sampleZone n (inputs.zonePins.getD n (false, false)) (markStalled false s) := by
    rw [handleZone, hhad]
  obtain ⟨y, hy, hye⟩ := sampleZone_alone (s := markStalled false s) ha hz he (inputs.zonePins.getD n (false, false))
  have hset (m : Nat) (hm : m ≠ n) : (handleZone inputs ((markStalled false s).zones.map (fun z => z.timer.isSome))
      (markStalled false s) n).zones[m]? = s.zones[m]? := by
    rw [hhandle]
    split
    · have ha' : Alone n (sampleZone n (inputs.zonePins.getD n (false, false)) (markStalled false s)) := by
        intro m x hm hx
        rw [hy, List.getElem?_set_ne (Ne.symm hm)] at hx
        exact ha m x hm hx
      have hz' : (sampleZone n (inputs.zonePins.getD n (false, false)) (markStalled false s)).zones[n]? = some y := by
        obtain ⟨hlt, -⟩ := List.getElem?_eq_some_iff.1 hz
        rw [hy]
        exact List.getElem?_set_self hlt
      obtain ⟨x, hx⟩ := countTimer_alone ha' hz'
      rw [hx, List.getElem?_set_ne (Ne.symm hm), hy, List.getElem?_set_ne (Ne.symm hm)]
      rfl
    · rw [hy, List.getElem?_set_ne (Ne.symm hm)]
      rfl
  have hzones : (sampleEvent inputs s).zones = (handleZone inputs ((markStalled false s).zones.map (fun z => z.timer.isSome))
      (markStalled false s) n).zones := by
    obtain ⟨-, -, -, -, -, -, -, -, hcurtain, -⟩ := curtainSample_frame (sampleZones inputs (markStalled false s)) inputs s.curtain.descent.isSome
    rw [sampleEvent, hcurtain, sampleZones_alone (s := markStalled false s) inputs ha hz hset]
  exact ⟨fun m hm => by rw [hzones, hset m hm], by rw [hzones, hhandle]⟩

theorem sampleEvent_zoneFrame (inputs : SampleInputs) (s : State) : ZoneFrame s (sampleEvent inputs s) := by
  obtain ⟨-, hmode, hconfig, -, hclamp, hheld, -, hbeat, -, hpins, hunder, hpending⟩ :=
    curtainSample_frame (sampleZones inputs (markStalled false s)) inputs s.curtain.descent.isSome
  obtain ⟨hmode', hconfig', hclamp', hheld', hbeat', hpins', hunder', hpending'⟩ := sampleZones_frame (markStalled false s) inputs
  exact ⟨hmode.trans hmode', hconfig.trans hconfig', hbeat.trans hbeat', hpins.trans hpins', hclamp.trans hclamp',
    hheld.trans hheld', hunder.trans hunder', hpending.trans hpending'⟩

/-- Settles O12: stages 1 to 3 of R6 at the one enabled zone, state by state. -/
theorem sampleMovesTheZoneByItsReading : Obligations.SampleMovesTheZoneByItsReading := by
  intro s inputs n z hw hz he ha
  obtain ⟨hothers, hown⟩ := sampleEvent_alone inputs ha hz he
  refine ⟨sampleEvent inputs s, ?_, sampleEvent_zoneFrame inputs s, hothers, ?_⟩
  · rw [exec_sampleEvent, whileWorking, if_pos hw]
  intro h r z1 score
  have hz' : (setZone n z1 (markStalled false s)).zones[n]? = some z1 := setZone_getElem? (s := markStalled false s) hz z1
  have ha' : Alone n (setZone n z1 (markStalled false s)) := Alone.setZone (s := markStalled false s) ha z1
  have hsample (x : Reading) (hr : r = some x) : sampleZone n (inputs.zonePins.getD n (false, false)) (markStalled false s)
      = applyReading n x z1 (setZone n z1 (markStalled false s)) := by
    rw [sampleZone_enabled (s := markStalled false s) hz he,
      show (z.sample (classOf (inputs.zonePins.getD n (false, false)))).reading = some x from hr]
    rfl
  have hnone (hr : r = none) : sampleZone n (inputs.zonePins.getD n (false, false)) (markStalled false s)
      = setZone n z1 (markStalled false s) := by
    rw [sampleZone_enabled (s := markStalled false s) hz he,
      show (z.sample (classOf (inputs.zonePins.getD n (false, false)))).reading = none from hr]
    rfl
  have hset (y : ZoneRecord) : ((setZone n z1 (markStalled false s)).zones.set n y)[n]? = some y := by
    obtain ⟨hlt, -⟩ := List.getElem?_eq_some_iff.1 hz'
    exact List.getElem?_set_self hlt
  have huntimed (ht : z.timer = none) : (sampleEvent inputs s).zones[n]?
      = (sampleZone n (inputs.zonePins.getD n (false, false)) (markStalled false s)).zones[n]? := by
    rw [hown, ht]
    rfl
  have hlatched (hst : z.state = .preAlarm ∨ z.state = .investigating ∨ z.state = .alarm) :
      sampleZone n (inputs.zonePins.getD n (false, false)) (markStalled false s)
        = setZone n { z1 with faultScore := score } (markStalled false s) := by
    cases hr : r with
    | none =>
      rw [hnone hr]
      refine congrArg (setZone n · (markStalled false s)) ?_
      show z1 = { z1 with faultScore := score }
      simp only [score, hr, reduceCtorEq, if_false, or_self]
      rfl
    | some x =>
      rw [hsample x hr, applyReading_latched (z := z1) x hst, setZone_setZone]
      refine congrArg (fun k => setZone n { z1 with faultScore := k } (markStalled false s)) ?_
      simp only [score, hr]
      cases x <;> rfl
  have hfaulty (hr : r = some .openCircuit ∨ r = some .short) :
      ∃ x, r = some x ∧ scoreAfter x z1 = min z.threshold (z.faultScore + 1) ∧ x ≠ .active := by
    rcases hr with hr | hr
    · exact ⟨_, hr, rfl, by decide⟩
    · exact ⟨_, hr, rfl, by decide⟩
  refine ⟨fun hr ht => ?_, fun hst ht hr hk => ?_, fun hst ht hr hk h1 => ?_, fun hst ht hr => ?_, fun hst ht hr hs hthr => ?_,
    fun hst ht hr => ?_, fun hst ht hr => ?_, fun hst ht hr hthr => ?_, fun hst ht => ?_, fun hst ht => ?_, fun k hst ht => ?_⟩
  case refine_1 => rw [huntimed ht, hnone hr, hz']
  case refine_2 =>
    rw [huntimed ht, hsample _ hr, applyReading_quiet_active (z := z1) hst, startAlarm_alone ha' hz', hset,
      if_pos (hk.imp id Or.inl), show z1.to .alarm none = { z1 with state := .alarm, timer := none } from rfl, ← ht]
  case refine_3 =>
    rw [huntimed ht, hsample _ hr, applyReading_quiet_active (z := z1) hst, startAlarm_alone ha' hz', hset]
    have hchoice : (z1.kind = .callPoint ∨ z1.t1 = 0 ∨ ((setZone n z1 (markStalled false s)).concerns z1.area = true
        ∧ ∃ y ∈ (setZone n z1 (markStalled false s)).peerZones, (setZone n z1 (markStalled false s)).concerns y.area = true
          ∧ inActivity y.state = true)) ↔ (s.concerns z.area = true ∧ ∃ y ∈ s.peerZones, s.concerns y.area = true ∧ inActivity y.state = true) := by
      rw [show z1.kind = .detector from hk]
      exact ⟨fun h => (h.resolve_left (by decide)).resolve_left h1, fun h => .inr (.inr h)⟩
    simp only [hchoice]
    rw [show z1.to .alarm none = { z1 with state := .alarm, timer := none } from rfl, ← ht]
    rfl
  case refine_4 =>
    obtain ⟨x, hrx, hscore, hne⟩ := hfaulty hr
    have hle : z1.threshold ≤ min z.threshold (z.faultScore + 1) ↔ z.threshold ≤ z.faultScore + 1 := by
      show z.threshold ≤ _ ↔ _
      omega
    rw [huntimed ht, hsample x hrx, applyReading_quiet ha' hz' hst hne, hset, hscore]
    simp only [hle]
    split
    · rfl
    · exact congrArg (fun q => some { z1 with faultScore := min z.threshold (z.faultScore + 1), state := q }) hst
  case refine_5 =>
    have hlow : ¬z1.threshold ≤ scoreAfter .clear z1 := by
      show ¬z.threshold ≤ z.faultScore - 1
      omega
    rw [huntimed ht, hsample _ hr, applyReading_quiet ha' hz' hst (by decide), hset, if_neg hlow]
    rfl
  case refine_6 =>
    rw [huntimed ht, hsample _ hr, applyReading_fault ha' hz' hst, hset]
    have hzero : (Reading.clear ≠ .active ∧ scoreAfter .clear z1 = 0) ↔ z.faultScore ≤ 1 := by
      show (_ ∧ z.faultScore - 1 = 0) ↔ _
      simp only [ne_eq, reduceCtorEq, not_false_eq_true, true_and]
      omega
    simp only [hzero]
    split
    · rfl
    · exact congrArg (fun q => some { z1 with faultScore := z.faultScore - 1, state := q }) hst
  case refine_7 =>
    rw [huntimed ht, hsample _ hr, applyReading_fault ha' hz' hst, hset, if_neg (fun h => h.1 rfl)]
    rfl
  case refine_8 =>
    obtain ⟨x, hrx, hscore, -⟩ := hfaulty hr
    rw [huntimed ht, hsample x hrx, applyReading_fault ha' hz' hst, hset, hscore, if_neg (by omega)]
  case refine_9 =>
    cases hr : r with
    | none => rw [huntimed ht, hnone hr, hz']
    | some x => rw [huntimed ht, hsample x hr, applyReading_isolated (z := z1) hst, hz']
  case refine_10 =>
    rw [huntimed ht, hlatched (.inr (.inr hst))]
    exact setZone_getElem? (s := markStalled false s) hz _
  case refine_11 =>
    have hz'' : (setZone n { z1 with faultScore := score } (markStalled false s)).zones[n]? = some { z1 with faultScore := score } :=
      setZone_getElem? (s := markStalled false s) hz _
    rw [hown, if_pos (by rw [ht]; rfl), hlatched (hst.imp id .inl),
      countTimer_counts (z := { z1 with faultScore := score }) (Alone.setZone (s := markStalled false s) ha _) hz'' he ht]
    split <;> rfl

end Sys2Proof.Machine
end

section
/-! PROOFS. The zone commands, from a frame and at the panel (01 section 1.6, 05 sections 5.2 to 5.4). -/

namespace Sys2Proof.Machine

variable {s t u : State} {n : Nat} {z : ZoneRecord}

/-! ## What a command takes up -/

/-- R82: a command for the zones from a permitted peer is taken, and its report comes first. -/
theorem receive_zoneCommand {x target : Nat} {r : Role} {c : Command} (hx : HearsPeer x s) (hr : roleOf x s = some r)
    (hrole : r = .fire ∨ r = .foh ∨ r = .stage) (ht : target = 0 ∨ target = s.cfg.station) (hc : ∀ m, c ≠ .setMode m)
    (hs : c ≠ .silence) (hf : Frame.formOk ⟨x, .command c target⟩ = true) :
    receive ⟨x, .command c target⟩ s = carryOut c x (report (.commandTaken c x target false) (heard x s)) := by
  rw [receive_heard s x _ hx hf]
  refine takeCommandFrame_taken (s := heard x s) ht ?_
  rw [judgedRole_heard hx, hr]
  exact ignoreReason_none ((rolePermitted_command hc).2 hrole) (fun h => absurd h hs)

/-- R90: a request for the own zones is carried out at once. -/
theorem zoneRequest_local {rk : RequestKind} {tag : Nat} {c : Command} (hw : s.working = true)
    (hrole : s.cfg.role = .fire ∨ s.cfg.role = .foh ∨ s.cfg.role = .stage) (hst : s.cfg.station ≤ 31) (hz : isZoneCommand c = true)
    {valid : Bool} (hv : valid = true) :
    commandRequest rk tag true valid c s.cfg.station s = place (.taken rk tag)
      (carryOut c s.cfg.station (report (.commandTaken c s.cfg.station s.cfg.station true) s)) := by
  refine commandRequest_local (commandRefusal_none hw hv ?_ hst ?_) hz rfl
  · exact (rolePermitted_command (by rintro m rfl; cases hz)).2 hrole
  · rintro rfl; cases hz

theorem zoneFrame_trans (h : ZoneFrame s t) (h' : ZoneFrame t u) : ZoneFrame s u := by
  obtain ⟨hmode, hconfig, hbeat, hpins, hclamp, hheld, hunder, hpending⟩ := h
  obtain ⟨hmode', hconfig', hbeat', hpins', hclamp', hheld', hunder', hpending'⟩ := h'
  exact ⟨hmode'.trans hmode, hconfig'.trans hconfig, hbeat'.trans hbeat, hpins'.trans hpins, hclamp'.trans hclamp,
    hheld'.trans hheld, hunder'.trans hunder, hpending'.trans hpending⟩

/-- What no zone command touches. -/
theorem carryOut_zoneFrame {c : Command} (hc : ∀ m, c ≠ .setMode m) (x : Nat) (s : State) : ZoneFrame s (carryOut c x s) := by
  obtain ⟨hconfig, hclamp, hheld, hbeat, hpins, hunder, hpending⟩ := carryOut_frame s c x
  refine ⟨?_, hconfig, hbeat, hpins, hclamp, hheld, hunder, hpending⟩
  cases c with
  | setMode m => exact absurd rfl (hc m)
  | _ => simp [carryOut]

/-- What a move brings depends on the zones and on the configuration alone. -/
theorem zonesAfter_congr (hz : u.zones = s.zones) (hc : u.config = s.config) (h : ZonesAfter u n z t) : ZonesAfter s n z t := by
  intro m
  rw [h m, hz]
  simp only [escalates_congr hc, participates_congr hc]

/-! ## ACK, ISOLATE and RESTORE at a zone (R18, R21, R22) -/

/-- R18: the record of a zone in PRE_ALARM that has been acknowledged. -/
def acknowledged (z : ZoneRecord) : ZoneRecord :=
  if z.t2 = 0 then { z with state := .alarm, timer := none, restarted := false }
  else { z with state := .investigating, timer := some z.t2, restarted := false }

/-- R18: an ACK concerns a zone in PRE_ALARM alone. -/
theorem ackZone_passes (h : ∀ z, s.zones[n]? = some z → z.enabled = true → z.state ≠ .preAlarm) : ackZone n s = s := by
  rw [ackZone]
  split
  · next z hz => exact if_neg fun hcan => h z hz hcan.1 hcan.2
  · rfl

theorem ackZone_unmoved (hz : s.zones[n]? = some z) (hp : z.state ≠ .preAlarm) : ackZone n s = s :=
  ackZone_passes fun y hy _ => by rwa [← Option.some.inj (hz.symm.trans hy)]

theorem ackZone_acknowledges (hz : s.zones[n]? = some z) (he : z.enabled = true) (hp : z.state = .preAlarm) :
    ZonesAfter s n (acknowledged z) (ackZone n s) := by
  rw [ackZone, hz]
  dsimp only
  rw [if_pos ⟨he, hp⟩, acknowledged]
  split
  · exact moveZone_zonesAfter (z' := z.to .alarm none) _ hz (by rw [hp]; nofun)
  · exact moveZone_zonesAfter (z' := z.to .investigating (some z.t2)) _ hz (by rw [hp]; nofun)

theorem ackZones_one (hn : n ≤ 7) : ackZones n s = ackZone n s := if_neg (by omega)

/-- R83: an ACK for all zones is an ACK of the only one in PRE_ALARM. -/
theorem ackZones_all (hz : s.zones[n]? = some z) (he : z.enabled = true)
    (hothers : ∀ m y, m ≠ n → s.zones[m]? = some y → y.enabled = true → y.state ≠ .preAlarm) : ackZones 8 s = ackZone n s := by
  obtain ⟨hlt, -⟩ := List.getElem?_eq_some_iff.1 hz
  refine foldl_range_only (g := fun s n => ackZone n s) hlt (fun m hm _ => ackZone_passes fun y hy => hothers m y hm hy)
    fun m hm _ => ackZone_passes fun y hy hye => ?_
  by_cases hp : z.state = .preAlarm
  · rw [ackZone_acknowledges hz he hp m, if_neg hm] at hy
    obtain ⟨w, hw, rfl⟩ := Option.map_eq_some_iff.1 hy
    split at hye
    · next h => rw [if_pos h]; simp
    · next h => rw [if_neg h]; exact hothers m w hm hw hye
  · rw [ackZone_unmoved hz hp] at hy
    exact hothers m y hm hy hye

/-- R21: ISOLATE in the states it moves. -/
theorem isolateZone_zones (hz : s.zones[n]? = some z) (he : z.enabled = true) (ha : z.state ≠ .alarm) (hi : z.state ≠ .isolated) :
    (isolateZone n s).zones = s.zones.set n { z with state := .isolated, timer := none, restarted := false } := by
  have hmove : isolateZone n s = moveZone n (z.to .isolated none) .isolate s := by
    rw [isolateZone, hz]
    dsimp only
    rw [he, if_neg (by decide)]
    split
    · next h => exact absurd h hi
    · next h => exact absurd h ha
    · rfl
  rw [hmove, moveZone_quiet _ _ hz rfl]
  rfl

/-- R21: ISOLATE is refused in ALARM. -/
theorem isolateZone_alarm (hz : s.zones[n]? = some z) (he : z.enabled = true) (ha : z.state = .alarm) :
    isolateZone n s = report (.commandRefused (.isolate n)) s := by
  rw [isolateZone, hz]
  dsimp only
  rw [he, if_neg (by decide), ha]

theorem isolateZone_isolated (hz : s.zones[n]? = some z) (hi : z.state = .isolated) : isolateZone n s = s := by
  rw [isolateZone, hz]
  dsimp only
  rw [hi, ite_self]

/-- R22: RESTORE of an isolated zone. -/
theorem restoreZone_zones (hz : s.zones[n]? = some z) (he : z.enabled = true) (hi : z.state = .isolated) :
    (restoreZone n s).zones = s.zones.set n
      { z with state := .quiet, timer := none, history := [], reading := none, faultScore := 0, restarted := false } := by
  rw [restoreZone, hz]
  dsimp only
  rw [if_pos ⟨he, hi⟩, moveZone_quiet _ _ hz rfl]
  rfl

theorem restoreZone_passes (hz : s.zones[n]? = some z) (hi : z.state ≠ .isolated) : restoreZone n s = s := by
  rw [restoreZone, hz]
  exact if_neg fun h => hi h.2

/-! ## ACK, ISOLATE and RESTORE frames (O14) -/

/-- A frame of a permitted peer with a command for the zones, whatever the command then does. -/
theorem zoneCommandFrame {x target : Nat} {r : Role} {c : Command} {i : Instr} (hi : exec i s = .next (receive ⟨x, .command c target⟩ s))
    (hx : HearsPeer x s) (hr : roleOf x s = some r) (hrole : r = .fire ∨ r = .foh ∨ r = .stage)
    (ht : target = 0 ∨ target = s.cfg.station) (hc : ∀ m, c ≠ .setMode m) (hs : c ≠ .silence)
    (hf : (Payload.command c target).formOk = true) {P : State → Prop}
    (hP : P (carryOut c x (report (.commandTaken c x target false) (heard x s)))) :
    ∃ t, exec i s = .next t ∧ ZoneFrame s t ∧ FirstReport s (.commandTaken c x target false) t ∧ P t := by
  have hform : Frame.formOk ⟨x, .command c target⟩ = true := by
    obtain ⟨hx1, hx31⟩ := hx.station
    simp only [Frame.formOk, Bool.and_eq_true, decide_eq_true_eq]
    exact ⟨⟨hx1, hx31⟩, hf⟩
  refine ⟨_, hi.trans (congrArg Host.Outcome.next (receive_zoneCommand hx hr hrole ht hc hs hform)), ?_, ?_, hP⟩
  · exact carryOut_zoneFrame hc x (report (.commandTaken c x target false) (heard x s))
  · exact FirstReport.of_grows (s := heard x s) (carryOut_grows _ _ c x (PanelGrows.refl _))

/-- Settles O14: the frame is taken, and then acts at its zone. -/
theorem zoneCommandFrames : Obligations.ZoneCommandFrames := by
  refine ⟨fun s x target n z r hx hr hrole ht h31 hn hz he => ?_, fun s x target n z r hx hr hrole ht h31 hn hz he => ⟨?_, ?_⟩⟩
  · refine zoneCommandFrame (exec_commandAck s x target n) hx hr hrole ht (by simp) (by simp)
      (by simp [Payload.formOk, Command.zoneOk]; omega) ?_
    rw [carryOut, ackZones_one hn]
    refine ⟨fun hp => ?_, fun hp => by rw [ackZone_unmoved (s := report _ (heard x s)) hz hp]; rfl⟩
    exact zonesAfter_congr (s := s) (z := acknowledged z) (u := report (.commandTaken (.ack n) x target false) (heard x s)) rfl rfl
      (ackZone_acknowledges (s := report (.commandTaken (.ack n) x target false) (heard x s)) hz he hp)
  · refine zoneCommandFrame (exec_commandIsolate s x target n) hx hr hrole ht (by simp) (by simp)
      (by simp [Payload.formOk, Command.zoneOk]; omega) ?_
    refine ⟨fun h => isolateZone_zones (s := report _ (heard x s)) hz he ?_ ?_, fun h => isolateZone_alarm (s := report _ (heard x s)) hz he h,
      fun h => isolateZone_isolated (s := report _ (heard x s)) hz h⟩
    · rcases h with h | h | h | h <;> rw [h] <;> decide
    · rcases h with h | h | h | h <;> rw [h] <;> decide
  · refine zoneCommandFrame (exec_commandRestore s x target n) hx hr hrole ht (by simp) (by simp)
      (by simp [Payload.formOk, Command.zoneOk]; omega) ?_
    exact ⟨fun h => restoreZone_zones (s := report _ (heard x s)) hz he h, fun h => restoreZone_passes (s := report _ (heard x s)) hz h⟩

end Sys2Proof.Machine
end

section
/-! PROOFS. RESET (01 section 1.6, 03 section 3.1), and the commands given at the panel for the own zones (05 section 5.4). -/

namespace Sys2Proof.Machine

variable {s t u : State} {n : Nat} {z : ZoneRecord}

/-! ## The entries that are LOST (R50) -/

/-- R50: the removal of a LOST entry takes it from the table, and leaves the zones. -/
theorem removeLost_table (n : Nat) (h : ∀ e ∈ s.peers.table, e.station = n → e.liveness = .lost) :
    (removeLost s n).peers.table = s.peers.table.filter (fun e => e.station != n) ∧ (removeLost s n).zones = s.zones := by
  unfold removeLost
  split
  · next e he =>
    obtain ⟨hmem, hst⟩ := findPeer_some he
    rw [if_pos (h e hmem hst)]
    have hjudge := judgeStation_frame (zoneListChanged e.zones [] (report (.peerChanged n (some .lost) none)
      (setTable (s.peers.table.filter (fun x => x.station != n)) s))) n
    obtain ⟨-, -, -, -, -, -, hpeers, -, hzones, -⟩ := hjudge
    rw [hpeers, hzones]
    unfold zoneListChanged
    dsimp only
    split
    · exact ⟨rfl, rfl⟩
    · obtain ⟨-, -, -, -, -, -, hpeers, -, hzones, -⟩ := recompute_frame (report (.peerChanged n (some .lost) none)
        (setTable (s.peers.table.filter (fun x => x.station != n)) s))
      rw [List.any_nil, if_neg Bool.false_ne_true, List.any_nil, if_neg Bool.false_ne_true, hpeers, hzones]
      exact ⟨rfl, rfl⟩
  · next he =>
    refine ⟨(List.filter_eq_self.2 fun e hmem => ?_).symm, rfl⟩
    simpa using findPeer_none he e hmem

/-- R50: every LOST entry is taken from the table, and no zone changes. -/
theorem removeLostPeers_table (h : stationsRising s.peers.table = true) :
    (removeLostPeers s).peers.table = s.peers.table.filter (fun e => e.liveness != .lost) ∧ (removeLostPeers s).zones = s.zones := by
  have hfold (ns : List Nat) : ∀ s : State, (∀ n ∈ ns, ∀ e ∈ s.peers.table, e.station = n → e.liveness = .lost) →
      (ns.foldl removeLost s).peers.table = s.peers.table.filter (fun e => !ns.contains e.station)
        ∧ (ns.foldl removeLost s).zones = s.zones := by
    induction ns with
    | nil => exact fun s _ => ⟨(List.filter_eq_self.2 (by simp)).symm, rfl⟩
    | cons n ns ih =>
      intro s hlost
      obtain ⟨htable, hzones⟩ := removeLost_table n (hlost n (by simp))
      obtain ⟨htable', hzones'⟩ := ih (removeLost s n) fun m hm e he => by
        rw [htable] at he
        exact hlost m (by simp [hm]) e (List.mem_of_mem_filter he)
      rw [List.foldl_cons, htable', hzones', htable, hzones, List.filter_filter]
      refine ⟨List.filter_congr fun e _ => ?_, rfl⟩
      rw [List.contains_cons, Bool.not_or, Bool.and_comm]
      rfl
  have hsorted := stationsRising_iff.1 h
  have hof (n : Nat) (hn : n ∈ (s.peers.table.filter (fun e => e.liveness == .lost)).map (fun e => e.station)) (e : PeerEntry)
      (he : e ∈ s.peers.table) (hst : e.station = n) : e.liveness = .lost := by
    obtain ⟨x, hx, hxn⟩ := List.mem_map.1 hn
    obtain ⟨hxmem, hxlost⟩ := List.mem_filter.1 hx
    have hsame : some e = some x := by
      rw [← findPeer_of_mem hsorted he, ← findPeer_of_mem hsorted hxmem, hst, hxn]
    rw [Option.some.inj hsame]
    exact beq_iff_eq.1 hxlost
  obtain ⟨htable, hzones⟩ := hfold _ s hof
  refine ⟨htable.trans (List.filter_congr fun e he => ?_), hzones⟩
  rw [Bool.eq_iff_iff, Bool.not_eq_true', bne_iff_ne]
  constructor
  · intro hnot hlost
    refine Bool.false_ne_true (hnot.symm.trans (List.contains_iff_mem.2 (List.mem_map.2 ⟨e, List.mem_filter.2 ⟨he, ?_⟩, rfl⟩)))
    exact beq_iff_eq.2 hlost
  · intro hlost
    rw [Bool.eq_false_iff]
    exact fun hin => hlost (hof _ (List.contains_iff_mem.1 hin) e he rfl)

/-! ## What a change of a zone leaves of the peers -/

theorem enterActive_table (c : ListenCause) (s : State) : (enterActive c s).peers.table = s.peers.table := by
  simp [enterActive]

/-- R16: an announcement leaves the peer table. -/
theorem announceZone_table (n : Nat) (p : ZoneState) (z : ZoneRecord) (cause : ZoneCause) (s : State) :
    (announceZone n p z cause s).peers.table = s.peers.table := by
  unfold announceZone
  dsimp only
  (repeat' split) <;> simp [enterActive_table]

theorem changeZone_table (n : Nat) (z : ZoneRecord) (cause : ZoneCause) (s : State) :
    (changeZone n z cause s).peers.table = s.peers.table := by
  unfold changeZone
  split
  · split
    · rfl
    · exact announceZone_table _ _ _ _ _
  · rfl

/-! ## The two passes (R19) -/

/-- R19: the announcements of a RESET leave the zones with their outcomes. -/
theorem changeZones_getElem? (cause : ZoneCause) (outs : List ZoneRecord) : ∀ (k : Nat) (s : State), k + outs.length ≤ s.zones.length →
    ∀ m, ((outs.zipIdx k).foldl (fun s p => changeZone p.2 p.1 cause s) s).zones[m]? =
      if k ≤ m ∧ m < k + outs.length then outs[m - k]? else s.zones[m]? := by
  induction outs with
  | nil => intro k s _ m; rw [if_neg (by simp)]; rfl
  | cons o outs ih =>
    intro k s hk m
    rw [List.length_cons] at hk ⊢
    rw [List.zipIdx_cons, List.foldl_cons, ih (k + 1) _ (by rw [changeZone_zones, List.length_set]; omega) m]
    by_cases hm : m = k
    · subst hm
      rw [if_neg (by omega), if_pos (by omega), changeZone_zones, List.getElem?_set_self (by omega), Nat.sub_self]
      rfl
    · rw [changeZone_zones, List.getElem?_set_ne (Ne.symm hm)]
      by_cases hin : k + 1 ≤ m ∧ m < k + 1 + outs.length
      · rw [if_pos hin, if_pos (by omega), show m - k = (m - (k + 1)) + 1 by omega, List.getElem?_cons_succ]
      · rw [if_neg hin, if_neg (by omega)]

/-- R19: after a RESET every zone has its outcome of the two passes. -/
theorem resetZones_zones (s : State) : (resetZones s).zones = resetOutcomes s := by
  have hlen : (resetOutcomes s).length = s.zones.length := by simp [resetOutcomes]
  refine List.ext_getElem? fun m => ?_
  rw [resetZones, changeZones_getElem? .reset (resetOutcomes s) 0 s (by omega) m]
  split
  · rfl
  · rw [List.getElem?_eq_none (by omega), List.getElem?_eq_none (by omega)]

theorem resetZones_table (s : State) : (resetZones s).peers.table = s.peers.table :=
  foldl_keeps (fun s => s.peers.table) _ (fun s _ => changeZone_table _ _ _ s) _ s

theorem firstPass_enabled (z : ZoneRecord) : (firstPass z).enabled = z.enabled := by
  unfold firstPass
  (repeat' split) <;> rfl

theorem firstPass_area (z : ZoneRecord) : (firstPass z).area = z.area := by
  unfold firstPass
  (repeat' split) <;> rfl

/-- R19, first pass: a zone in activity that does not read ACTIVE rests. -/
theorem firstPass_rests {z : ZoneRecord} (he : z.enabled = true) (hact : inActivity z.state = true) (hr : z.reading ≠ some .active) :
    firstPass z = z.to (restState z) none := by
  rw [firstPass, he, hact, Bool.true_and, if_pos rfl]
  cases z.kind <;> exact if_neg hr

theorem firstPass_callPoint {z : ZoneRecord} (he : z.enabled = true) (hact : inActivity z.state = true)
    (hr : z.reading = some .active) (hk : z.kind = .callPoint) : firstPass z = z.to .alarm none := by
  rw [firstPass, he, hact, Bool.true_and, if_pos rfl, hk]
  exact if_pos hr

theorem firstPass_detector {z : ZoneRecord} (he : z.enabled = true) (hact : inActivity z.state = true)
    (hr : z.reading = some .active) (hk : z.kind = .detector) : firstPass z = z.restart := by
  rw [firstPass, he, hact, Bool.true_and, if_pos rfl, hk]
  exact if_pos hr

/-- R158: a RESET ends a silence. -/
theorem clearSilence_silence (c : SilenceCause) (s : State) : (clearSilence c s).calls.silence = false := by
  unfold clearSilence
  split
  · rfl
  · next h => exact Bool.eq_false_iff.2 h

/-- The outcome of a RESET depends on the configuration and on the companions. -/
theorem resetOutcome_congr (hc : u.config = s.config) (hcompanion : ∀ n, CompanionAtReset u n ↔ CompanionAtReset s n)
    (h : ResetOutcome u n z t) : ResetOutcome s n z t := by
  unfold ResetOutcome at h ⊢
  simp only [State.concerns, State.cfg, hc, hcompanion] at h
  exact h

theorem resetOutcome_of_zones {t' : State} (ht : t'.zones = t.zones) (h : ResetOutcome s n z t) : ResetOutcome s n z t' := by
  unfold ResetOutcome at h ⊢
  rw [ht]
  exact h

/-- R19, first pass: which zones are in activity after it. -/
theorem inActivity_firstPass {z : ZoneRecord} (he : z.enabled = true) :
    inActivity (firstPass z).state = (inActivity z.state && z.reading == some .active) := by
  have hrest : inActivity (z.to (restState z) none).state = false := by
    show inActivity (restState z) = false
    unfold restState
    split <;> rfl
  unfold firstPass
  cases hact : inActivity z.state
  · rw [if_neg (by simp), hact]; rfl
  · rw [he, Bool.true_and, if_pos rfl, Bool.true_and]
    by_cases hr : z.reading = some .active
    · rw [hr]
      cases z.kind <;> rfl
    · rw [if_neg hr, if_neg hr, show (z.reading == some .active) = false from beq_false_of_ne hr]
      cases z.kind <;> exact hrest

/-- R19, second pass: the companions of a zone after the first pass. -/
theorem companionActive_firstPass (hs : ∀ e ∈ s.peers.table, e.liveness ≠ .lost) (n : Nat) :
    companionActive (s.setZones (s.zones.map firstPass)) n = true ↔ CompanionAtReset s n := by
  have hown : (s.setZones (s.zones.map firstPass)).zones.zipIdx.any (fun p => p.2 != n
      && participates (s.setZones (s.zones.map firstPass)) p.1 && inActivity p.1.state) = true
      ↔ ∃ m y, m ≠ n ∧ s.zones[m]? = some y ∧ y.enabled = true ∧ s.concerns y.area = true ∧ inActivity y.state = true
        ∧ y.reading = some .active := by
    have hpass (y : ZoneRecord) : participates (s.setZones (s.zones.map firstPass)) (firstPass y) = participates s y :=
      (participates_congr (s := s) rfl (firstPass y)).trans (by rw [participates, participates, firstPass_enabled, firstPass_area])
    rw [List.any_eq_true]
    constructor
    · rintro ⟨⟨y', m⟩, hmem, hp⟩
      have hy' : (s.zones.map firstPass)[m]? = some y' := List.mem_zipIdx_iff_getElem?.1 hmem
      rw [List.getElem?_map, Option.map_eq_some_iff] at hy'
      obtain ⟨y, hy, rfl⟩ := hy'
      simp only [Bool.and_eq_true, bne_iff_ne, hpass] at hp
      obtain ⟨⟨hm, hpart⟩, hact⟩ := hp
      obtain ⟨he, hc⟩ := Bool.and_eq_true_iff.1 hpart
      rw [inActivity_firstPass he, Bool.and_eq_true, beq_iff_eq] at hact
      exact ⟨m, y, hm, hy, he, hc, hact⟩
    · rintro ⟨m, y, hm, hy, he, hc, hact⟩
      refine ⟨(firstPass y, m), List.mem_zipIdx_iff_getElem?.2 ?_, ?_⟩
      · rw [setZones_zones, List.getElem?_map, hy]; rfl
      · simp only [Bool.and_eq_true, bne_iff_ne, hpass]
        exact ⟨⟨hm, Bool.and_eq_true_iff.2 ⟨he, hc⟩⟩, by rw [inActivity_firstPass he, Bool.and_eq_true, beq_iff_eq]; exact hact⟩
  have hpeers : (s.setZones (s.zones.map firstPass)).peerZones.any (fun y =>
      (s.setZones (s.zones.map firstPass)).concerns y.area && inActivity y.state) = true
      ↔ ∃ e ∈ s.peers.table, e.liveness ≠ .lost ∧ ∃ y ∈ e.zones, s.concerns y.area = true ∧ inActivity y.state = true := by
    rw [List.any_eq_true]
    constructor
    · rintro ⟨y, hy, hp⟩
      obtain ⟨e, he, hye⟩ := List.mem_flatMap.1 hy
      exact ⟨e, he, hs e he, y, hye, Bool.and_eq_true_iff.1 hp⟩
    · rintro ⟨e, he, -, y, hye, hp⟩
      exact ⟨y, List.mem_flatMap.2 ⟨e, he, hye⟩, Bool.and_eq_true_iff.2 hp⟩
  rw [companionActive, Bool.or_eq_true, hown, hpeers, CompanionAtReset]

/-- R19: the outcome of a RESET at each zone, with no entry LOST. -/
theorem resetZones_outcome (hs : ∀ e ∈ s.peers.table, e.liveness ≠ .lost) (hz : s.zones[n]? = some z)
    (ht : t.zones = (resetZones s).zones) : ResetOutcome s n z t := by
  have hout : t.zones[n]? = some (secondPass (s.setZones (s.zones.map firstPass)) n z (firstPass z)) := by
    rw [ht, resetZones_zones, resetOutcomes_getElem?, hz]
    rfl
  have hpass : participates (s.setZones (s.zones.map firstPass)) (firstPass z) = (z.enabled && s.concerns z.area) :=
    (participates_congr (s := s) rfl (firstPass z)).trans (by rw [participates, firstPass_enabled, firstPass_area])
  have hchoice (he : z.enabled = true) (hact : inActivity z.state = true) (hr : z.reading = some .active) (hk : z.kind = .detector) :
      (z.enabled && inActivity z.state && (firstPass z).state == .preAlarm
        && ((firstPass z).t1 == 0 || (participates (s.setZones (s.zones.map firstPass)) (firstPass z)
          && companionActive (s.setZones (s.zones.map firstPass)) n))) = true
      ↔ z.t1 = 0 ∨ (s.concerns z.area = true ∧ CompanionAtReset s n) := by
    rw [hpass, firstPass_detector he hact hr hk, he, hact]
    simp only [Bool.and_eq_true, Bool.or_eq_true, companionActive_firstPass hs, beq_iff_eq, true_and]
    exact ⟨fun h => h.2, fun h => ⟨rfl, h⟩⟩
  refine ⟨fun hrest => ?_, fun he hact => ⟨fun hr => ?_, fun hr hk => ?_, fun hr hk hal => ?_, fun hr hk h1 hal => ?_⟩⟩
  · have hno : (z.enabled && inActivity z.state) = false := by
      rcases hrest with h | h <;> simp [h]
    rw [hout, secondPass, hno, Bool.false_and, Bool.false_and, if_neg Bool.false_ne_true, firstPass, hno, if_neg Bool.false_ne_true]
  all_goals rw [hout]
  · have hnot : ((z.to (restState z) none).state == .preAlarm) = false := by
      show (restState z == .preAlarm) = false
      unfold restState
      split <;> rfl
    rw [firstPass_rests he hact hr, secondPass, hnot, Bool.and_false, Bool.false_and, if_neg Bool.false_ne_true]
    rfl
  · rw [firstPass_callPoint he hact hr hk, secondPass, show ((z.to .alarm none).state == .preAlarm) = false from rfl, Bool.and_false, Bool.false_and,
      if_neg Bool.false_ne_true]
    rfl
  · rw [secondPass, if_pos ((hchoice he hact hr hk).2 hal), firstPass_detector he hact hr hk]
    rfl
  · rw [secondPass, if_neg (fun h => ((hchoice he hact hr hk).1 h).elim h1 hal), firstPass_detector he hact hr hk]
    rfl

/-- R19, R84, R158: all that a RESET does. -/
theorem carryOut_reset (h : stationsRising s.peers.table = true) (x : Nat) :
    (carryOut .reset x s).calls.silence = false
      ∧ (carryOut .reset x s).peers.table = s.peers.table.filter (fun e => e.liveness != .lost)
      ∧ ∀ n z, s.zones[n]? = some z → ResetOutcome s n z (carryOut .reset x s) := by
  obtain ⟨htable, hzones⟩ := removeLostPeers_table h
  obtain ⟨-, hconfig, -⟩ := removeLostPeers_frame s
  obtain ⟨-, -, -, -, -, -, -, hpeers', -, -, -, hzones', -⟩ := clearSilence_frame (resetZones (removeLostPeers s)) .reset
  refine ⟨?_, ?_, fun n z hz => ?_⟩
  · exact clearSilence_silence _ _
  · rw [carryOut, hpeers', resetZones_table, htable]
  · have hlost (e : PeerEntry) (he : e ∈ (removeLostPeers s).peers.table) : e.liveness ≠ .lost := by
      rw [htable] at he
      exact bne_iff_ne.1 (List.mem_filter.1 he).2
    refine resetOutcome_congr hconfig (fun m => ?_) (resetZones_outcome hlost (by rw [hzones]; exact hz) hzones')
    rw [CompanionAtReset, CompanionAtReset, hzones, htable]
    simp only [State.concerns, State.cfg, hconfig, List.mem_filter, bne_iff_ne]
    refine or_congr_right (exists_congr fun e => ?_)
    exact ⟨fun ⟨⟨he, hl⟩, _, hy⟩ => ⟨he, hl, hy⟩, fun ⟨he, hl, hy⟩ => ⟨⟨he, hl⟩, hl, hy⟩⟩

/-! ## RESET frames (O15) -/

/-- A good frame of a peer that is PRESENT leaves the companions of a zone. -/
theorem companionAtReset_heard {x : Nat} (hx : HearsPeer x s) (h : stationsRising s.peers.table = true) (n : Nat) :
    CompanionAtReset (heard x s) n ↔ CompanionAtReset s n := by
  have hpresent (e : PeerEntry) (he : e ∈ s.peers.table) (hst : e.station = x) : e.liveness ≠ .lost := by
    have hp := hx.present
    rw [isPresent, ← hst, findPeer_of_mem (stationsRising_iff.1 h) he] at hp
    rw [beq_iff_eq.1 hp]
    decide
  refine or_congr_right ?_
  constructor
  · rintro ⟨e', he', hl, hy⟩
    obtain ⟨e, he, rfl⟩ := List.mem_map.1 he'
    by_cases hst : e.station = x
    · exact ⟨e, he, hpresent e he hst, by rw [if_pos hst] at hy; exact hy⟩
    · rw [if_neg hst] at hl hy
      exact ⟨e, he, hl, hy⟩
  · rintro ⟨e, he, hl, hy⟩
    refine ⟨_, List.mem_map.2 ⟨e, he, rfl⟩, ?_, ?_⟩
    · split
      · nofun
      · exact hl
    · split <;> exact hy

/-- Settles O15: a good frame of a peer leaves the entries that are LOST, and the RESET does the rest. -/
theorem resetFrameGivesEachZoneItsOutcome : Obligations.ResetFrameGivesEachZoneItsOutcome := by
  intro s x target r hx hlaw hr hrole ht h31
  obtain ⟨hrising, -⟩ := hlaw
  have hsorted : stationsRising (heard x s).peers.table = true := by
    rw [stationsRising_iff]
    exact List.pairwise_map.2 ((stationsRising_iff.1 hrising).imp fun {a b} hab => by split <;> split <;> exact hab)
  obtain ⟨hsilence, htable, houtcome⟩ := carryOut_reset (s := report (.commandTaken .reset x target false) (heard x s)) hsorted x
  refine zoneCommandFrame (exec_commandReset s x target) hx hr hrole ht (by simp) (by simp)
    (by simp [Payload.formOk, Command.zoneOk]; omega) ⟨hsilence, htable, fun n z hz => ?_⟩
  exact resetOutcome_congr (u := report (.commandTaken .reset x target false) (heard x s)) rfl
    (fun m => companionAtReset_heard hx hrising m) (houtcome n z hz)

/-! ## The own zones at the panel (O54) -/

/-- What a request for the own zones does, whatever its command. -/
theorem localCommand {i : Instr} {rk : RequestKind} {tag : Nat} {valid : Bool} {c : Command}
    (hi : exec i s = .next (completeTransfer (commandRequest rk tag true valid c s.cfg.station) s)) (hfree : PanelFree s)
    (hw : s.working = true) (hrole : s.cfg.role = .fire ∨ s.cfg.role = .foh ∨ s.cfg.role = .stage) (hst : s.cfg.station ≤ 31)
    (hz : isZoneCommand c = true) (hv : valid = true) {P : State → Prop}
    (hP : P (place (.taken rk tag) (carryOut c s.cfg.station (report (.commandTaken c s.cfg.station s.cfg.station true) (recordSent s))))) :
    ∃ t, (exec i s = .next t ∧ t.panel.holder = some (.taken rk tag) ∧ ZoneFrame s t
      ∧ FirstReport (recordSent s) (.commandTaken c s.cfg.station s.cfg.station true) t) ∧ P t := by
  have hsame := recordSent_eq s
  have hcfg : (recordSent s).cfg = s.cfg := by rw [hsame]; rfl
  have hwork : (recordSent s).working = true := by rw [hsame]; exact hw
  have hrow := zoneRequest_local (s := recordSent s) (rk := rk) (tag := tag) hwork (by rw [hcfg]; exact hrole) (by rw [hcfg]; exact hst) hz hv
  rw [hcfg] at hrow
  have hc (m : Mode) : c ≠ .setMode m := by rintro rfl; cases hz
  refine ⟨_, ⟨exec_request hi hfree hrow, rfl, ?_, ?_⟩, hP⟩
  · refine zoneFrame_trans (t := recordSent s) ?_ (carryOut_zoneFrame hc s.cfg.station
      (report (.commandTaken c s.cfg.station s.cfg.station true) (recordSent s)))
    rw [hsame]
    exact ⟨rfl, rfl, rfl, rfl, rfl, rfl, rfl, rfl⟩
  · have hfirst := FirstReport.of_grows (carryOut_grows (report (.commandTaken c s.cfg.station s.cfg.station true) (recordSent s))
      _ c s.cfg.station (PanelGrows.refl _))
    intro hl
    rw [place_panel]
    exact hfirst hl

/-- Settles O54: each command acts on the zones as the panel found them. -/
theorem localCommandsActAtOnce : Obligations.LocalCommandsActAtOnce := by
  intro s tag n z hfree hlaw hw hrole hst hn hz he own done acked others
  have hzones : (recordSent s).zones = s.zones := by rw [recordSent_eq s]
  have hconfig : (recordSent s).config = s.config := by rw [recordSent_eq s]
  have hpeers : (recordSent s).peers = s.peers := by rw [recordSent_eq s]
  have hz' (r : Report) : (report r (recordSent s)).zones[n]? = some z := by rw [report_zones, hzones]; exact hz
  refine ⟨?ack, ?ackAll, ?isolate, ?restore, ?reset⟩
  case ack =>
    refine localCommand (exec_ack s tag true own n) hfree hw hrole hst rfl (decide_eq_true (by omega)) ?_
    rw [carryOut, ackZones_one hn]
    refine ⟨fun hp => ?_, fun hp => ?_⟩
    · exact zonesAfter_congr (u := report _ (recordSent s)) hzones hconfig (ackZone_acknowledges (hz' (.commandTaken (.ack n) own own true)) he hp)
    · rw [ackZone_unmoved (hz' _) hp]
      exact hzones
  case ackAll =>
    refine localCommand (exec_ack s tag true own 8) hfree hw hrole hst rfl rfl ?_
    refine ⟨fun hp ho => ?_, fun hp ho => ?_⟩
    · rw [carryOut, ackZones_all (hz' _) he (by rw [report_zones, hzones]; exact ho)]
      exact zonesAfter_congr (u := report _ (recordSent s)) hzones hconfig (ackZone_acknowledges (hz' (.commandTaken (.ack 8) own own true)) he hp)
    · rw [carryOut, ackZones_all (hz' _) he (by rw [report_zones, hzones]; exact ho), ackZone_unmoved (hz' _) hp]
      exact hzones
  case isolate =>
    refine localCommand (exec_isolate s tag true own n) hfree hw hrole hst rfl (decide_eq_true hn) ⟨fun ha hi => ?_, fun h => ?_⟩
    · exact (isolateZone_zones (hz' _) he ha hi).trans (by rw [report_zones, hzones])
    · rw [carryOut, place_zones]
      rcases h with h | h
      · rw [isolateZone_alarm (hz' _) he h]
        exact hzones
      · rw [isolateZone_isolated (hz' _) h]
        exact hzones
  case restore =>
    refine localCommand (exec_restore s tag true own n) hfree hw hrole hst rfl (decide_eq_true hn) ⟨fun hi => ?_, fun hi => ?_⟩
    · exact (restoreZone_zones (hz' _) he hi).trans (by rw [report_zones, hzones])
    · rw [carryOut, place_zones, restoreZone_passes (hz' _) hi]
      exact hzones
  case reset =>
    obtain ⟨hsilence, htable, houtcome⟩ := carryOut_reset
      (s := report (.commandTaken .reset own own true) (recordSent s)) (by rw [report_peers, hpeers]; exact hlaw.1) own
    refine localCommand (exec_reset s tag true own) hfree hw hrole hst rfl rfl ⟨hsilence, ?_, fun m y hy => ?_⟩
    · rw [report_peers, hpeers] at htable
      exact htable
    · refine resetOutcome_congr (u := report (.commandTaken .reset own own true) (recordSent s)) hconfig (fun m => ?_)
        (resetOutcome_of_zones (place_zones _ _) (houtcome m y (by rw [report_zones, hzones]; exact hy)))
      rw [CompanionAtReset, CompanionAtReset, report_zones, report_peers, hzones, hpeers]
      simp only [State.concerns, State.cfg, report_config, hconfig]

end Sys2Proof.Machine
end

section
/-! PROOFS. COMMAND frames of every kind, SILENCE and SET_MODE (05 sections 5.1 to 5.3, 09 section 9.4, 11 section 11.4). -/

namespace Sys2Proof.Machine

variable {s : State}

/-- R79: a command of a peer comes to the command handling, whatever its kind. -/
theorem receive_command {x target : Nat} {c : Command} (hx : HearsPeer x s) (ht : target ≤ 31) (hc : c.zoneOk = true) :
    receive ⟨x, .command c target⟩ s = takeCommandFrame x c target (heard x s) := by
  refine receive_heard s x _ hx ?_
  obtain ⟨hx1, hx31⟩ := hx.station
  simp only [Frame.formOk, Payload.formOk, Bool.and_eq_true, decide_eq_true_eq]
  exact ⟨⟨hx1, hx31⟩, hc, ht⟩

/-- Settles O48: by the address, the sender's role, and for the two commands their own checks. -/
theorem silenceAndModeFrames : Obligations.SilenceAndModeFrames := by
  intro s x target m hx ht ignored taken row
  have hrow (c : Command) (hc : c.zoneOk = true) : exec (row c) s = .next (takeCommandFrame x c target (heard x s)) := by
    rw [← receive_command hx ht hc]
    cases c <;> rfl
  have helse (c : Command) (hc : c.zoneOk = true) (h0 : target ≠ 0) (hst : target ≠ s.cfg.station) : exec (row c) s = .next (heard x s) := by
    rw [hrow c hc, takeCommandFrame_elsewhere (s := heard x s) h0 hst]
  have hrole : judgedRole x (heard x s) = roleOf x s := judgedRole_heard hx
  have hignored {c : Command} {reason : IgnoreReason} (hc : c.zoneOk = true) (h : target = 0 ∨ target = s.cfg.station)
      (hr : ignoreReason c (roleOf x s) (heard x s) = some reason) : exec (row c) s = .next (ignored c reason) := by
    rw [hrow c hc, takeCommandFrame_ignored (s := heard x s) h (by rw [hrole]; exact hr), hrole]
  have htaken {c : Command} {r : Role} (hc : c.zoneOk = true) (h : target = 0 ∨ target = s.cfg.station) (hr : roleOf x s = some r)
      (hmay : rolePermitted c r = true) (hal : c = .silence → s.condition = .alarm) :
      exec (row c) s = .next (carryOut c x (taken c)) := by
    rw [hrow c hc, takeCommandFrame_taken (s := heard x s) h (by rw [hrole, hr]; exact ignoreReason_none hmay hal)]
    rfl
  have hunknown {c : Command} (hr : roleOf x s = none) : ignoreReason c (roleOf x s) (heard x s) = some .senderUnknown := by
    rw [hr]; rfl
  have hbarred {c : Command} {r : Role} (hr : roleOf x s = some r) (hmay : rolePermitted c r = false) :
      ignoreReason c (roleOf x s) (heard x s) = some .senderRole := by
    rw [hr]; exact ignoreReason_senderRole hmay
  have hoff {c : Command} (hr : roleOf x s = some .area ∨ roleOf x s = some .curtain) :
      ignoreReason c (roleOf x s) (heard x s) = some .senderRole := by
    rcases hr with hr | hr
    · exact hbarred hr (Bool.eq_false_iff.2 fun h => by simpa using rolePermitted_iff.1 h)
    · exact hbarred hr (Bool.eq_false_iff.2 fun h => by simpa using rolePermitted_iff.1 h)
  refine ⟨fun c hc => ⟨helse c hc, fun h => ⟨fun hr => hignored hc h (hunknown hr), fun hr => hignored hc h (hoff hr)⟩⟩,
    fun h0 hst => ⟨helse .silence rfl h0 hst, helse (.setMode m) rfl h0 hst⟩, fun h => ⟨fun hr => ⟨hignored (c := .silence) rfl h (hunknown hr),
      hignored (c := .setMode m) rfl h (hunknown hr)⟩, fun hr => hignored (c := .silence) rfl h (hoff hr), fun hr => ?barred, fun hr => ?silencing, fun hr => ?changing⟩⟩
  case barred =>
    refine hignored (c := .setMode m) rfl h ?_
    rcases hr with hr | hr | hr
    · exact hoff (.inl hr)
    · exact hoff (.inr hr)
    · exact hbarred hr rfl
  case silencing =>
    obtain ⟨r, hr, hmay⟩ : ∃ r, roleOf x s = some r ∧ rolePermitted .silence r = true := by
      rcases hr with hr | hr | hr <;> exact ⟨_, hr, rfl⟩
    refine ⟨fun hal => hignored (c := .silence) rfl h (by rw [hr]; exact ignoreReason_notAlarm (s := heard x s) hmay hal), fun hal hs => ?_, fun hal hs => ?_⟩
    · rw [show Instr.commandSilence x target = row .silence from rfl, htaken rfl h hr hmay fun _ => hal, carryOut, setSilence]
      exact congrArg Host.Outcome.next (if_pos hs)
    · rw [show Instr.commandSilence x target = row .silence from rfl, htaken rfl h hr hmay fun _ => hal, carryOut, setSilence]
      exact congrArg Host.Outcome.next (if_neg (Bool.eq_false_iff.1 hs))
  case changing =>
    obtain ⟨r, hr, hmay⟩ : ∃ r, roleOf x s = some r ∧ rolePermitted (.setMode m) r = true := by
      rcases hr with hr | hr <;> exact ⟨_, hr, rfl⟩
    have hset : exec (.commandSetMode x target m) s = .next (changeMode m x (taken (.setMode m))) :=
      htaken (c := .setMode m) rfl h hr hmay (by simp)
    refine ⟨fun hm => ?_, fun hm hstandby => ?_, fun hm hs hn => ?_⟩
    · rw [hset, changeMode]
      exact congrArg Host.Outcome.next (if_pos hm)
    · rw [hset, changeMode_allowed (s := taken (.setMode m)) hm hstandby]
      rfl
    · rw [hset, changeMode, if_neg (show m ≠ (taken (.setMode m)).mode from hm)]
      exact congrArg Host.Outcome.next (if_neg (by
        show ¬modeAllowed s.mode m = true
        simp [modeAllowed, hs, hn]))

end Sys2Proof.Machine
end

section
/-! PROOFS. The ZONE and STATUS frames of a peer (01 section 1.4, 03 sections 3.1 and 3.4). -/

namespace Sys2Proof.Machine

variable {s t : State} {zs : List PeerZone} {y z : PeerZone}

/-! ## Zone lists (R43, R46, R47) -/

theorem mem_putPeerZone (hzs : zs.Pairwise (fun x y => x.index < y.index)) :
    y ∈ putPeerZone z zs ↔ y = z ∨ (y ∈ zs ∧ y.index ≠ z.index) := by
  induction hzs with
  | nil => simp [putPeerZone]
  | @cons x zs hx _ ih =>
    have habove {i : Nat} (hi : i ≤ x.index) (hy : y ∈ zs) : y.index ≠ i := by
      have := hx y hy
      omega
    unfold putPeerZone
    split
    · next hlt =>
      have hne : x.index ≠ z.index := by omega
      rw [List.mem_cons, ih, List.mem_cons]
      constructor
      · rintro (rfl | rfl | ⟨hy, hi⟩)
        · exact .inr ⟨.inl rfl, hne⟩
        · exact .inl rfl
        · exact .inr ⟨.inr hy, hi⟩
      · rintro (rfl | ⟨rfl | hy, hi⟩)
        · exact .inr (.inl rfl)
        · exact .inl rfl
        · exact .inr (.inr ⟨hy, hi⟩)
    · next hge =>
      split
      · next heq =>
        rw [List.mem_cons, List.mem_cons]
        constructor
        · rintro (rfl | hy)
          · exact .inl rfl
          · exact .inr ⟨.inr hy, habove (by omega) hy⟩
        · rintro (rfl | ⟨rfl | hy, hi⟩)
          · exact .inl rfl
          · exact absurd heq hi
          · exact .inr hy
      · next hne =>
        rw [List.mem_cons, List.mem_cons]
        constructor
        · rintro (rfl | rfl | hy)
          · exact .inl rfl
          · exact .inr ⟨.inl rfl, hne⟩
          · exact .inr ⟨.inr hy, habove (by omega) hy⟩
        · rintro (rfl | ⟨rfl | hy, hi⟩)
          · exact .inl rfl
          · exact .inr (.inl rfl)
          · exact .inr (.inr hy)

/-- R47: what a zone list holds after a ZONE frame. -/
theorem mem_updateZoneList (hzs : zoneListOk zs = true) :
    y ∈ updateZoneList z zs ↔ (z.state ≠ .quiet ∧ y = z) ∨ (y ∈ zs ∧ y.index ≠ z.index) := by
  unfold updateZoneList
  split
  · next hq => simp [hq]
  · next hq => simp [mem_putPeerZone (zoneListOk_iff.1 hzs).1, hq]

/-- R46: a carried list without an index twice keeps all its entries. -/
theorem mem_orderZoneList (hd : PeerZone.distinct zs = true) (hf : ∀ z ∈ zs, PeerZoneFits z) : y ∈ orderZoneList zs ↔ y ∈ zs := by
  have hfold : ∀ (zs acc : List PeerZone), PeerZone.distinct zs = true → (∀ z ∈ zs, PeerZoneFits z) → zoneListOk acc = true →
      (y ∈ zs.foldl (fun acc z => putPeerZone z acc) acc ↔ y ∈ zs ∨ (y ∈ acc ∧ ∀ z ∈ zs, y.index ≠ z.index)) := by
    intro zs
    induction zs with
    | nil => intro acc _ _ _; simp
    | cons z zs ih =>
      intro acc hd hf hacc
      obtain ⟨hz, hd⟩ := Bool.and_eq_true_iff.1 hd
      have hz (x : PeerZone) (hx : x ∈ zs) : z.index ≠ x.index := by
        simp only [Bool.not_eq_true', List.any_eq_false, beq_iff_eq] at hz
        exact fun h => hz x hx h.symm
      rw [List.foldl_cons, ih _ hd (fun x hx => hf x (by simp [hx])) (putPeerZone_ok (hf z (by simp)) hacc),
        mem_putPeerZone (zoneListOk_iff.1 hacc).1, List.mem_cons, List.forall_mem_cons]
      constructor
      · rintro (hy | ⟨rfl | ⟨hy, hi⟩, hall⟩)
        · exact .inl (.inr hy)
        · exact .inl (.inl rfl)
        · exact .inr ⟨hy, hi, hall⟩
      · rintro ((rfl | hy) | ⟨hy, hi, hall⟩)
        · exact .inr ⟨.inl rfl, hz⟩
        · exact .inl hy
        · exact .inr ⟨.inr ⟨hy, hi⟩, hall⟩
  rw [orderZoneList, hfold zs [] hd hf rfl]
  simp

/-- R49: an entry is in its former state exactly when it was in the list. -/
theorem stateBefore_iff (hzs : zoneListOk zs = true) : stateBefore zs y = some y.state ↔ y ∈ zs := by
  have hrise := (zoneListOk_iff.1 hzs).1
  unfold stateBefore
  rw [Option.map_eq_some_iff]
  constructor
  · rintro ⟨x, hx, hst⟩
    have hsame := List.find?_some hx
    simp only [Bool.and_eq_true, beq_iff_eq] at hsame
    obtain rfl : x = y := by
      cases x; cases y
      simp_all
    exact List.mem_of_find?_eq_some hx
  · intro hy
    have hnodup : (zs.map (fun x => x.index)).Nodup :=
      List.pairwise_map.2 (hrise.imp fun h => Nat.ne_of_lt h)
    have hunique (x : PeerZone) (hx : x ∈ zs) (hi : x.index = y.index) : x = y := List.inj_on_of_nodup_map hnodup hx hy hi
    obtain ⟨x, hx⟩ : ∃ x, zs.find? (fun x => x.index == y.index && x.area == y.area) = some x :=
      Option.isSome_iff_exists.1 (List.find?_isSome.2 ⟨y, hy, by simp⟩)
    have hsame := List.find?_some hx
    simp only [Bool.and_eq_true, beq_iff_eq] at hsame
    obtain ⟨hi, -⟩ := hsame
    exact ⟨x, hx, by rw [hunique x (List.mem_of_find?_eq_some hx) hi]⟩

/-! ## What a changed zone list brings (R49) -/

theorem escalateZone_table (n : Nat) (s : State) : (escalateZone n s).peers.table = s.peers.table := by
  unfold escalateZone
  split
  · split
    · exact changeZone_table _ _ _ _
    · rfl
  · rfl

theorem escalate_table (except : Option Nat) (s : State) : (escalate except s).peers.table = s.peers.table := by
  unfold escalate
  refine foldl_keeps (fun s => s.peers.table) _ (fun s n => ?_) _ s
  split
  · rfl
  · exact escalateZone_table _ _

/-- R13, R175: an escalation can only end LISTEN, and then the beats since any peer are at 0 again. -/
theorem escalate_anyPeer (except : Option Nat) (h : s.peers.anyPeer = 0) : (escalate except s).peers.anyPeer = 0 := by
  have hchange (n : Nat) (z : ZoneRecord) (u : State) (hu : u.peers.anyPeer = 0) : (changeZone n z .coincidence u).peers.anyPeer = 0 := by
    unfold changeZone announceZone
    dsimp only
    (repeat' split) <;> simp [hu, enterActive]
  have hstep (u : State) (n : Nat) (hu : u.peers.anyPeer = 0) : (if except = some n then u else escalateZone n u).peers.anyPeer = 0 := by
    split
    · exact hu
    · unfold escalateZone
      (repeat' split) <;> simp [hu, hchange]
  unfold escalate
  generalize List.range s.zones.length = ns
  induction ns generalizing s with
  | nil => exact h
  | cons n ns ih => exact ih (hstep s n h)

theorem countedAlarm_silence (s : State) : (countedAlarm s).calls.silence = false := clearSilence_silence .resound s

/-- What a peer's changed zone list brings to the own zones, and leaves of the peer table. -/
theorem zoneListChanged_effect {old new : List PeerZone} (hold : zoneListOk old = true) (s : State) :
    (zoneListChanged old new s).peers.table = s.peers.table
      ∧ (s.peers.anyPeer = 0 → (zoneListChanged old new s).peers.anyPeer = 0)
      ∧ (zoneListChanged old new s).zones = s.zones.map (fun y =>
          if new.any (fun p => s.concerns p.area && inActivity p.state && !old.contains p) && escalates s y then
            y.to .alarm none else y)
      ∧ (∀ p ∈ new, s.concerns p.area = true → p.state = .alarm → p ∉ old → (zoneListChanged old new s).calls.silence = false) := by
  have henters (p : PeerZone) : entersActivity old p = (inActivity p.state && !old.contains p) := by
    unfold entersActivity
    refine congrArg (inActivity p.state && ·) ?_
    rw [Bool.eq_iff_iff, bne_iff_ne, ne_eq, stateBefore_iff hold, Bool.not_eq_true', ← Bool.not_eq_true, List.contains_iff_mem]
  obtain ⟨-, -, hconfig, -, -, -, hpeers, -, hzones, -⟩ := recompute_frame s
  have hany : new.any (fun z => s.concerns z.area && entersActivity old z)
      = new.any (fun p => s.concerns p.area && inActivity p.state && !old.contains p) := by
    simp only [henters, Bool.and_assoc]
  unfold zoneListChanged
  split
  · next heq =>
    have hno : new.any (fun p => s.concerns p.area && inActivity p.state && !old.contains p) = false := by
      rw [List.any_eq_false]
      intro p hp
      have : p ∈ old := heq ▸ hp
      simp [this]
    refine ⟨rfl, id, ?_, fun p hp _ _ hnot => absurd (heq ▸ hp) hnot⟩
    rw [hno]
    simp
  · dsimp only
    rw [hany]
    generalize hcond : new.any (fun p => s.concerns p.area && inActivity p.state && !old.contains p) = b
    have hescalated : ∀ u, u = (if b = true then escalate none (recompute s) else recompute s) →
        u.peers.table = s.peers.table ∧ (s.peers.anyPeer = 0 → u.peers.anyPeer = 0)
          ∧ u.zones = s.zones.map (fun y => if b && escalates s y then y.to .alarm none else y) := by
      rintro u rfl
      cases b
      · exact ⟨by rw [if_neg Bool.false_ne_true, hpeers], by rw [if_neg Bool.false_ne_true, hpeers]; exact id, by simp⟩
      · rw [if_pos rfl]
        refine ⟨by rw [escalate_table, hpeers], fun h => escalate_anyPeer _ (by rw [hpeers]; exact h), ?_⟩
        refine List.ext_getElem? fun m => ?_
        rw [escalate_zones, if_neg (by simp), hzones, List.getElem?_map, escalated_congr hconfig]
        simp only [Bool.true_and]
        rfl
    generalize hu : (if b = true then escalate none (recompute s) else recompute s) = u
    obtain ⟨htable, hany0, hz⟩ := hescalated u hu.symm
    have hconfig' : u.config = s.config := by
      rw [← hu]
      split
      · exact (escalate_frame (recompute s) none).2.1.trans hconfig
      · exact hconfig
    split
    · obtain ⟨-, -, -, -, -, -, -, hpeers', -, -, -, hzones', -⟩ := countedAlarm_frame u
      exact ⟨by rw [hpeers', htable], by rw [hpeers']; exact hany0, by rw [hzones', hz], fun _ _ _ _ _ => countedAlarm_silence u⟩
    · next hnone =>
      refine ⟨htable, hany0, hz, fun p hp hc hal hnot => absurd (List.any_eq_true.2 ⟨p, hp, ?_⟩) hnone⟩
      have hnew : stateBefore old p ≠ some .alarm := by
        rw [← hal]
        exact fun h => hnot ((stateBefore_iff hold).1 h)
      simp only [entersAlarm, hc, hal, Bool.true_and, beq_self_eq_true, bne_iff_ne]
      exact hnew

/-! ## A frame that replaces a peer's zone list (O22, O23) -/

theorem mem_of_findPeer_law {x : Nat} {e : PeerEntry} (h : PeerLaw s) (he : findPeer x s.peers.table = some e) : zoneListOk e.zones = true := by
  obtain ⟨-, hall, -⟩ := h
  have := List.all_eq_true.1 hall e (findPeer_some he).1
  exact (Bool.and_eq_true_iff.1 this).2

theorem isPresent_entry {x : Nat} (h : isPresent x s = true) : ∃ e, findPeer x s.peers.table = some e ∧ e.liveness = .present := by
  unfold isPresent at h
  split at h
  · next e he => exact ⟨e, he, beq_iff_eq.1 h⟩
  · cases h

/-- The entries of the other stations stay. -/
theorem findPeer_updateEntry_ne {n x : Nat} (hn : n ≠ x) {f : PeerEntry → PeerEntry} (hf : ∀ e, (f e).station = e.station)
    (es : List PeerEntry) : findPeer n (updateEntry x f es) = findPeer n es := by
  rw [findPeer_updateEntry n x hf]
  cases he : findPeer n es with
  | none => rfl
  | some e => rw [Option.map_some, if_neg (by rw [(findPeer_some he).2]; exact hn)]

/-- What a frame of a peer heard lately brings, when it changes the peer's entry by f and the zone list with it. -/
theorem relisted_effect {x : Nat} {f : PeerEntry → PeerEntry} {e : PeerEntry} (hf : ∀ e, (f e).station = e.station)
    (hlaw : PeerLaw s) (he : findPeer x s.peers.table = some e) {t : State}
    (ht : t = zoneListChanged (zoneListOf x (heard x s)) (zoneListOf x (setTable (updateEntry x f (heard x s).peers.table) (heard x s)))
      (setTable (updateEntry x f (heard x s).peers.table) (heard x s))) :
    ZoneFrame s t ∧ findPeer x t.peers.table = some (f { e with heard := 0, liveness := .present })
      ∧ (∀ n, n ≠ x → findPeer n t.peers.table = findPeer n s.peers.table) ∧ t.peers.anyPeer = 0
      ∧ t.zones = s.zones.map (fun y =>
          if (f { e with heard := 0, liveness := .present }).zones.any
              (fun p => s.concerns p.area && inActivity p.state && !e.zones.contains p) && escalates s y then y.to .alarm none else y)
      ∧ (∀ p ∈ (f { e with heard := 0, liveness := .present }).zones, s.concerns p.area = true → p.state = .alarm → p ∉ e.zones →
          t.calls.silence = false) := by
  have hst := (findPeer_some he).2
  have hheard (n : Nat) : findPeer n (heard x s).peers.table = (findPeer n s.peers.table).map
      (fun e => if e.station = x then { e with heard := 0, liveness := .present } else e) :=
    findPeer_updateEntry (f := fun e => { e with heard := 0, liveness := .present }) n x (fun _ => rfl) _
  have hafter (n : Nat) : findPeer n (setTable (updateEntry x f (heard x s).peers.table) (heard x s)).peers.table
      = (findPeer n (heard x s).peers.table).map (fun e => if e.station = x then f e else e) :=
    findPeer_updateEntry n x hf _
  have holdentry : findPeer x (heard x s).peers.table = some { e with heard := 0, liveness := .present } := by
    rw [hheard, he, Option.map_some, if_pos hst]
  have hnewentry : findPeer x (setTable (updateEntry x f (heard x s).peers.table) (heard x s)).peers.table
      = some (f { e with heard := 0, liveness := .present }) := by
    rw [hafter, holdentry, Option.map_some, if_pos (show e.station = x from hst)]
  have hold : zoneListOf x (heard x s) = e.zones := by rw [zoneListOf, holdentry]
  have hnew : zoneListOf x (setTable (updateEntry x f (heard x s).peers.table) (heard x s))
      = (f { e with heard := 0, liveness := .present }).zones := by rw [zoneListOf, hnewentry]
  rw [hold, hnew] at ht
  obtain ⟨htable, hany, hzones, hsilence⟩ := zoneListChanged_effect (new := (f { e with heard := 0, liveness := .present }).zones)
    (mem_of_findPeer_law hlaw he) (setTable (updateEntry x f (heard x s).peers.table) (heard x s))
  obtain ⟨hmode, hconfig, hclamp, hheld, hbeat, hpins, hunder, hpending⟩ := zoneListChanged_frame
    (setTable (updateEntry x f (heard x s).peers.table) (heard x s)) e.zones (f { e with heard := 0, liveness := .present }).zones
  rw [← ht] at htable hany hzones hsilence hmode hconfig hclamp hheld hbeat hpins hunder hpending
  refine ⟨⟨hmode, hconfig, hbeat, hpins, hclamp, hheld, hunder, hpending⟩, by rw [htable, hnewentry], fun n hn => ?_, hany rfl, hzones, hsilence⟩
  rw [htable]
  exact (findPeer_updateEntry_ne hn hf _).trans 
    (findPeer_updateEntry_ne (f := fun e => { e with heard := 0, liveness := .present }) hn (fun _ => rfl) _)

/-- Settles O22: the carried zone joins or leaves the list of the entry, and R49 follows. -/
theorem zoneFrameUpdatesThePeer : Obligations.ZoneFrameUpdatesThePeer := by
  intro s x i a z hx hlaw hi ha
  obtain ⟨e, he, hlive⟩ := isPresent_entry hx.present
  have hrow : exec (.zoneFrame x i a z) s = .next (takeZoneFrame x ⟨i, a, z⟩ (heard x s)) := by
    rw [exec_zoneFrame, receive_heard s x _ hx (formOk_zone z hx.station.1 hx.station.2 hi ha)]
    exact congrArg Host.Outcome.next (if_neg hx.peer)
  obtain ⟨hframe, hentry, hothers, hany, hzones, hsilence⟩ := relisted_effect
    (f := fun e => { e with zones := updateZoneList ⟨i, a, z⟩ e.zones }) (fun _ => rfl) hlaw he rfl
  have hok := mem_of_findPeer_law hlaw he
  have hmem (y : PeerZone) : y ∈ updateZoneList ⟨i, a, z⟩ e.zones ↔ (z ≠ .quiet ∧ y = ⟨i, a, z⟩) ∨ (y ∈ e.zones ∧ y.index ≠ i) :=
    mem_updateZoneList hok
  refine ⟨e, _, _, hrow, hframe, he, hentry, rfl, hmem, hothers, hany, hzones.trans ?_, fun hc hal hnot => ?_⟩
  · have hany : (updateZoneList ⟨i, a, z⟩ e.zones).any (fun p => s.concerns p.area && inActivity p.state && !e.zones.contains p)
        = (s.concerns a && inActivity z && !e.zones.contains ⟨i, a, z⟩) := by
      rw [Bool.eq_iff_iff, List.any_eq_true]
      constructor
      · rintro ⟨p, hp, hc⟩
        rcases (hmem p).1 hp with ⟨-, rfl⟩ | ⟨hold, -⟩
        · exact hc
        · simp [hold] at hc
      · intro hc
        refine ⟨⟨i, a, z⟩, (hmem _).2 (.inl ⟨?_, rfl⟩), hc⟩
        rintro rfl
        simp [inActivity] at hc
    simp only [hany]
    rfl
  · exact hsilence ⟨i, a, z⟩ ((hmem _).2 (.inl ⟨by rw [hal]; decide, rfl⟩)) hc hal hnot

/-- Settles O23: the entry takes all that the STATUS carries, and R49 follows. -/
theorem statusFrameReplacesTheEntry : Obligations.StatusFrameReplacesTheEntry := by
  intro s x r m f c zs hx hlaw hwf
  obtain ⟨hform, hfits⟩ := Bool.and_eq_true_iff.1 hwf
  obtain ⟨e, he, hlive⟩ := isPresent_entry hx.present
  have hpayload : (Payload.status r m f c zs).formOk = true := (Bool.and_eq_true_iff.1 hform).2
  obtain ⟨hfirst, hdistinct⟩ := Bool.and_eq_true_iff.1 hpayload
  have hzfits (y : PeerZone) (hy : y ∈ zs) : PeerZoneFits y := by
    have := List.all_eq_true.1 (Bool.and_eq_true_iff.1 hfirst).2 y hy
    simp only [PeerZone.entryOk, Bool.and_eq_true, decide_eq_true_eq] at this
    exact ⟨this.1.1, this.2⟩
  have hcurtain : (if r = .curtain then c else none) = c := by
    cases c with
    | none => exact ite_self _
    | some p =>
      obtain ⟨st, pos⟩ := p
      exact if_pos (of_decide_eq_true (Bool.and_eq_true_iff.1 hfits).1)
  have hrow : exec (.statusFrame x r m f c zs) s = .next (takeStatusFrame x r m f c zs (heard x s)) := by
    rw [exec_statusFrame, receive_heard s x _ hx hform]
    exact congrArg Host.Outcome.next (if_neg hx.peer)
  obtain ⟨hframe, hentry, hothers, hany, hzones, hsilence⟩ := relisted_effect
    (f := fun e => { e with role := some r, mode := some m, faults := some f
                            curtain := if r = .curtain then c else none, zones := orderZoneList zs }) (fun _ => rfl) hlaw he rfl
  have hmem (y : PeerZone) : y ∈ orderZoneList zs ↔ y ∈ zs := mem_orderZoneList hdistinct hzfits
  have hbrought : (orderZoneList zs).any (fun p => s.concerns p.area && inActivity p.state && !e.zones.contains p)
      = zs.any (fun p => s.concerns p.area && inActivity p.state && !e.zones.contains p) := by
    rw [Bool.eq_iff_iff, List.any_eq_true, List.any_eq_true]
    simp only [hmem]
  dsimp only at hzones hentry
  rw [hbrought] at hzones
  refine ⟨e, _, _, hrow, hframe, he, hentry, ?_, orderZoneList_ok hzfits, hmem, hothers, hany, fun hall => ?_, hzones,
    fun p hp => hsilence p ((hmem p).2 hp)⟩
  · rw [hcurtain, (findPeer_some he).2]
  · have hno : zs.any (fun p => s.concerns p.area && inActivity p.state && !e.zones.contains p) = false := by
      rw [List.any_eq_false]
      intro p hp
      simp [hall p hp]
    refine hzones.trans ?_
    simp only [hno, Bool.false_and, Bool.false_eq_true, if_false, List.map_id']

end Sys2Proof.Machine
end

section
/-! PROOFS. Peers that come, fall silent and return, and the own STATUS (03 sections 3.1 to 3.3). -/

namespace Sys2Proof.Machine

variable {s t : State}

/-! ## The faults of the Peer Monitor (R55, R113) -/

/-- The two fault sets differ in CURTAIN_FAULT at most. -/
def CurtainFaultOnly (f g : FaultSet) : Prop := g = { f with curtain := g.curtain }

theorem CurtainFaultOnly.trans {f g h : FaultSet} (hfg : CurtainFaultOnly f g) (hgh : CurtainFaultOnly g h) : CurtainFaultOnly f h := by
  unfold CurtainFaultOnly at hfg hgh ⊢
  rw [hgh, hfg]

theorem curtainGo_faultOnly (target : CurtainState) (cause : CurtainCause) (s : State) :
    CurtainFaultOnly s.faults (curtainGo target cause s).faults := by
  unfold curtainGo CurtainFaultOnly
  split
  · rw [curtainMove_faults]; rfl
  · rw [curtainMove_faults]

theorem curtainCondition_faultOnly (s : State) : CurtainFaultOnly s.faults (curtainCondition s).faults := by
  unfold curtainCondition
  split
  · split
    · rfl
    · rfl
    · rfl
    · exact curtainGo_faultOnly _ _ s
  · split
    · rw [curtainMove_faults]; rfl
    · rfl
  · rfl

/-- R59, R113: a recomputation changes no fault but CURTAIN_FAULT. -/
theorem recompute_faultOnly (s : State) : CurtainFaultOnly s.faults (recompute s).faults := by
  unfold recompute
  dsimp only
  split
  · rfl
  · unfold deliverCondition
    obtain ⟨-, -, -, -, -, -, -, -, -, hcall, -⟩ := callCondition_frame (lightCondition s.condition (curtainCondition
      (report (.conditionChanged s.condition s.computedCondition s.faults) (s.setCondition s.computedCondition)))) s.condition
    obtain ⟨-, -, -, -, -, -, -, -, -, hlight, -⟩ := lightCondition_frame (curtainCondition
      (report (.conditionChanged s.condition s.computedCondition s.faults) (s.setCondition s.computedCondition))) s.condition
    rw [hcall, hlight]
    exact curtainCondition_faultOnly _

theorem failSafe_faultOnly (s : State) : CurtainFaultOnly s.faults (failSafe s).faults := by
  have hlower : CurtainFaultOnly s.faults (curtainLowering .failSafe s).faults := by
    have hgo : CurtainFaultOnly s.faults (curtainLowerTo .failSafe s).faults := by
      unfold curtainLowerTo
      split <;> exact curtainGo_faultOnly _ _ s
    unfold curtainLowering afterCurtain
    split
    · exact hgo
    · exact hgo.trans (recompute_faultOnly _)
  unfold failSafe
  split
  · exact hlower
  · exact hlower
  · exact hlower
  · exact hlower
  · exact hlower
  · rfl

/-- R55: after a judgement the fault stands as judged. -/
theorem putPeerFault_faultOnly (x : StationFault) (v : Bool) (s : State) :
    CurtainFaultOnly (s.faults.put x v) (putPeerFault x v s).faults := by
  unfold putPeerFault
  split
  · next h =>
    rw [← h]
    cases x <;> rfl
  · have hone := recompute_faultOnly (report (.stationFaultChanged x v) (s.setFaults (s.faults.put x v)))
    dsimp only
    split
    · exact hone.trans (failSafe_faultOnly _)
    · exact hone

theorem putPeerFault_alone (v : Bool) (s : State) : (putPeerFault .alone v s).faults.alone = v := by
  rw [putPeerFault_faultOnly .alone v s]
  rfl

theorem putPeerFault_requiredLost (v : Bool) (s : State) : (putPeerFault .requiredLost v s).faults.requiredLost = v := by
  rw [putPeerFault_faultOnly .requiredLost v s]
  rfl

/-- R57: a judgement of the required stations leaves ALONE. -/
theorem judgeStation_alone (n : Nat) (s : State) : (judgeStation n s).faults.alone = s.faults.alone := by
  unfold judgeStation judgeRequired
  split
  · split
    · rw [putPeerFault_faultOnly]; rfl
    · rfl
  · rfl

/-- R57: in ACTIVE a required station has REQUIRED_PEER_LOST judged. -/
theorem judgeStation_requiredLost {n : Nat} (hn : n ≠ s.cfg.station) (hreq : n ∈ s.cfg.required) (hp : s.phase = .active) :
    (judgeStation n s).faults.requiredLost = requiredMissing s := by
  have hcounts : isRequired s n = true := by simp [isRequired, hn, hreq]
  rw [judgeStation, if_pos hcounts, judgeRequired, if_pos hp, putPeerFault_requiredLost]

theorem judgeStation_unrequired {n : Nat} (h : n = s.cfg.station ∨ n ∉ s.cfg.required) : judgeStation n s = s := by
  refine if_neg ?_
  rcases h with rfl | h
  · simp [isRequired]
  · simp [isRequired, h]

/-! ## A peer that falls silent (O25) -/

/-- Settles O25: the count reaches its threshold, the entry takes the liveness it gives, and R57 follows. -/
theorem livenessFallsAtItsThreshold : Obligations.LivenessFallsAtItsThreshold := by
  intro s n e hw he hi count new
  have hrow : exec (.peerLivenessChange n) s = .next (ageToThreshold n s) := by
    rw [exec_peerLivenessChange, whileWorking, if_pos hw]
  refine ⟨fun hl => ?_, fun hl => ?_⟩
  · rw [hrow, ageToThreshold, he]
    exact congrArg Host.Outcome.next (if_pos hl)
  have hcount : nextThreshold s.cfg.statusInterval e.liveness = count := by
    show _ = if e.liveness = .present then _ else _
    cases hv : e.liveness <;> simp_all [nextThreshold]
  have hnew : livenessOf s.cfg.statusInterval count = new := by
    show livenessOf _ (if e.liveness = .present then _ else _) = if e.liveness = .present then _ else _
    unfold livenessOf
    split
    · rw [if_neg (by omega), if_pos (by omega)]
    · rw [if_neg (by omega), if_neg (by omega)]
  generalize hu : report (.peerChanged n (some e.liveness) (some new))
    (setTable (updateEntry n (fun e => { e with heard := count, liveness := new }) s.peers.table) s) = u
  have hage : ageToThreshold n s = judgeStation n u := by
    rw [ageToThreshold, he, ← hu]
    dsimp only
    rw [if_neg hl, hcount, hnew]
  have hst := (findPeer_some he).2
  have htable : u.peers.table = updateEntry n (fun e => { e with heard := count, liveness := new }) s.peers.table := by rw [← hu]; rfl
  obtain ⟨-, hmode, -, -, -, -, hpeers, hbeat, hzones, -⟩ := judgeStation_frame u n
  have hentry : findPeer n u.peers.table = some { e with heard := count, liveness := new } := by
    rw [htable, findPeer_updateEntry n n (f := fun e => { e with heard := count, liveness := new }) (fun _ => rfl), he,
      Option.map_some, if_pos hst]
  refine ⟨judgeStation n u, hrow.trans (congrArg Host.Outcome.next hage), by rw [hpeers, hentry], fun m hm => ?_, ?_, ?_, ?_, ?_,
    fun h => ?_, fun hn hreq hp hlate => ?_⟩
  · rw [hpeers, htable]
    exact findPeer_updateEntry_ne (f := fun e => { e with heard := count, liveness := new }) hm (fun _ => rfl) _
  · exact FirstReport.of_grows (judgeStation_grows u _ n (by rw [← hu]; exact PanelGrows.refl _))
  · rw [hzones, ← hu]; rfl
  · rw [hbeat, ← hu]; rfl
  · rw [hmode, ← hu]; rfl
  · rw [judgeStation_unrequired (by rw [← hu]; exact h), ← hu]
    rfl
  · have hlost : new = .lost := if_neg (by rw [hlate]; decide)
    have hcfg : u.cfg = s.cfg := by rw [← hu]; rfl
    rw [judgeStation_requiredLost (by rw [hcfg]; exact hn) (by rw [hcfg]; exact hreq) (by rw [← hu]; exact hp), requiredMissing, hcfg,
      List.any_eq_true]
    exact ⟨n, hreq, by simp [hn, satisfied, hentry, hlost]⟩

/-! ## The own STATUS (O27) -/

/-- R54: the zone list of the own STATUS, zone by zone. -/
theorem ownZoneList_eq (zs : List ZoneRecord) : ownZoneList zs = (List.range zs.length).filterMap (fun n =>
    match zs[n]? with
    | some z => if z.state = .quiet then none else some ⟨n, z.area, z.state⟩
    | none => none) := by
  induction zs using List.reverseRecOn with
  | nil => rfl
  | append_singleton zs z ih =>
    have hsame : (List.range zs.length).filterMap (fun n =>
        match (zs ++ [z])[n]? with
        | some z => if z.state = .quiet then none else some (⟨n, z.area, z.state⟩ : PeerZone)
        | none => none) = ownZoneList zs := by
      rw [ih]
      refine List.filterMap_congr fun n hn => ?_
      rw [List.getElem?_append_left (List.mem_range.1 hn)]
    have hlast : ownZoneList (zs ++ [z]) = ownZoneList zs ++
        (if z.state = .quiet then [] else [(⟨zs.length, z.area, z.state⟩ : PeerZone)]) := by
      simp only [ownZoneList, List.zipIdx_append, List.filter_append, List.map_append, List.zipIdx_singleton, List.filter_cons,
        List.filter_nil, Nat.zero_add, bne_iff_ne, ne_eq]
      split <;> simp_all
    rw [hlast, List.length_append, List.length_singleton, List.range_succ, List.filterMap_append, hsame]
    refine congrArg (ownZoneList zs ++ ·) ?_
    rw [List.filterMap_cons, List.filterMap_nil, List.getElem?_append_right le_rfl, Nat.sub_self]
    by_cases hq : z.state = .quiet <;> simp [hq]

theorem status_sort {r : Role} {m : Mode} {f : FaultSet} {c : Option (CurtainState × Nat)} {zs : List PeerZone} (g : Payload) :
    sameSort g (.status r m f c zs) = true ↔ g.cls = 6 := by
  cases g <;> simp [sameSort, Payload.cls]

/-- R37: a frame of the last class joins behind all. -/
theorem joinQueue_last {f : Payload} {q : List Payload} (h : ∀ g ∈ q, g.cls ≤ f.cls) : joinQueue f q = q ++ [f] := by
  induction q with
  | nil => rfl
  | cons g q ih =>
    rw [List.forall_mem_cons] at h
    rw [joinQueue, if_pos h.1, ih h.2]
    rfl

/-- Settles O27: the STATUS is offered to the queue as it stands, and the schedule starts again. -/
theorem statusIntervalOffersStatus : Obligations.StatusIntervalOffersStatus := by
  intro s zs hp hzs status scheduled
  have hlist : ownZoneList s.zones = zs := (ownZoneList_eq s.zones).trans hzs.symm
  have hown : ownStatus s = status := by
    rw [ownStatus, hlist]
  have hrow : exec .statusInterval s = .next ((offer status s).setPeers { (offer status s).peers with schedule := 0 }) := by
    rw [exec_statusInterval, statusDue, if_pos hp, offerStatus, hown]
  have hsort (g : Payload) : sameSort g status = true ↔ g.cls = 6 := status_sort g
  have hcls (g : Payload) : g.cls ≤ 6 := by cases g <;> simp [Payload.cls]
  have hnone (h : ∀ g ∈ s.line.tx, g.cls ≠ 6) : waits status s.line.tx = false :=
    waits_eq_false.2 fun g hg => Bool.eq_false_iff.2 fun hs => h g hg ((hsort g).1 hs)
  refine ⟨fun h => ?_, fun h hl => ?_, fun h hl => ?_⟩
  · obtain ⟨g, hg, hg6⟩ := h
    rw [hrow, offer_replaces hp (waits_iff.2 ⟨g, hg, (hsort g).2 hg6⟩)]
    have hsame : replaceIn status s.line.tx = s.line.tx.map (fun g => if g.cls = 6 then status else g) := by
      simp only [replaceIn, hsort]
    rw [hsame]
    rfl
  · rw [hrow, offer_joins hp (hnone h) hl, joinQueue_last (f := status) fun g _ => hcls g]
    rfl
  · rw [hrow, offer, if_neg (not_not.2 hp), hnone h, if_neg Bool.false_ne_true, if_neg (by omega)]
    rfl

/-! ## A peer that comes or returns (O24) -/

theorem findPeer_cons (n : Nat) (x : PeerEntry) (es : List PeerEntry) :
    findPeer n (x :: es) = if x.station = n then some x else findPeer n es := by
  by_cases hn : x.station = n <;> simp [findPeer, hn]

/-- R43: the entry of a station that had none, and those of the others. -/
theorem findPeer_insertEntry (n : Nat) (e : PeerEntry) {es : List PeerEntry} (h : findPeer e.station es = none) :
    findPeer n (insertEntry e es) = if n = e.station then some e else findPeer n es := by
  induction es with
  | nil => simp only [insertEntry, findPeer_cons, eq_comm]
  | cons x es ih =>
    have hx : x.station ≠ e.station := findPeer_none h x (by simp)
    rw [findPeer_cons, if_neg hx] at h
    unfold insertEntry
    split
    · rw [findPeer_cons, ih h, findPeer_cons]
      by_cases hn : n = e.station
      · rw [if_neg (by rw [hn]; exact hx), if_pos hn, if_pos hn]
      · rw [if_neg hn, if_neg hn]
    · rw [findPeer_cons]
      simp only [eq_comm]

/-- R44, R48: what hearing a CURTAIN STATE from a station that is not PRESENT brings. -/
theorem curtainState_returns {x target pos : Nat} {st : CurtainState} {e : PeerEntry} {r : Report} (hw : s.working = true)
    (hx1 : 1 ≤ x) (hx31 : x ≤ 31) (hne : x ≠ s.cfg.station) (ht : target ≤ 31) (hheld : s.line.heldBeat = none)
    (hgood : s.line.good < 15) (hlow : s.faults.lineDegraded = false → s.line.score < s.line.threshold)
    (hdeg : s.faults.lineDegraded = true → s.line.score ≠ 0) (hp : isPresent x s = false) {es : List PeerEntry}
    (href : refreshEntry x (s.setLine s.line.countGood) = report r (setTable es (s.setLine s.line.countGood)))
    (he : findPeer x es = some e) (hothers : ∀ n, n ≠ x → findPeer n es = findPeer n s.peers.table) :
    ∃ t, exec (.curtainStateFrame x target st pos) s = .next t
      ∧ findPeer x t.peers.table = some { e with curtain := some (st, pos) }
      ∧ (∀ n, n ≠ x → findPeer n t.peers.table = findPeer n s.peers.table)
      ∧ t.peers.anyPeer = 0 ∧ t.faults.alone = false ∧ t.zones = s.zones ∧ t.beat = s.beat ∧ t.mode = s.mode
      ∧ FirstReport s r t
      ∧ (s.phase = .active → x ∈ s.cfg.required →
          (∀ n ∈ s.cfg.required, n = s.cfg.station ∨ satisfied es n = true) → t.faults.requiredLost = false) := by
  have hjudge : judgeDegraded (s.setLine s.line.countGood) = s.setLine s.line.countGood :=
    judgeDegraded_countGood s hlow (fun _ => hdeg) (by omega)
  have hform : Frame.formOk ⟨x, .curtainState target st pos⟩ = true := by
    simp [Frame.formOk, Payload.formOk, hx1, hx31, ht]
  generalize hu : s.setLine s.line.countGood = u at hjudge href
  have hup : isPresent x u = false := by rw [← hu]; exact hp
  have hsame : u = { s with line := s.line.countGood } := hu.symm
  have hup : isPresent x u = false := by rw [← hu]; exact hp
  generalize hset : (report r (setTable es u)).setPeers { (report r (setTable es u)).peers with anyPeer := 0 } = v at *
  have hheard : heardFrom x u = judgeStation x (putPeerFault .alone false v) := by
    rw [heardFrom, heardAnyPeer, href, hset]
    exact if_neg (by rw [hup]; decide)
  obtain ⟨-, hmode, hconfig, -, -, -, hpeers, hbeat, hzones, -⟩ := judgeStation_frame (putPeerFault .alone false v) x
  obtain ⟨hphase', hmode', hconfig', -, -, -, hpeers', hbeat', hzones', -⟩ := putPeerFault_frame v .alone false
  have hcfg : (heardFrom x u).cfg = s.cfg := by
    rw [hheard, State.cfg, hconfig, hconfig', ← hset, hsame]
    rfl
  have hrow : exec (.curtainStateFrame x target st pos) s = .next (takeStateFrame x st pos (heardFrom x u)) := by
    rw [exec_curtainStateFrame, receive_good hw hform hne hheld, hu, hjudge, handOn, if_neg (by rw [hsame]; exact hne)]
    exact congrArg Host.Outcome.next (if_neg (by rw [hcfg]; exact hne))
  have htable : (heardFrom x u).peers = { s.peers with table := es, anyPeer := 0 } := by
    rw [hheard, hpeers, hpeers', ← hset, hsame]
    rfl
  refine ⟨_, hrow, ?_, fun n hn => ?_, ?_, ?_, ?_, ?_, ?_, ?_, fun hact hreq hall => ?_⟩
  · show findPeer x (updateEntry x (fun e => { e with curtain := some (st, pos) }) (heardFrom x u).peers.table) = _
    rw [findPeer_updateEntry x x (f := fun e => { e with curtain := some (st, pos) }) (fun _ => rfl), htable, he, Option.map_some,
      if_pos (findPeer_some he).2]
  · show findPeer n (updateEntry x (fun e => { e with curtain := some (st, pos) }) (heardFrom x u).peers.table) = _
    rw [findPeer_updateEntry_ne (f := fun e => { e with curtain := some (st, pos) }) hn (fun _ => rfl), htable]
    exact hothers n hn
  · show (heardFrom x u).peers.anyPeer = 0
    rw [htable]
  · show (heardFrom x u).faults.alone = false
    rw [hheard, judgeStation_alone, putPeerFault_alone]
  · show (heardFrom x u).zones = s.zones
    rw [hheard, hzones, hzones', ← hset, hsame]
    rfl
  · show (heardFrom x u).beat = s.beat
    rw [hheard, hbeat, hbeat', ← hset, hsame]
    rfl
  · show (heardFrom x u).mode = s.mode
    rw [hheard, hmode, hmode', ← hset, hsame]
    rfl
  · have hgrows : PanelGrows (report r u).panel (heardFrom x u).panel := by
      rw [hheard]
      exact judgeStation_grows _ _ x (putPeerFault_grows _ _ .alone false (by rw [← hset]; exact PanelGrows.refl _))
    have hfirst : FirstReport u r (heardFrom x u) := FirstReport.of_grows hgrows
    rw [hsame] at hfirst
    rw [hsame]
    exact hfirst
  · show (heardFrom x u).faults.requiredLost = false
    have hvcfg : (putPeerFault .alone false v).cfg = s.cfg := by
      rw [State.cfg, hconfig', ← hset, hsame]
      rfl
    have hvphase : (putPeerFault .alone false v).phase = .active := by
      rw [hphase', ← hset, hsame]
      exact hact
    have hvtable : (putPeerFault .alone false v).peers.table = es := by
      rw [hpeers', ← hset]
      rfl
    rw [hheard, judgeStation_requiredLost (by rw [hvcfg]; exact hne) (by rw [hvcfg]; exact hreq) hvphase]
    exact requiredMissing_eq_false (by rw [hvcfg, hvtable]; exact hall)

/-- Settles O24: by the entry the station had, none, a PRESENT one, or one LATE or LOST. -/
theorem stateFrameGivesThePeersCurtain : Obligations.StateFrameGivesThePeersCurtain := by
  intro s x target st pos ht
  refine ⟨fun hx => ?_, fun hw hx1 hx31 hne hheld hgood hlow hdeg hnone => ?_, fun e hw hx1 hx31 hne hheld hgood hlow hdeg he hl => ?_⟩
  · have hform : Frame.formOk ⟨x, .curtainState target st pos⟩ = true := by
      simp [Frame.formOk, Payload.formOk, hx.station.1, hx.station.2, ht]
    rw [exec_curtainStateFrame, receive_heard s x _ hx hform]
    refine congrArg Host.Outcome.next ((if_neg hx.peer).trans ?_)
    have htable : updateEntry x (fun e => { e with curtain := some (st, pos) }) (heard x s).peers.table
        = s.peers.table.map (fun e =>
          if e.station = x then { e with heard := 0, liveness := .present, curtain := some (st, pos) } else e) := by
      show ((s.peers.table.map _).map _) = _
      rw [List.map_map]
      refine List.map_congr_left fun e _ => ?_
      by_cases he : e.station = x <;> simp [he]
    rw [takeStateFrame, htable]
    rfl
  · have href : refreshEntry x (s.setLine s.line.countGood) = report (.peerChanged x none (some .present))
        (setTable (insertEntry (newEntry x) s.peers.table) (s.setLine s.line.countGood)) := by
      rw [refreshEntry, setLine_peers, hnone]
    obtain ⟨t, hrow, hentry, hothers, hany, halone, hzones, hbeat, hmode, hfirst, -⟩ := curtainState_returns (st := st) (pos := pos)
      (e := newEntry x) hw hx1 hx31 hne ht hheld hgood hlow hdeg (by rw [isPresent, hnone]) href
      ((findPeer_insertEntry x (newEntry x) hnone).trans (if_pos rfl))
      (fun n hn => (findPeer_insertEntry n (newEntry x) hnone).trans (if_neg hn))
    exact ⟨t, hrow, hentry, hothers, hany, halone, hzones, hbeat, hmode, hfirst⟩
  · have href : refreshEntry x (s.setLine s.line.countGood) = report (.peerChanged x (some e.liveness) (some .present))
        (setTable (updateEntry x (fun e => { e with heard := 0, liveness := .present }) s.peers.table) (s.setLine s.line.countGood)) := by
      rw [refreshEntry, setLine_peers, he]
      exact if_neg hl
    have hentry : findPeer x (updateEntry x (fun e => { e with heard := 0, liveness := .present }) s.peers.table)
        = some { e with heard := 0, liveness := .present } := by
      rw [findPeer_updateEntry x x (f := fun e => { e with heard := 0, liveness := .present }) (fun _ => rfl), he, Option.map_some,
        if_pos (findPeer_some he).2]
    have hsame (n : Nat) (hn : n ≠ x) : findPeer n (updateEntry x (fun e => { e with heard := 0, liveness := .present }) s.peers.table)
        = findPeer n s.peers.table := findPeer_updateEntry_ne (f := fun e => { e with heard := 0, liveness := .present }) hn (fun _ => rfl) _
    obtain ⟨t, hrow, hcurtain, hothers, hany, halone, hzones, hbeat, hmode, hfirst, hrequired⟩ := curtainState_returns (st := st) (pos := pos)
      hw hx1 hx31 hne ht hheld hgood hlow hdeg (by rw [isPresent, he]; exact beq_false_of_ne hl) href hentry hsame
    refine ⟨t, hrow, hcurtain, hothers, hany, halone, hzones, hbeat, hmode, hfirst, fun hact hreq hall =>
      hrequired hact hreq fun n hn => ?_⟩
    rcases hall n hn with h | rfl | h
    · exact .inl h
    · exact .inr (by rw [satisfied, hentry]; rfl)
    · by_cases hnx : n = x
      · subst hnx
        exact .inr (by rw [satisfied, hentry]; rfl)
      · exact .inr (by rw [satisfied, hsame n hnx]; exact h)

end Sys2Proof.Machine
end

section
/-! PROOFS. A BEAT frame measured and followed (04 sections 4.3 and 4.4). -/

namespace Sys2Proof.Machine

variable {s : State}

/-! ## Measuring (R71 to R73) -/

theorem receive_beat {x : Nat} (hx : HearsPeer x s) (n : BitVec 8) :
    receive ⟨x, .beat n⟩ s = takeBeatFrame x n (heard x s) := by
  refine receive_heard s x _ hx ?_
  simp [Frame.formOk, Payload.formOk, hx.station.1, hx.station.2]

/-- R71: the record after a measurement. -/
theorem measure_eq (b : BeatState) : b.measure = { b with
    phaseError := if b.position ≤ b.period / 2 then (b.position : Int) else b.position - b.period
    received := min 255 (b.received + 1) } := rfl

/-- R71 to R73: a measurement changes no more of the beat than its error, its count, the lock and the run. -/
theorem measureBeat_eq (n : BitVec 8) (s : State) : ∃ lock run panel, measureBeat n s = { s with
    beat := { s.beat.measure with lock := lock, run := run }, panel := panel } := by
  unfold measureBeat judgeLock
  dsimp only
  split
  · split
    · exact ⟨_, _, _, rfl⟩
    · exact ⟨_, _, _, rfl⟩
  · exact ⟨_, _, _, rfl⟩
  · exact ⟨s.beat.lock, s.beat.run, s.panel, rfl⟩
  · exact ⟨_, _, _, rfl⟩

/-- Settles O29: by the lock and the window. -/
theorem monitorMeasuresTheBeat : Obligations.MonitorMeasuresTheBeat := by
  intro s x n hx hsync error near measured after
  have hrow : exec (.beatFrame x n) s = .next (judgeLock n (after measured)) := by
    rw [exec_beatFrame, receive_beat hx]
    exact congrArg Host.Outcome.next (if_pos (.inr hsync))
  have hwindow : inWindow measured measured.phaseError n = true ↔ near := by
    simp only [inWindow, Bool.and_eq_true, Bool.or_eq_true, beq_iff_eq, decide_eq_true_eq]
    rfl
  have hin (h : near) : inWindow (after measured).beat (after measured).beat.phaseError n = true := hwindow.2 h
  have hout (h : ¬near) : inWindow (after measured).beat (after measured).beat.phaseError n = false :=
    Bool.eq_false_iff.2 fun hw => h (hwindow.1 hw)
  have hlock : (after measured).beat.lock = s.beat.lock := rfl
  refine ⟨fun hl hn hr => ?_, fun hl hn hr => ?_, fun hl hn => ?_, fun hl hn => ?_, fun hl hn => ?_⟩
  · rw [hrow, judgeLock]
    rw [hlock, hl, hin hn]
    exact congrArg Host.Outcome.next (if_neg (by show ¬3 ≤ s.beat.run; omega))
  · rw [hrow, judgeLock]
    rw [hlock, hl, hin hn]
    exact congrArg Host.Outcome.next (if_pos (by show 3 ≤ s.beat.run; omega))
  · rw [hrow, judgeLock]
    rw [hlock, hl, hout hn]
    rfl
  · rw [hrow, judgeLock]
    rw [hlock, hl, hin hn]
  · rw [hrow, judgeLock]
    rw [hlock, hl, hout hn]
    rfl

/-! ## Following (R66, R68) -/

theorem enterActive_phase (c : ListenCause) (s : State) : (enterActive c s).phase = .active := by
  simp [enterActive]

/-- R174: a boundary takes LISTEN to ACTIVE when its count is full, and keeps every other phase. -/
theorem takeBoundary_phase (n : BitVec 8) (s : State) : (takeBoundary n s).phase =
    if s.phase = .listen ∧ 2 * s.cfg.statusInterval ≤ s.listenCount + 1 then .active else s.phase := by
  unfold takeBoundary deliverBoundary
  generalize hu : curtainBoundary (releasePlacement (callBoundary (lightBoundary (peerBoundary
    ((s.setBeat { s.beat with number := n, position := 0, stepIndex := 0 }).setBoundaryUnderway true))))) = u
  have hphase : u.phase = s.phase := by rw [← hu]; simp
  have hcount : u.listenCount = s.listenCount := by rw [← hu]; simp
  have hcfg : u.cfg = s.cfg := by rw [State.cfg, ← hu]; simp [State.cfg]
  unfold loaderBoundary
  dsimp only
  rw [hphase, hcount, hcfg]
  by_cases hl : s.phase = .listen
  · rw [if_neg (not_not.2 hl)]
    by_cases hc : 2 * s.cfg.statusInterval ≤ s.listenCount + 1
    · rw [if_pos hc, if_pos ⟨hl, hc⟩, enterActive_phase]
    · rw [if_neg hc, if_neg (fun h => hc h.2), setListenCount_phase, hphase]
  · rw [if_pos hl, if_neg (fun h => hl h.1), hphase]

theorem takeBoundary_working (n : BitVec 8) (h : s.working = true) : (takeBoundary n s).working = true := by
  rw [State.working, takeBoundary_phase]
  split
  · rfl
  · exact h

/-- Settles O30: the frame is measured, and then the timer follows it. -/
theorem trackFollowsTheBeat : Obligations.TrackFollowsTheBeat := by
  intro s x n hx hsync
  obtain ⟨lock, run, panel, hm⟩ := measureBeat_eq n (heard x s)
  generalize hu : measureBeat n (heard x s) = u at hm
  have hnumber : u.beat.number = s.beat.number := by rw [hm]; rfl
  have hfollow : ∃ v, v = (if n = u.beat.number then u.setBeat { u.beat with position := 0 } else takeBoundary n u) := ⟨_, rfl⟩
  obtain ⟨v, hv⟩ := hfollow
  have hvbeat : v.beat = { u.beat with
      number := n, position := 0, stepIndex := if n = s.beat.number then s.beat.stepIndex else 0 } := by
    rw [hv, hnumber]
    split
    · next hn => rw [setBeat_beat, hn, ← hnumber, hm]; rfl
    · rw [takeBoundary_beat]
  have hvframe : v.mode = s.mode ∧ v.config = s.config ∧ v.zones = s.zones ∧ v.pins = s.pins ∧ v.working = true := by
    rw [hv]
    split
    · rw [hm]; exact ⟨rfl, rfl, rfl, rfl, hx.working⟩
    · obtain ⟨hmode, hconfig, -, -, hzones, hpins, -⟩ := takeBoundary_frame u n
      rw [hmode, hconfig, hzones, hpins, hm]
      exact ⟨rfl, rfl, rfl, rfl, takeBoundary_working n hx.working⟩
  obtain ⟨hmode, hconfig, hzones, hpins, hwork⟩ := hvframe
  have hrow : exec (.beatFrame x n) s = .next (afterAlignment (withdrawBeat (overtakeExpiry v))) := by
    rw [exec_beatFrame, receive_beat hx, takeBeatFrame, hu]
    rw [if_neg (fun h => h.elim hx.peer hsync), followBeat, ← hv]
  have hsync' : (withdrawBeat (overtakeExpiry v)).beat.sync = s.beat.sync := by
    show v.beat.sync = _
    rw [hvbeat, hm]
    rfl
  generalize ht : afterAlignment (withdrawBeat (overtakeExpiry v)) = t at hrow
  have hbeat : t.beat = { v.beat with
      overtaken := true, sync := if s.beat.sync = .once then .monitor else s.beat.sync } := by
    rw [← ht, afterAlignment, hsync']
    split
    · rfl
    · rw [← hsync']; rfl
  obtain ⟨hphase', hmode', hconfig', -, -, -, hline', -, -, -, hzones', -, hpins', -⟩ := afterAlignment_frame (withdrawBeat (overtakeExpiry v))
  rw [ht] at hphase' hmode' hconfig' hline' hzones' hpins'
  refine ⟨t, hrow, ?_, ?_, ?_, ?_, ?_, ?_, ?_, ?_, ?_, ?_, hzones'.trans hzones, hmode'.trans hmode, hconfig'.trans hconfig,
    hpins'.trans hpins, ?_, fun hn => ?_⟩
  · rw [hbeat, hvbeat]
  · rw [hbeat, hvbeat]
  · rw [hbeat, hvbeat]
  · rw [hbeat]
  · rw [hbeat, hvbeat, hm]; rfl
  · rw [hbeat, hvbeat, hm]; rfl
  · rw [hbeat, hvbeat, hm]; rfl
  · rw [hbeat, hvbeat, hm]; rfl
  · rw [hbeat, hvbeat, hm]; rfl
  · intro f hf
    rw [hline'] at hf
    simpa using (List.mem_filter.1 hf).2
  · have htw : t.working = true := by rw [State.working, hphase']; exact hwork
    rw [exec_beatExpiry, whileWorking, if_pos htw, beatDue, if_pos (by rw [hbeat])]
    rfl
  · have hv' : v = { u with beat := v.beat } := by
      rw [hv, if_pos (by rw [hn, hnumber])]
      rfl
    have ht' : t = { withdrawBeat (overtakeExpiry v) with beat := t.beat, panel := t.panel } := by
      rw [← ht, afterAlignment]
      split <;> rfl
    rw [hv', hm] at ht'
    exact ht'

end Sys2Proof.Machine
end

section
/-! PROOFS. The fades, the cues, the dimmer link and the master level (08 sections 8.1 to 8.4). -/

namespace Sys2Proof.Machine

variable {s : State}

/-! ## One channel (R134 to R136) -/

/-- R136: the code of a channel follows its level. -/
theorem recode_eq (s : State) (c : Channel) : c.recode (s.condition == .alarm) s.lights.master = c.atLevel s := rfl

theorem recode_carries (alarm : Bool) (master : Nat) (c : Channel) (k : Nat) : (c.recode alarm master).carries k ↔ c.carries k := Iff.rfl

/-- R135: a running fade is not at its end. -/
theorem finish_running {c : Channel} (h : c.running) : c.finish = c := by
  unfold Channel.finish
  split
  · next f hf => exact if_neg (by have := h f hf; omega)
  · rfl

/-- R134, R135: the fade step of a channel, with the end of its fade. -/
theorem step_finish {c : Channel} (h : channelOk c = true) : c.step.finish = c.advanced := by
  obtain ⟨hfits, hr⟩ := (channelOk_iff c).1 h
  unfold Channel.step Channel.advanced
  cases ha : c.active with
  | none => simp [Channel.finish, ha]
  | some f =>
    have he : c.enabled = true := by
      by_contra he
      have := (hfits.disabled (Bool.eq_false_iff.2 he)).2.2.2
      rw [ha] at this
      cases this
    have hrun := hr f ha
    dsimp only
    rw [if_pos he]
    unfold Channel.finish
    dsimp only
    split
    · next hend => rw [if_neg (by omega)]
    · next hend =>
      rw [if_pos (by omega), fadeLevel]
      push_cast
      rfl

/-- R127, R135: the cues that stay in the table are those with a fade left. -/
theorem mem_cues_alive {cs cs' : List Channel} {cues : List CueEntry} (h : ∀ k, (∃ c ∈ cs, c.carries k) ↔ ∃ c ∈ cs', c.carries k)
    (e : CueEntry) : e ∈ cues.filter (isAlive cs) ↔ e ∈ cues ∧ ∃ c ∈ cs', c.stagedKey = some e.key ∨ c.activeKey = some e.key := by
  rw [List.mem_filter, isAlive_iff, h]
  rfl

/-- R136: the codes computed afresh leave the fades. -/
theorem carries_map_recode (alarm : Bool) (master : Nat) (cs : List Channel) (k : Nat) :
    (∃ c ∈ cs, c.carries k) ↔ ∃ c ∈ cs.map (Channel.recode alarm master), c.carries k := by
  simp only [List.mem_map, exists_exists_and_eq_and, recode_carries]

/-! ## Fade steps and completions (O31) -/

/-- R127, R136: the lights after fades have ended and the codes follow. -/
theorem finished_cues (l : LightState) (alarm : Bool) (e : CueEntry) : e ∈ (l.finish.refresh alarm false).cues ↔ e ∈ l.cues
    ∧ ∃ c ∈ (l.finish.refresh alarm false).channels, c.stagedKey = some e.key ∨ c.activeKey = some e.key := by
  obtain ⟨hcues, -⟩ := refresh_others alarm false l.finish
  rw [hcues, refresh_channels]
  exact mem_cues_alive (carries_map_recode alarm l.master _) e

theorem finished_channels (l : LightState) (alarm : Bool) :
    (l.finish.refresh alarm false).channels = l.channels.map (fun c => c.finish.recode alarm l.master) := by
  rw [refresh_channels]
  exact List.map_map

/-- Settles O31: by the row, each running fade makes its step or comes to its end. -/
theorem fadesStepAndComplete : Obligations.FadesStepAndComplete := by
  refine ⟨fun s hw hlaw => ⟨fun hrun hidx => ?step, fun h => ?_⟩, fun s n c hw hc hr => ⟨fun ha => ?_, fun f ha => ?complete⟩⟩
  case step =>
    generalize hb : s.setBeat { s.beat with
      stepIndex := s.beat.stepIndex + 1
      position := max s.beat.position ((s.beat.stepIndex + 1) * (s.beat.period / 10))
      overtaken := false } = u
    have hrow : exec .fadeStep s = .next (lightStep u) := by
      rw [exec_fadeStep, whileWorking, if_pos hw, fadeStepDue]
      dsimp only
      rw [if_pos ⟨hrun, by omega⟩, hb]
    have hrelit : lightStep u = { u with lights := (lightStep u).lights, panel := (lightStep u).panel } :=
      relit_of_frame (lightStep_frame u)
    have hlights : (lightStep u).lights = s.lights.stepped.finish.refresh (s.condition == .alarm) false := by
      rw [← hb]
      simp [lightStep]
    obtain ⟨-, hmaster, -, hserial⟩ := refresh_others (s.condition == .alarm) false s.lights.stepped.finish
    refine ⟨_, hrow, ?_, ?_, ?_, fun e => ?_, by rw [hlights, hmaster]; rfl, by rw [hlights, hserial]; rfl⟩
    · generalize lightStep u = t at hrelit
      rw [hrelit, ← hb]
      rfl
    · rw [hrelit, ← hb]
      rfl
    · rw [hlights, finished_channels]
      show (s.lights.channels.map Channel.step).map _ = _
      rw [List.map_map]
      refine List.map_congr_left fun y hy => ?_
      rw [Function.comp_apply, step_finish (List.all_eq_true.1 hlaw.1 y hy)]
      rfl
    · rw [hlights]
      exact finished_cues s.lights.stepped _ e
  · rw [exec_fadeStep, whileWorking, if_pos hw, fadeStepDue]
    refine congrArg Host.Outcome.next (if_neg ?_)
    rintro ⟨hrun, hidx⟩
    rcases h with h | h
    · rw [h] at hrun; cases hrun
    · omega
  · rw [exec_fadeComplete, whileWorking, if_pos hw, completeFade_eq, hc]
    simp [Channel.activeKey, ha]
  case complete =>
    have hrow : exec (.fadeComplete n) s = .next (completeFade n s) := by rw [exec_fadeComplete, whileWorking, if_pos hw]
    have hlights : (completeFade n s).lights = (s.lights.ended f.cue).finish.refresh (s.condition == .alarm) false := by
      rw [completeFade_lights, hc]
      simp [Channel.activeKey, ha]
    obtain ⟨-, hmaster, -, hserial⟩ := refresh_others (s.condition == .alarm) false (s.lights.ended f.cue).finish
    refine ⟨_, hrow, relit_of_frame (completeFade_frame s n), ?_, fun e => ?_, by rw [hlights, hmaster]; rfl, by rw [hlights, hserial]; rfl⟩
    · rw [hlights, finished_channels]
      show (s.lights.channels.map (Channel.toEnd f.cue)).map _ = _
      rw [List.map_map]
      refine List.map_congr_left fun y hy => ?_
      rw [Function.comp_apply]
      show ((y.toEnd f.cue).finish).atLevel s = _
      refine congrArg (Channel.atLevel s) ?_
      unfold Channel.toEnd
      cases hy' : y.active with
      | none => simp [Channel.finish, hy']
      | some g =>
        dsimp only
        split
        · simp [Channel.finish]
        · exact finish_running (hr y hy)
    · rw [hlights]
      exact finished_cues (s.lights.ended f.cue) _ e

end Sys2Proof.Machine
end

section
/-! PROOFS. CUE frames (08 section 8.2), the dimmer link and the master level (08 section 8.4). -/

namespace Sys2Proof.Machine

variable {s : State}

/-! ## A cue on one channel (R130, R132, R135) -/

/-- R132, R135: a cue begun at once on a channel, with the end of a fade without duration. -/
theorem beginOn_finish {c : Channel} (hr : c.running) (q : PreparedCue) (key : Nat) : (q.beginOn key c).finish =
    if q.appliesTo c then
      (if q.steps = 0 then { c with level := q.level, staged := none, active := none }
       else { c with
        staged := none
        active := some { cue := key, start := c.level, target := q.level, duration := q.steps, elapsed := 0 } })
    else c := by
  unfold PreparedCue.beginOn
  split
  · unfold Channel.finish
    dsimp only
    by_cases hd : q.steps = 0
    · rw [if_pos (by omega), if_pos hd]
    · rw [if_neg (by omega), if_neg hd]
  · exact finish_running hr

/-- R75, R130: the two start judgements that report, and whether a start waits. -/
theorem judgeStart_waits (b : BeatState) (start : Start) : (judgeStart b start).wait = match start with
    | .now => none
    | .nextBoundary => some .next
    | .atBeat n => match b.lock with
      | .seeking => some .next
      | .locked => if 1 ≤ (n - b.number).toNat ∧ (n - b.number).toNat ≤ 127 then some (.beat n) else none := by
  unfold judgeStart beatsAhead
  cases start with
  | now => rfl
  | nextBoundary => rfl
  | atBeat n =>
    cases b.lock with
    | seeking => rfl
    | locked =>
      dsimp only
      split <;> rfl

/-- R130: a start that waits is staged; any other begins. -/
theorem takeCue_begins {q : PreparedCue} {o : StartOutcome} (h : s.lights.channels.any q.appliesTo = true) (ho : o.wait = none) :
    (takeCue q o s).lights = (s.lights.begun q).finish.refresh (s.condition == .alarm) false := by
  rw [takeCue_lights, h, if_neg (by decide), ho]

theorem takeCue_stages {q : PreparedCue} {o : StartOutcome} {w : Wait} (h : s.lights.channels.any q.appliesTo = true)
    (ho : o.wait = some w) : (takeCue q o s).lights = s.lights.staging q w := by
  rw [takeCue_lights, h, if_neg (by decide), ho]

/-- R130: the report of a late start, and of one without alignment, is the first that a cue makes. -/
theorem takeCue_reports {q : PreparedCue} {o : StartOutcome} {r : Report} (h : s.lights.channels.any q.appliesTo = true)
    (ho : (∃ n, o = .late n ∧ r = .cueLate s.lights.nextSerial q.origin n s.beat.number)
      ∨ (∃ n, o = .unaligned n ∧ r = .unaligned (.cue s.lights.nextSerial q.origin) n s.beat.number)) :
    FirstReport s r (takeCue q o s) := by
  have hgrows {u : State} (hu : PanelGrows (report r s).panel u.panel) : FirstReport s r u := FirstReport.of_grows hu
  unfold takeCue
  rw [h, if_neg (by decide)]
  dsimp only
  rcases ho with ⟨n, rfl, rfl⟩ | ⟨n, rfl, rfl⟩
  · refine hgrows (finishFades_grows _ _ (enterCue_grows _ _ _ _ _ _ ?_))
    exact PanelGrows.refl _
  · refine hgrows (enterCue_grows _ _ _ _ _ _ ?_)
    exact PanelGrows.refl _

/-- Settles O43: by the start judgement, the cue begins at once or waits. -/
theorem cueFrameStartsOrStages : Obligations.CueFrameStartsOrStages := by
  intro s x b level duration start hx hb hr applies target steps ahead atOnce
  generalize hq : prepareCue .line (.station x) b level duration start = q
  have happlies : q.appliesTo = applies := by rw [← hq]; rfl
  have hsteps : q.steps = steps := by rw [← hq]; show 10 * clampTo 0 240 duration = _; rw [clampTo_zero]
  have hlevel : q.level = target := by rw [← hq]; show clampTo 0 1000 level = _; rw [clampTo_zero]
  have hrow : exec (.cueFrame x b level duration start) s = .next (takeCue q (judgeStart s.beat start) (heard x s)) := by
    have hform : Frame.formOk ⟨x, .cue b level duration start⟩ = true := by
      simp [Frame.formOk, Payload.formOk, hx.station.1, hx.station.2, hb]
    rw [exec_cueFrame, receive_heard s x _ hx hform, ← hq]
    rfl
  refine ⟨fun hnone => ?_, fun hsome => ?_⟩
  · have hany : (heard x s).lights.channels.any q.appliesTo = false := by
      rw [happlies, List.any_eq_false]
      exact fun c hc h => Bool.false_ne_true ((hnone c hc).symm.trans h)
    rw [hrow, takeCue, hany]
    rfl
  have hany : (heard x s).lights.channels.any q.appliesTo = true := by
    rw [happlies]
    exact List.any_eq_true.2 hsome
  have hwaits := judgeStart_waits s.beat start
  have honce (h : atOnce) : (judgeStart s.beat start).wait = none := by
    rw [hwaits]
    rcases h with rfl | ⟨n, rfl, hlock, hn⟩
    · rfl
    · dsimp only
      rw [hlock]
      exact if_neg (by dsimp only [ahead] at hn; omega)
  have hlater (h : ¬atOnce) : ∃ w, (judgeStart s.beat start).wait = some w := by
    rw [hwaits]
    cases start with
    | now => exact absurd (.inl rfl) h
    | nextBoundary => exact ⟨_, rfl⟩
    | atBeat n =>
      cases hlock : s.beat.lock with
      | seeking => exact ⟨_, rfl⟩
      | locked =>
        have hn : ¬((n - s.beat.number).toNat = 0 ∨ 128 ≤ (n - s.beat.number).toNat) :=
          fun hn => h (.inr ⟨n, rfl, hlock, hn⟩)
        exact ⟨.beat n, if_pos (by omega)⟩
  have hentry : q.entry s.lights.nextKey s.lights.nextSerial = {
      key := s.lights.nextKey, serial := s.lights.nextSerial, source := .line
      origin := .station x, block := b.aligned, level := target, duration := min 240 duration, start := start } := by
    rw [PreparedCue.entry, hlevel, ← hq, show (prepareCue .line (.station x) b level duration start).duration
      = min 240 duration from clampTo_zero _ _]
    rfl
  obtain ⟨hcues, hmaster, -, hserial⟩ := refresh_others (s.condition == .alarm) false (s.lights.begun q).finish
  have hbegun (h : (judgeStart s.beat start).wait = none) : (takeCue q (judgeStart s.beat start) (heard x s)).lights
      = (s.lights.begun q).finish.refresh (s.condition == .alarm) false := takeCue_begins hany h
  have hstaged {w : Wait} (h : (judgeStart s.beat start).wait = some w) :
      (takeCue q (judgeStart s.beat start) (heard x s)).lights = s.lights.staging q w := takeCue_stages hany h
  have hkeeps : (takeCue q (judgeStart s.beat start) (heard x s)).lights.nextSerial = s.lights.nextSerial + 1
      ∧ (takeCue q (judgeStart s.beat start) (heard x s)).lights.master = s.lights.master := by
    cases hw : (judgeStart s.beat start).wait with
    | none => rw [hbegun hw, hserial, hmaster]; exact ⟨rfl, rfl⟩
    | some w => rw [hstaged hw]; exact ⟨rfl, rfl⟩
  refine ⟨_, hrow, relit_of_frame (takeCue_frame (heard x s) q (judgeStart s.beat start)), hkeeps.1, hkeeps.2, fun h => ?begins,
    fun w h => ?stages, fun h => ?entered, fun n hn hlock hd => ?late, fun n hn hlock => ?unaligned⟩
  case begins =>
    rw [hbegun (honce h), finished_channels]
    show (s.lights.channels.map (q.beginOn s.lights.nextKey)).map _ = _
    rw [List.map_map]
    refine List.map_congr_left fun c hc => ?_
    rw [Function.comp_apply, beginOn_finish (hr c hc), happlies, hsteps, hlevel]
    rfl
  case stages =>
    have hw : (judgeStart s.beat start).wait = some w := by
      rw [hwaits]
      rcases h with ⟨rfl, rfl⟩ | ⟨n, rfl, ⟨hlock, rfl⟩ | ⟨hlock, h1, h127, rfl⟩⟩
      · rfl
      · dsimp only
        rw [hlock]
      · dsimp only
        rw [hlock]
        exact if_pos ⟨h1, h127⟩
    rw [hstaged hw]
    show s.lights.channels.map (q.stageOn s.lights.nextKey w) = _
    refine List.map_congr_left fun c _ => ?_
    rw [PreparedCue.stageOn, happlies, hsteps, hlevel]
  case entered =>
    rw [← hentry]
    cases hw : (judgeStart s.beat start).wait with
    | some w =>
      rw [hstaged hw]
      exact List.mem_append_right _ (List.mem_singleton.2 rfl)
    | none =>
      have hpos : 0 < steps := by
        refine h.resolve_left fun hnot => ?_
        obtain ⟨w, hw'⟩ := hlater hnot
        rw [hw] at hw'
        cases hw'
      rw [hbegun hw, hcues]
      refine List.mem_filter.2 ⟨List.mem_append_right _ (List.mem_singleton.2 rfl), ?_⟩
      rw [isAlive_iff]
      obtain ⟨c, hc, hca⟩ := hsome
      refine ⟨(q.beginOn s.lights.nextKey c).finish, ?_, .inr ?_⟩
      · show _ ∈ (s.lights.channels.map (q.beginOn s.lights.nextKey)).map Channel.finish
        exact List.mem_map_of_mem (List.mem_map_of_mem hc)
      · rw [beginOn_finish (hr c hc), happlies, hca, if_pos rfl, hsteps, if_neg (by omega)]
        rfl
  case late =>
    refine takeCue_reports (s := heard x s) hany (.inl ⟨n, ?_, by rw [← hq]; rfl⟩)
    rw [hn, judgeStart, hlock]
    refine if_neg ?_
    simp only [ahead, hn] at hd
    unfold beatsAhead
    omega
  case unaligned =>
    refine takeCue_reports (s := heard x s) hany (.inr ⟨n, ?_, by rw [← hq]; rfl⟩)
    rw [hn, judgeStart, hlock]

/-! ## The dimmer link and the master level (O44) -/

/-- R137: the bits of a code, most significant first. -/
theorem codeBits_getElem? (code : Nat) {i : Nat} (hi : i ≤ 7) : (codeBits code)[i]? = some (code.testBit (7 - i)) := by
  rw [codeBits, List.getElem?_map, List.getElem?_range (by omega)]
  rfl

/-- R137: the bits of the codes one after another. -/
theorem flatMap_codeBits (codes : List Nat) : (codes.flatMap codeBits).length = 8 * codes.length
    ∧ ∀ n i code : Nat, codes[n]? = some code → i ≤ 7 → (codes.flatMap codeBits)[8 * n + i]? = some (code.testBit (7 - i)) := by
  have hlen (code : Nat) : (codeBits code).length = 8 := by simp [codeBits]
  induction codes with
  | nil => exact ⟨rfl, fun n i code h => by simp at h⟩
  | cons c codes ih =>
    obtain ⟨hlen', hbits⟩ := ih
    rw [List.flatMap_cons]
    refine ⟨by rw [List.length_append, hlen, hlen', List.length_cons]; omega, fun n i code hn hi => ?_⟩
    cases n with
    | zero =>
      obtain rfl : c = code := by simpa using hn
      rw [List.getElem?_append_left (by rw [hlen]; omega), show 8 * 0 + i = i by omega]
      exact codeBits_getElem? c hi
    | succ n =>
      rw [List.getElem?_append_right (by rw [hlen]; omega), hlen, show 8 * (n + 1) + i - 8 = 8 * n + i by omega]
      exact hbits n i code (by simpa using hn) hi

/-- R137: the transfer that a recomputation of the codes requests. -/
theorem refresh_transfer (alarm : Bool) (l : LightState) :
    ((l.refresh alarm false).codes = l.codes →
        (l.refresh alarm false).sending = l.sending ∧ (l.refresh alarm false).pendingTransfer = l.pendingTransfer)
      ∧ ((l.refresh alarm false).codes ≠ l.codes →
        if l.sending = none then (l.refresh alarm false).sending = some (l.refresh alarm false).codes
            ∧ (l.refresh alarm false).pendingTransfer = l.pendingTransfer
        else (l.refresh alarm false).sending = l.sending ∧ (l.refresh alarm false).pendingTransfer = true) := by
  have hcodes : (l.refresh alarm false).codes = ({ l with channels := l.channels.map (Channel.recode alarm l.master) } : LightState).codes := by
    rw [LightState.codes, refresh_channels]
    rfl
  rw [hcodes]
  generalize hl : ({ l with channels := l.channels.map (Channel.recode alarm l.master) } : LightState) = l'
  have hrefresh : l.refresh alarm false = if l'.codes ≠ l.codes then l'.requestTransfer else l' := by
    rw [LightState.refresh, hl]
    simp
  have hsending : l'.sending = l.sending ∧ l'.pendingTransfer = l.pendingTransfer := by rw [← hl]; exact ⟨rfl, rfl⟩
  obtain ⟨hs, hp⟩ := hsending
  refine ⟨fun h => ?_, fun h => ?_⟩
  · rw [hrefresh, if_neg (not_not.2 h)]
    exact ⟨hs, hp⟩
  · rw [hrefresh, if_pos h, LightState.requestTransfer, ← hs, ← hp]
    cases l'.sending with
    | none => exact ⟨rfl, rfl⟩
    | some codes => exact ⟨rfl, rfl⟩

theorem endTransfer_idle {l : LightState} (h : l.sending = none) : endTransfer l = l := by rw [endTransfer, h]

/-- Settles O44: the link sends what stands, and the master level changes it. -/
theorem dimmerTransferAndMaster : Obligations.DimmerTransferAndMaster := by
  intro s tag value codes
  have hend (hheld : s.resetHeld = false) : exec .dimmerTransferEnd s = .next (s.setLights (endTransfer s.lights)) :=
    congrArg Host.Outcome.next (if_neg (by simp [hheld]))
  refine ⟨fun sent hs => ?_, fun hheld hs => ?_, fun sent hheld hs hp => ?_, fun sent hheld hs hp => ?_, fun hfree hw => ?_⟩
  · obtain ⟨hlen, hbits⟩ := flatMap_codeBits sent
    exact ⟨_, by rw [LightState.ldata, hs]; rfl, hlen, hbits⟩
  · rw [hend hheld, endTransfer_idle hs]
    rfl
  · rw [hend hheld, endTransfer, hs]
    exact congrArg (fun l => Host.Outcome.next (s.setLights l)) (if_neg (by simp [hp]))
  · rw [hend hheld, endTransfer, hs]
    exact congrArg (fun l => Host.Outcome.next (s.setLights l)) (if_pos hp)
  · have hsame := recordSent_eq s
    generalize hu : recordSent s = u at hsame
    have hrow : exec (.setMaster tag value) s = .next (place (.taken .setMaster tag) (setMasterLevel value u)) := by
      refine exec_request (exec_setMaster s tag value) hfree ?_
      have hphase : u.phase = s.phase := by rw [hsame]
      rw [hu, setMasterRequest, hphase]
      revert hw
      rw [State.working]
      cases s.phase <;> intro hw
      · cases hw
      · cases hw
      · rfl
      · rfl
    generalize hl : ({ s.lights with master := min 1000 value } : LightState) = l
    have hmaster : setMasterLevel value u = u.setLights (l.refresh (s.condition == .alarm) false) := by
      have hlights : u.lights = s.lights := by rw [hsame]
      have hcond : u.condition = s.condition := by rw [hsame]
      rw [setMasterLevel, clampTo_zero, refreshLights, setLights_lights, setLights_condition, hlights, hcond, hl]
      rfl
    obtain ⟨hcues, hmasters, -, hserial⟩ := refresh_others (s.condition == .alarm) false l
    obtain ⟨hsame', hother⟩ := refresh_transfer (s.condition == .alarm) l
    have hlcodes : l.codes = codes := by rw [← hl]; rfl
    rw [hlcodes] at hsame' hother
    have hlsend : l.sending = s.lights.sending ∧ l.pendingTransfer = s.lights.pendingTransfer := by rw [← hl]; exact ⟨rfl, rfl⟩
    rw [hlsend.1, hlsend.2] at hsame' hother
    rw [hmaster] at hrow
    refine ⟨_, hrow, rfl, ?_, ?_, ?_, ?_, hsame', hother⟩
    · show (l.refresh _ false).master = _
      rw [hmasters, ← hl]
    · show (l.refresh _ false).channels = _
      rw [refresh_channels, ← hl]
      rfl
    · show (l.refresh _ false).cues = _
      rw [hcues, ← hl]
    · show (l.refresh _ false).nextSerial = _
      rw [hserial, ← hl]

end Sys2Proof.Machine
end

section
/-! PROOFS. The Call Unit: its queue, the taking of a CALL frame, and the cadence (09 sections 9.1 to 9.3). -/

namespace Sys2Proof.Machine

variable {s : State} {e v : CallEntry} {q : List CallEntry} {k : CallKey}

/-! ## The queue (R147, R151) -/

theorem callOrder_pairwise : callOrder q = true ↔ q.Pairwise (fun x y => y.key.cls.code ≤ x.key.cls.code) := by
  induction q with
  | nil => simp [callOrder]
  | cons e q ih => simp [callOrder, ih]

/-- R147: a new entry joins by its class. -/
theorem joinCalls_joined (e : CallEntry) (h : q.Pairwise (fun x y => y.key.cls.code ≤ x.key.cls.code)) :
    JoinedByRank e q (joinCalls e q) := by
  induction h with
  | nil => exact ⟨[], [], rfl, rfl, by simp, by simp⟩
  | @cons x q hx _ ih =>
    unfold joinCalls
    split
    · next hle =>
      obtain ⟨before, after, hold, hnew, hbefore, hafter⟩ := ih
      exact ⟨x :: before, after, by rw [hold]; rfl, by rw [hnew]; rfl, List.forall_mem_cons.2 ⟨hle, hbefore⟩, hafter⟩
    · next hgt =>
      refine ⟨[], x :: q, rfl, rfl, by simp, List.forall_mem_cons.2 ⟨by omega, fun y hy => ?_⟩⟩
      have := hx y hy
      omega

theorem code_le (c : CallClass) : c.code ≤ 4 := by cases c <;> decide

/-- R151: the lowest class among those not playing. -/
theorem lowestWaiting_eq (hv : v ∈ q) (hplay : v.playing = false)
    (hmin : ∀ e ∈ q, e.playing = true ∨ v.key.cls.code ≤ e.key.cls.code) : lowestWaiting q = v.key.cls.code := by
  unfold lowestWaiting
  have hlow : ∀ (cs : List Nat) (c : Nat), c ≤ 4 → (∀ x ∈ cs, c ≤ x) → c ≤ cs.foldr min 4 := by
    intro cs c hc hall
    induction cs with
    | nil => exact hc
    | cons x cs ih => exact Nat.le_min.2 ⟨hall x (by simp), ih fun y hy => hall y (by simp [hy])⟩
  have hup : ∀ (cs : List Nat) (c : Nat), c ∈ cs → cs.foldr min 4 ≤ c := by
    intro cs c hc
    induction cs with
    | nil => cases hc
    | cons x cs ih =>
      rcases List.mem_cons.1 hc with rfl | hc
      · exact Nat.min_le_left _ _
      · exact (Nat.min_le_right _ _).trans (ih hc)
  refine le_antisymm (hup _ _ ?_) (hlow _ _ (code_le _) fun x hx => ?_)
  · exact List.mem_map.2 ⟨v, List.mem_filter.2 ⟨hv, by simp [hplay]⟩, rfl⟩
  · obtain ⟨e, he, rfl⟩ := List.mem_map.1 hx
    obtain ⟨hmem, hnot⟩ := List.mem_filter.1 he
    exact (hmin e hmem).resolve_left (by simpa using hnot)

/-- R151: the entry that is evicted, the youngest of the lowest class. -/
theorem evictionVictim_eq {older younger : List CallEntry} (hq : q = older ++ v :: younger) (hplay : v.playing = false)
    (holder : ∀ e ∈ older, e.playing = true ∨ v.key.cls.code ≤ e.key.cls.code)
    (hyounger : ∀ e ∈ younger, e.playing = true ∨ v.key.cls.code < e.key.cls.code) : evictionVictim q = some v := by
  have hlow : lowestWaiting q = v.key.cls.code := by
    refine lowestWaiting_eq (by simp [hq]) hplay fun e he => ?_
    rw [hq, List.mem_append, List.mem_cons] at he
    rcases he with he | rfl | he
    · exact holder e he
    · exact .inr le_rfl
    · exact (hyounger e he).imp_right Nat.le_of_lt
  rw [evictionVictim, hlow, hq, List.filter_append, List.filter_cons_of_pos (by simp [hplay]), List.reverse_append,
    List.reverse_cons, List.find?_append, List.find?_append, List.find?_eq_none.2]
  · simp
  · intro e he
    obtain ⟨hmem, hnot⟩ := List.mem_filter.1 (List.mem_reverse.1 he)
    have := (hyounger e hmem).resolve_left (by simpa using hnot)
    simpa using Nat.ne_of_gt this

/-- R151: without an entry of a lower class that is not playing there is none to evict. -/
theorem evictionVictim_above {c : Nat} (h : ∀ e ∈ q, e.playing = true ∨ c ≤ e.key.cls.code) (hv : evictionVictim q = some v) :
    c ≤ v.key.cls.code := by
  have hmem := List.mem_of_find?_eq_some hv
  obtain ⟨hq, hplay⟩ := List.mem_filter.1 (List.mem_reverse.1 hmem)
  exact (h v hq).resolve_left (by simpa using hplay)

/-! ## CALL frames (O45) -/

/-- R152: while an entry is playing no choice is made. -/
theorem choose_playing (h : s.calls.cadence = .playing) : choose false s = s := by
  rw [choose, h]
  rfl

theorem receive_call {x pattern repeats : Nat} {b : AreaBlock} {cls : CallClass} {start : Start} {linked : Option LinkedCue}
    (hx : HearsPeer x s) (hb : b.named = true) (hp : pattern ≤ 7) (hc : cls ≠ .safety) :
    receive ⟨x, .call b pattern cls repeats start linked⟩ s
      = takeCallFrame (frameCall x b pattern cls repeats start linked) (heard x s) := by
  refine receive_heard s x _ hx ?_
  simp [Frame.formOk, Payload.formOk, hx.station.1, hx.station.2, hb, hp, hc]

/-- R150, R151: an entry that no other equals, in a queue with room. -/
theorem enqueueCall_joins (hnone : findCall e.key s.calls.queue = none) (hl : s.calls.queue.length < 16) :
    enqueueCall e s = choose false (setQueue (joinCalls e s.calls.queue) s) := by
  rw [enqueueCall, hnone]
  exact if_pos hl

/-- R151: a full queue without an entry to evict drops the call. -/
theorem enqueueCall_full (hnone : findCall e.key s.calls.queue = none) (hl : 16 ≤ s.calls.queue.length)
    (hv : ∀ v, evictionVictim s.calls.queue = some v → e.key.cls.code ≤ v.key.cls.code) :
    enqueueCall e s = report (.callDropped e.key e.origin .full) s := by
  rw [enqueueCall, hnone]
  dsimp only
  rw [if_neg (by omega)]
  split
  · next v hvic => exact if_neg (by have := hv v hvic; omega)
  · rfl

/-- R151: the youngest entry of the lowest class gives its place. -/
theorem enqueueCall_evicts (hnone : findCall e.key s.calls.queue = none) (hl : 16 ≤ s.calls.queue.length)
    (hv : evictionVictim s.calls.queue = some v) (hlow : v.key.cls.code < e.key.cls.code) (hch : s.calls.chosen ≠ some v.key)
    (hplay : s.calls.cadence = .playing) : enqueueCall e s = report (.callDropped v.key v.origin .evicted)
      (setQueue (joinCalls e (dropCall v.key s.calls.queue)) s) := by
  have hremove : removeCall v.key s = setQueue (dropCall v.key s.calls.queue) s := if_neg hch
  rw [enqueueCall, hnone]
  dsimp only
  rw [if_neg (by omega), hv]
  dsimp only
  rw [if_pos hlow, hremove, choose_playing (by exact hplay)]
  rfl

/-! ### R148: a CALL frame is disregarded, ignored, or accepted -/

theorem takeCallFrame_unserved (h : e.key.block.intersects s.cfg.served = false) : takeCallFrame e s = s := by
  rw [takeCallFrame, h]
  rfl

theorem takeCallFrame_alarm (h : e.key.block.intersects s.cfg.served = true) (hal : s.condition = .alarm) :
    takeCallFrame e s = report (.callIgnored e.key e.origin .condition) s := by
  rw [takeCallFrame, h, if_neg (by decide), if_pos hal]

theorem takeCallFrame_standby (h : e.key.block.intersects s.cfg.served = true) (hal : s.condition ≠ .alarm) (hm : s.mode = .standby) :
    takeCallFrame e s = report (.callIgnored e.key e.origin .mode) s := by
  rw [takeCallFrame, h, if_neg (by decide), if_neg hal, if_pos hm]

theorem takeCallFrame_accepted (h : e.key.block.intersects s.cfg.served = true) (hal : s.condition ≠ .alarm) (hm : s.mode ≠ .standby) :
    takeCallFrame e s = enqueueCall e s := by
  rw [takeCallFrame, h, if_neg (by decide), if_neg hal, if_neg hm]

/-- R154: the first start of an entry without a linked cue. -/
theorem startEntry_unlinked (hs : e.started = false) (hl : e.linked = none) :
    startEntry e s = report (.callStarted e.key e.origin e.repeats) (s.setCalls { s.calls with
      queue := s.calls.queue.map (fun x => if x.key = e.key then { x with started := true, playing := true } else x)
      cadence := .playing, chosen := some e.key, wait := none, position := some { cycle := 0, phase := .on, time := 0 } }) := by
  rw [startEntry, hs, hl]
  rfl

/-- Settles O45: by the first check of R148 that bars the call, and then by the queue it finds. -/
theorem callFrameIsJudgedInOrder : Obligations.CallFrameIsJudgedInOrder := by
  intro s x b pattern cls repeats start linked hx hb hp hc key count entry command accepted equals
  have hentry : frameCall x b pattern cls repeats start linked = entry := by
    show CallEntry.mk _ _ _ _ _ _ _ = CallEntry.mk _ _ _ _ _ _ _
    simp only [clampTo_zero]
    rfl
  have hrow : exec command s = .next (takeCallFrame entry (heard x s)) := by
    rw [exec_callFrame, receive_call hx hb hp hc, hentry]
  have htaken (h : accepted) : exec command s = .next (enqueueCall entry (heard x s)) := by
    obtain ⟨hserved, hcond, hmode⟩ := h
    exact hrow.trans (congrArg Host.Outcome.next (takeCallFrame_accepted (s := heard x s) hserved hcond hmode))
  have hmerge (h : accepted) (y : CallEntry) (hy : findCall key (heard x s).calls.queue = some y) :
      exec command s = .next (choose false (report (.callMerged key (.station x) (min 16 (y.repeats + count)))
        (setQueue ((heard x s).calls.queue.map (fun e => if e.key = key then { e with repeats := min 16 (y.repeats + count) } else e))
          (heard x s)))) := by
    rw [htaken h, enqueueCall, show entry.key = key from rfl, hy]
  have hjoin (h : accepted) (hnone : s.calls.queue.find? equals = none) (hl : s.calls.queue.length < 16) :
      exec command s = .next (choose false (setQueue (joinCalls entry s.calls.queue) (heard x s))) :=
    (htaken h).trans (congrArg Host.Outcome.next (enqueueCall_joins (s := heard x s) hnone hl))
  refine ⟨fun h => ?_, fun h hal => ?_, fun h hal hm => ?_, fun y h hplay hy => ?_, fun h hplay hnone hl ho => ?_,
    fun h hnone hl hall => ?_, fun older v younger h hplay hnone hq hl ho hv hch hlow holder hyounger => ?_,
    fun h hidle hempty hpause hnow hlink => ?_⟩
  · exact hrow.trans (congrArg Host.Outcome.next (takeCallFrame_unserved (s := heard x s) h))
  · exact hrow.trans (congrArg Host.Outcome.next (takeCallFrame_alarm (s := heard x s) h hal))
  · exact hrow.trans (congrArg Host.Outcome.next (takeCallFrame_standby (s := heard x s) h hal hm))
  · rw [hmerge h y hy, choose_playing (by exact hplay)]
    simp only [equals, beq_iff_eq]
    rfl
  · exact ⟨_, joinCalls_joined entry (callOrder_pairwise.1 ho), by rw [hjoin h hnone hl, choose_playing (by exact hplay)]; rfl⟩
  · rw [htaken h]
    exact congrArg Host.Outcome.next (enqueueCall_full (s := heard x s) (e := entry) hnone hl fun v hv => evictionVictim_above hall hv)
  · have hvictim : evictionVictim s.calls.queue = some v :=
      evictionVictim_eq hq hv (fun e he => (holder e he).2) (fun e he => (hyounger e he).2)
    have hdrop : dropCall v.key s.calls.queue = older ++ younger := by
      rw [dropCall, hq, List.filter_append, List.filter_cons_of_neg (by simp),
        List.filter_eq_self.2 (fun e he => bne_iff_ne.2 (holder e he).1), List.filter_eq_self.2 (fun e he => bne_iff_ne.2 (hyounger e he).1)]
    have horder : (older ++ younger).Pairwise (fun x y => y.key.cls.code ≤ x.key.cls.code) := by
      have hall := callOrder_pairwise.1 ho
      rw [hq] at hall
      exact hall.sublist (List.Sublist.append_left (List.sublist_cons_self v younger) older)
    refine ⟨_, joinCalls_joined entry horder, ?_⟩
    rw [htaken h, ← hdrop]
    refine congrArg Host.Outcome.next ?_
    exact enqueueCall_evicts (s := heard x s) (e := entry) hnone hl hvictim hlow hch hplay
  · have hstarts : choose false (setQueue [entry] (heard x s)) = startEntry entry (setQueue [entry] (heard x s)) := by
      rw [choose, if_pos (.inl (by exact hidle))]
      have hfind : (setQueue [entry] (heard x s)).calls.queue.find? (mayPlay (setQueue [entry] (heard x s)).calls.pause) = some entry :=
        List.find?_cons_of_pos (by
          show mayPlay s.calls.pause entry = true
          rw [hpause]
          rfl)
      rw [hfind]
      dsimp only
      rw [if_neg (by
        rintro ⟨hw, -⟩
        rw [show (setQueue [entry] (heard x s)).calls.cadence = .idle from hidle] at hw
        cases hw), judgeChosen, if_neg Bool.false_ne_true, show entry.start = .now from hnow]
    rw [hjoin h (by rw [hempty]; rfl) (by rw [hempty]; decide), hempty, show joinCalls entry [] = [entry] from rfl, hstarts,
      startEntry_unlinked (s := setQueue [entry] (heard x s)) rfl (by rw [show entry.linked = linked.map _ from rfl, hlink]; rfl)]
    have hqueue : [entry].map (fun x => if x.key = entry.key then { x with started := true, playing := true } else x)
        = [{ entry with started := true, playing := true }] := by
      rw [List.map_cons, List.map_nil, if_pos rfl]
    rw [show (setQueue [entry] (heard x s)).calls.queue = [entry] from rfl, hqueue]
    rfl

/-! ## The cadence (O46) -/

/-- R154: the entry that has ended a repetition, among those of the queue. -/
theorem findCall_endPlaying (he : findCall k s.calls.queue = some e) :
    findCall k (endPlaying k s).calls.queue = some { e with repeats := e.repeats - 1, playing := false } := by
  have hkey : e.key = k := by simpa using List.find?_some he
  show List.find? _ (s.calls.queue.map _) = _
  rw [List.find?_map]
  have hsame : (fun x : CallEntry => x.key == k) ∘ (fun x => if x.key = k then { x with repeats := x.repeats - 1, playing := false } else x)
      = fun x => x.key == k := by
    funext x
    rw [Function.comp_apply]
    split <;> rfl
  rw [hsame, show s.calls.queue.find? (fun x => x.key == k) = some e from he, Option.map_some, if_pos hkey]

/-- R154: the entries that stay when the one that has ended leaves. -/
theorem dropCall_endPlaying (k : CallKey) (s : State) :
    dropCall k (endPlaying k s).calls.queue = s.calls.queue.filter (fun y => y.key != k) := by
  show List.filter _ (s.calls.queue.map _) = _
  induction s.calls.queue with
  | nil => rfl
  | cons x q ih =>
    rw [List.map_cons]
    by_cases hx : x.key = k
    · rw [if_pos hx, List.filter_cons_of_neg (by simp [hx]), List.filter_cons_of_neg (by simp [hx]), ih]
    · rw [if_neg hx, List.filter_cons_of_pos (by simp [hx]), List.filter_cons_of_pos (by simp [hx]), ih]

/-- Settles O46: each row by the phase or the repeats it finds. -/
theorem cadenceRunsItsPattern : Obligations.CadenceRunsItsPattern := by
  intro s k x e hw p moved
  have hphase (hplay : s.calls.cadence = .playing) (hch : s.calls.chosen = some k) (hpos : s.calls.position = some x) {y : RepPosition}
      (hy : nextPhase p x = some y) : moved y := by
    show exec .cadencePhase s = _
    rw [exec_cadencePhase, whileWorking, if_pos hw, cadencePhase, hplay, hch, hpos]
    dsimp only
    rw [hy]
    rfl
  have hevac : exec .evacuationPhase s = .next (evacuationPhase s) := by rw [exec_evacuationPhase, whileWorking, if_pos hw]
  refine ⟨fun hplay hch hpos => ⟨fun hon => ?_, fun hoff hmore => ?_, fun hoff hlast hgap => ?_⟩, fun y hy => ?_, fun hnone => ?_,
    fun hplay hch he hsafe => ?repetition, fun hnot => ⟨?_, ?_⟩⟩
  · exact hphase hplay hch hpos (by rw [nextPhase, phaseEnd, hon])
  · refine hphase hplay hch hpos ?_
    rw [nextPhase, phaseEnd, hoff]
    exact if_pos hmore
  · refine hphase hplay hch hpos ?_
    rw [nextPhase, phaseEnd, hoff]
    dsimp only
    rw [if_neg (by omega), if_pos hgap]
  · rw [hevac, evacuationPhase, hy]
    rfl
  · rw [hevac, evacuationPhase, hnone]
  case repetition =>
    intro rested
    have hrow : exec .repetitionEnd s = .next (restAfter k (endPlaying k s)) := by
      rw [exec_repetitionEnd, whileWorking, if_pos hw, endRepetition, hplay, hch]
      dsimp only
      rw [if_neg hsafe]
    have hkey : e.key = k := by simpa using List.find?_some he
    have hfound : findCall k (endPlaying k s).calls.queue = some { e with repeats := e.repeats - 1, playing := false } :=
      findCall_endPlaying he
    refine ⟨fun hmore => ?_, fun hlast => ?_⟩
    · rw [hrow, restAfter, hfound]
      dsimp only
      rw [if_neg (by omega)]
      rfl
    · have hdrop : dropCall k (endPlaying k s).calls.queue = s.calls.queue.filter (fun y => y.key != k) := by
        exact dropCall_endPlaying k s
      rw [hrow, restAfter, hfound]
      dsimp only
      rw [if_pos (by omega), hdrop, hkey]
      rfl
  · rw [exec_repetitionEnd, whileWorking, if_pos hw, endRepetition]
    split
    · next h _ => exact absurd h hnot
    · rfl
  · rw [exec_cadencePhase, whileWorking, if_pos hw, cadencePhase]
    split
    · next h _ _ => exact absurd h hnot
    · rfl

end Sys2Proof.Machine
end

section
/-! PROOFS. An ALARM takes the house (03 section 3.4, 06 section 6.7, 08 section 8.5, 09 section 9.4). -/

namespace Sys2Proof.Machine

variable {s t u : State} {n : Nat}

/-! ## What an ALARM takes (R58, R59) -/

/-- A zone of the concern block is in ALARM, in the configuration of s. -/
def Sounding (s : State) (n : Nat) (u : State) : Prop :=
  u.config = s.config ∧ ∃ z, u.zones[n]? = some z ∧ z.state = .alarm ∧ s.concerns z.area = true

theorem Sounding.computed (h : Sounding s n u) : u.computedCondition = .alarm := by
  obtain ⟨hconfig, z, hz, hst, hc⟩ := h
  rw [computedCondition_alarm, List.mem_append]
  refine .inl (List.mem_map.2 ⟨z, List.mem_filter.2 ⟨List.mem_of_getElem? hz, ?_⟩, by rw [hst]; rfl⟩)
  rwa [State.concerns, State.cfg, hconfig]

theorem Sounding.of_frame (h : Sounding s n u) (hc : t.config = u.config) (hz : t.zones = u.zones) : Sounding s n t := by
  obtain ⟨hconfig, hzone⟩ := h
  exact ⟨hc.trans hconfig, by rw [hz]; exact hzone⟩

/-- Where the curtain of s stands once an ALARM has taken it (R111). -/
def droppedState (s : State) : Option CurtainState :=
  s.curtain.state.map (fun st =>
    if st = .down ∨ st = .dropping then st else if s.pins.bottomLimit then .down else .dropping)

/-- The house in ALARM, the curtain of s let fall: the condition, the lights, the calls and the curtain (R111, R139, R157). -/
structure Housed (s u : State) : Prop where
  condition  : u.condition = .alarm
  codes      : ∀ c ∈ u.lights.channels, c.code = 255
  evacuation : u.calls.evacuation = true
  pause      : u.calls.pause = false
  queue      : u.calls.queue = []
  cadence    : u.calls.cadence = .idle
  chosen     : u.calls.chosen = none
  curtain    : u.curtain.state = droppedState s

/-- What leaves the condition, the lights, the curtain and the calls, the silence apart, leaves the house taken. -/
theorem Housed.of_same (h : Housed s u) (hcond : t.condition = u.condition) (hl : t.lights = u.lights) (hcur : t.curtain = u.curtain)
    (hcalls : ∃ silence pos, t.calls = { u.calls with silence := silence, evacPos := pos }) : Housed s t := by
  obtain ⟨silence, pos, hcalls⟩ := hcalls
  obtain ⟨hcondition, hcodes, hevac, hpause, hqueue, hcadence, hchosen, hcurtain⟩ := h
  exact ⟨hcond.trans hcondition, by rw [hl]; exact hcodes, by rw [hcalls]; exact hevac, by rw [hcalls]; exact hpause,
    by rw [hcalls]; exact hqueue, by rw [hcalls]; exact hcadence, by rw [hcalls]; exact hchosen, by rw [hcur]; exact hcurtain⟩

/-- R111: the curtain once it has taken an ALARM. -/
theorem curtainCondition_drops (hal : u.condition = .alarm) : (curtainCondition u).curtain.state = droppedState u := by
  unfold curtainCondition droppedState
  rw [hal]
  dsimp only
  split
  · next h => rw [h]; rfl
  · next h => rw [h]; rfl
  · next h => rw [h]; rfl
  · next st hdown hdropping hst =>
    rw [hst, curtainGo_state, Option.map_some]
    have hother : ¬(st = .down ∨ st = .dropping) := by
      rintro (rfl | rfl)
      · exact hdown rfl
      · exact hdropping rfl
    rw [if_neg hother]
    rfl

/-- R139: in ALARM every channel is driven full. -/
theorem lightCondition_full {previous : Condition} (hp : previous ≠ .alarm) (hal : u.condition = .alarm) :
    ∀ c ∈ (lightCondition previous u).lights.channels, c.code = 255 := by
  have hrefresh : lightCondition previous u = refreshLights false u := if_neg (fun h => hp h.1)
  intro c hc
  rw [hrefresh, refreshLights, setLights_lights, refresh_channels, hal] at hc
  obtain ⟨y, -, rfl⟩ := List.mem_map.1 hc
  show (if y.enabled then outputCode true u.lights.master y.level else 255) = 255
  split
  · exact outputCode_alarm _ _
  · rfl

/-- R59: a recomputation that finds an ALARM takes the house. -/
theorem recompute_houses (hcond : u.condition ≠ .alarm) (hal : u.computedCondition = .alarm) : Housed u (recompute u) := by
  have hdeliver : recompute u = enterAlarmCalls (lightCondition u.condition (curtainCondition
      (report (.conditionChanged u.condition .alarm u.faults) (u.setCondition .alarm)))) := by
    have hother (v : State) (hv : v.condition = .alarm) : callCondition u.condition v = enterAlarmCalls v := by
      rw [callCondition, if_neg (by rw [hv]; exact fun h => hcond h.symm), if_pos hv]
    rw [recompute, hal]
    rw [if_neg (fun h => hcond h.symm), deliverCondition, hother _ (by simp)]
  rw [hdeliver]
  generalize hv : report (.conditionChanged u.condition .alarm u.faults) (u.setCondition .alarm) = v
  have hval : v.condition = .alarm := by rw [← hv]; rfl
  have hdrop : droppedState v = droppedState u := by rw [← hv]; rfl
  obtain ⟨-, -, -, -, -, -, -, hccond, -⟩ := curtainCondition_frame v
  obtain ⟨-, -, -, -, -, -, -, -, hlcond, -, -, -, hlcurtain, -⟩ := lightCondition_frame (curtainCondition v) u.condition
  generalize hw : lightCondition u.condition (curtainCondition v) = w at hlcond hlcurtain
  have hcodes : ∀ c ∈ w.lights.channels, c.code = 255 := by
    rw [← hw]
    exact lightCondition_full hcond (hccond.trans hval)
  unfold enterAlarmCalls
  dsimp only
  split <;> exact ⟨hlcond.trans (hccond.trans hval), hcodes, rfl, rfl, rfl, rfl, rfl,
    (congrArg CurtainRecord.state hlcurtain).trans ((curtainCondition_drops hval).trans hdrop)⟩

/-- R59: in a house that is taken, a recomputation finds nothing new. -/
theorem recompute_alarm (h : u.condition = .alarm) (hal : u.computedCondition = .alarm) : recompute u = u := by
  rw [recompute, hal]
  exact if_pos h.symm

/-- R112: a curtain that an ALARM has let fall is not lowered again. -/
theorem failSafe_housed (h : Housed s u) : failSafe u = u := by
  have hcurtain := h.curtain
  unfold droppedState at hcurtain
  unfold failSafe
  rw [hcurtain]
  cases s.curtain.state with
  | none => rfl
  | some st =>
    rw [Option.map_some]
    by_cases hd : st = .down ∨ st = .dropping
    · rw [if_pos hd]
      rcases hd with rfl | rfl <;> rfl
    · rw [if_neg hd]
      cases s.pins.bottomLimit <;> rfl

/-! ## The announcement of an ALARM (R16, R175) -/

/-- The house is taken, or no ALARM has reached it yet. -/
def HousedOrCalm (s u : State) : Prop :=
  Housed s u ∨ (u.condition ≠ .alarm ∧ u.curtain = s.curtain ∧ u.pins = s.pins)

theorem droppedState_congr (hc : u.curtain = s.curtain) (hp : u.pins = s.pins) : droppedState u = droppedState s := by
  rw [droppedState, droppedState, hc, hp]

theorem HousedOrCalm.of_start {s' : State} (h : HousedOrCalm s' u) (hc : s'.curtain = s.curtain) (hp : s'.pins = s.pins) :
    HousedOrCalm s u :=
  h.imp (fun h => { h with curtain := h.curtain.trans (droppedState_congr hc hp) })
    fun ⟨h1, h2, h3⟩ => ⟨h1, h2.trans hc, h3.trans hp⟩

/-- R59: after the next recomputation the house is taken. -/
theorem HousedOrCalm.recompute (h : HousedOrCalm s u) (hs : u.computedCondition = .alarm) : Housed s (recompute u) := by
  rcases h with h | ⟨hcond, hcurtain, hpins⟩
  · rwa [recompute_alarm h.condition hs]
  · have hhoused := recompute_houses hcond hs
    exact { hhoused with curtain := hhoused.curtain.trans (droppedState_congr hcurtain hpins) }

/-- R57, R176: the entry into ACTIVE that an own ALARM brings takes the house, or leaves that to the announcement. -/
theorem enterActive_houses (cause : ListenCause) (hcond : u.condition ≠ .alarm) (hs : Sounding s n u) :
    HousedOrCalm u (enterActive cause u) := by
  unfold enterActive
  dsimp only
  generalize hv : State.setPeers (offer (ownStatus (report (.phaseActive cause) (u.setPhase .active)))
    ((report (.phaseActive cause) (u.setPhase .active)).setPeers
      { (report (.phaseActive cause) (u.setPhase .active)).peers with anyPeer := 0 })) _ = v
  have hsame : v.condition = u.condition ∧ v.curtain = u.curtain ∧ v.pins = u.pins ∧ v.config = u.config ∧ v.zones = u.zones := by
    rw [← hv]
    simp
  obtain ⟨hvc, hvcur, hvpins, hvcfg, hvz⟩ := hsame
  have hcalm : HousedOrCalm u v := .inr ⟨by rw [hvc]; exact hcond, hvcur, hvpins⟩
  unfold judgeRequired
  split
  · unfold putPeerFault
    split
    · exact hcalm
    · have hhoused : Housed u (recompute (report (.stationFaultChanged .requiredLost (requiredMissing v))
          (v.setFaults (v.faults.put .requiredLost (requiredMissing v))))) := by
        refine HousedOrCalm.recompute (.inr ⟨by show v.condition ≠ _; rw [hvc]; exact hcond, hvcur, hvpins⟩) ?_
        exact (hs.of_frame (t := report (.stationFaultChanged .requiredLost (requiredMissing v))
          (v.setFaults (v.faults.put .requiredLost (requiredMissing v)))) hvcfg hvz).computed
      dsimp only
      split
      · rw [failSafe_housed hhoused]
        exact .inl hhoused
      · exact .inl hhoused
  · exact hcalm

/-- R158: the end of a silence leaves the house taken. -/
theorem countedAlarm_housed (h : Housed s u) : Housed s (countedAlarm u) := by
  obtain ⟨-, -, -, -, -, -, -, -, hcond, -, -, -, hcur, -, hlights, -⟩ := countedAlarm_frame u
  refine h.of_same hcond hlights hcur ?_
  unfold countedAlarm clearSilence
  split
  · exact ⟨_, _, rfl⟩
  · exact ⟨_, _, rfl⟩

/-- R16: the announcement of an own ALARM of the concern block takes the house. -/
theorem announceZone_houses {m : Nat} {z : ZoneRecord} (prev : ZoneState) (cause : ZoneCause) (hw : u.working = true)
    (hcond : u.condition ≠ .alarm) (hs : Sounding s n u) (hal : z.state = .alarm) (hc : s.concerns z.area = true) :
    Housed u (announceZone m prev z cause u) ∧ (announceZone m prev z cause u).phase = .active
      ∧ (announceZone m prev z cause u).calls.silence = false := by
  unfold announceZone
  dsimp only
  generalize hv : (if z.state = .alarm ∧ (report (.zoneChanged m z.area prev z.state cause) u).phase = .listen then
    enterActive .ownAlarm ((report (.zoneChanged m z.area prev z.state cause) u).setListenCount 0)
    else report (.zoneChanged m z.area prev z.state cause) u) = v
  have hv' : HousedOrCalm u v ∧ v.phase = .active ∧ v.config = u.config ∧ v.zones = u.zones := by
    rw [← hv]
    split
    · have hcalm := enterActive_houses (s := s) (n := n) (u := (report (.zoneChanged m z.area prev z.state cause) u).setListenCount 0)
        .ownAlarm hcond hs
      refine ⟨hcalm.of_start rfl rfl, enterActive_phase _ _, ?_, ?_⟩ <;> simp
    · next hp =>
      refine ⟨.inr ⟨hcond, rfl, rfl⟩, ?_, rfl, rfl⟩
      have hp' : u.phase ≠ .listen := fun h => hp ⟨hal, h⟩
      show u.phase = .active
      revert hw hp'
      rw [State.working]
      cases u.phase <;> simp
  obtain ⟨hcalm, hphase, hconfig, hzones⟩ := hv'
  obtain ⟨hophase, -, hoconfig, -, -, -, -, hocond, -, -, hozones, hocurtain, hopins, holights, hocalls, -⟩ :=
    offer_frame v (.zone m z.area z.state)
  generalize offer (.zone m z.area z.state) v = w at *
  have hws : Sounding s n w := hs.of_frame (hoconfig.trans hconfig) (hozones.trans hzones)
  have hwcalm : HousedOrCalm u w := by
    refine hcalm.imp (fun h => h.of_same hocond holights hocurtain ⟨_, _, hocalls⟩) fun ⟨h1, h2, h3⟩ => ?_
    exact ⟨by rw [hocond]; exact h1, hocurtain.trans h2, hopins.trans h3⟩
  have hhoused := hwcalm.recompute hws.computed
  obtain ⟨hrphase, -, hrconfig, -⟩ := recompute_frame w
  have hconcern : (recompute w).concerns z.area = true := by
    rw [State.concerns, State.cfg, hrconfig, hws.1]
    exact hc
  rw [if_pos ⟨hal, hconcern⟩]
  obtain ⟨hcphase, -⟩ := countedAlarm_frame (recompute w)
  exact ⟨countedAlarm_housed hhoused, hcphase.trans (hrphase.trans (hophase.trans hphase)), countedAlarm_silence _⟩

/-- R16: the announcement outside LISTEN. -/
theorem announceZone_active {m : Nat} {prev : ZoneState} {z : ZoneRecord} {cause : ZoneCause} (hp : u.phase ≠ .listen) :
    announceZone m prev z cause u =
      if z.state = .alarm ∧ (recompute (offer (.zone m z.area z.state) (report (.zoneChanged m z.area prev z.state cause) u))).concerns
          z.area = true then
        countedAlarm (recompute (offer (.zone m z.area z.state) (report (.zoneChanged m z.area prev z.state cause) u)))
      else recompute (offer (.zone m z.area z.state) (report (.zoneChanged m z.area prev z.state cause) u)) := by
  have hsame : (if z.state = .alarm ∧ (report (.zoneChanged m z.area prev z.state cause) u).phase = .listen then
      enterActive .ownAlarm ((report (.zoneChanged m z.area prev z.state cause) u).setListenCount 0)
      else report (.zoneChanged m z.area prev z.state cause) u) = report (.zoneChanged m z.area prev z.state cause) u :=
    if_neg fun h => hp h.2
  unfold announceZone
  dsimp only
  rw [hsame]

/-- R16: in a house that is taken a further change of a zone only ends the silence. -/
theorem changeZone_housed {m : Nat} {z : ZoneRecord} (cause : ZoneCause) (h : Housed s u) (hp : u.phase = .active)
    (hsil : u.calls.silence = false) (hs : Sounding s n (changeZone m z cause u)) :
    Housed s (changeZone m z cause u) ∧ (changeZone m z cause u).phase = .active ∧ (changeZone m z cause u).calls.silence = false := by
  have hset : Sounding s n (setZone m z u) :=
    hs.of_frame (changeZone_frame u m z cause).2.1.symm (changeZone_zones m z cause u).symm
  unfold changeZone
  split
  · next y _ =>
    split
    · exact ⟨h.of_same rfl rfl rfl ⟨_, _, rfl⟩, hp, hsil⟩
    · rw [announceZone_active (by
        show u.phase ≠ .listen
        rw [hp]
        decide)]
      obtain ⟨hophase, -, hoconfig, -, -, -, -, hocond, -, -, hozones, hocurtain, hopins, holights, hocalls, -⟩ :=
        offer_frame (report (.zoneChanged m z.area y.state z.state cause) (setZone m z u)) (.zone m z.area z.state)
      generalize offer (.zone m z.area z.state) (report (.zoneChanged m z.area y.state z.state cause) (setZone m z u)) = w at *
      have hw : Housed s w := h.of_same hocond holights hocurtain ⟨_, _, hocalls⟩
      rw [recompute_alarm hw.condition (hset.of_frame hoconfig hozones).computed]
      split
      · exact ⟨countedAlarm_housed hw, (countedAlarm_frame w).1.trans (hophase.trans hp), countedAlarm_silence w⟩
      · exact ⟨hw, hophase.trans hp, (congrArg CallState.silence hocalls).trans hsil⟩
  · exact ⟨h, hp, hsil⟩

/-- R13: an escalation leaves a zone in ALARM as it is. -/
theorem Sounding.escalateZone (h : Sounding s n u) (m : Nat) : Sounding s n (escalateZone m u) := by
  obtain ⟨hconfig, z, hz, hal, hc⟩ := h
  refine ⟨(escalateZone_frame u m).2.1.trans hconfig, z, ?_, hal, hc⟩
  rw [escalateZone_zones, hz]
  split
  · rw [Option.map_some, escalated, if_neg (by simp [escalates, hal])]
  · rfl

/-- R13: the escalations leave the house taken. -/
theorem escalate_housed (except : Option Nat) (h : Housed s u) (hp : u.phase = .active) (hsil : u.calls.silence = false)
    (hs : Sounding s n u) : Housed s (escalate except u) ∧ (escalate except u).phase = .active
      ∧ (escalate except u).calls.silence = false := by
  unfold escalate
  generalize List.range u.zones.length = ms
  induction ms generalizing u with
  | nil => exact ⟨h, hp, hsil⟩
  | cons m ms ih =>
    rw [List.foldl_cons]
    split
    · exact ih h hp hsil hs
    · have hstep := hs.escalateZone m
      have hone : Housed s (escalateZone m u) ∧ (escalateZone m u).phase = .active ∧ (escalateZone m u).calls.silence = false := by
        unfold escalateZone at hstep ⊢
        split
        · next z hz =>
          rw [hz] at hstep
          dsimp only at hstep
          split
          · next hesc =>
            rw [if_pos hesc] at hstep
            exact changeZone_housed .coincidence h hp hsil hstep
          · exact ⟨h, hp, hsil⟩
        · exact ⟨h, hp, hsil⟩
      exact ih hone.1 hone.2.1 hone.2.2 hstep

/-- R10, R16: an own zone of the concern block that goes to ALARM takes the house. -/
theorem moveZone_houses {z : ZoneRecord} (cause : ZoneCause) (hw : s.working = true) (hcond : s.condition ≠ .alarm)
    (hz : s.zones[n]? = some z) (hne : z.state ≠ .alarm) (hc : s.concerns z.area = true) :
    Housed s (moveZone n (z.to .alarm none) cause s) ∧ (moveZone n (z.to .alarm none) cause s).phase = .active
      ∧ (moveZone n (z.to .alarm none) cause s).calls.silence = false := by
  have hset : Sounding s n (setZone n (z.to .alarm none) s) := ⟨rfl, _, setZone_getElem? hz _, rfl, hc⟩
  have hchange : changeZone n (z.to .alarm none) cause s = announceZone n z.state (z.to .alarm none) cause (setZone n (z.to .alarm none) s) := by
    rw [changeZone, hz]
    exact if_neg hne
  obtain ⟨hhoused, hphase, hsil⟩ := announceZone_houses (u := setZone n (z.to .alarm none) s) (m := n)
    (z := z.to .alarm none) z.state cause hw hcond hset rfl hc
  have hs : Sounding s n (changeZone n (z.to .alarm none) cause s) :=
    hset.of_frame (changeZone_frame s n _ cause).2.1 (changeZone_zones n _ cause s)
  rw [← hchange] at hhoused hphase hsil
  have hhoused : Housed s (changeZone n (z.to .alarm none) cause s) := { hhoused with curtain := hhoused.curtain }
  unfold moveZone
  rw [hz]
  dsimp only
  split
  · exact escalate_housed _ hhoused hphase hsil hs
  · exact ⟨hhoused, hphase, hsil⟩

end Sys2Proof.Machine
end

section
/-! PROOFS. A peer's ZONE frame that ends an ALARM, brings PRE_ALARM or ends it (08 section 8.5, 09 section 9.4). -/

namespace Sys2Proof.Machine

variable {s t u : State} {n : Nat}

/-! ## Escalations that do not come (R13, R49) -/

/-- R16, R58: after an announcement the condition is ALARM while a zone of the concern block is. -/
theorem announceZone_sounds {m : Nat} {prev : ZoneState} {z : ZoneRecord} {cause : ZoneCause} (hs : Sounding s n u) :
    (announceZone m prev z cause u).condition = .alarm := by
  have hsettled {w : State} (hc : w.config = u.config) (hz : w.zones = u.zones) : (recompute w).condition = .alarm := by
    obtain ⟨-, -, hrconfig, -, -, -, -, -, hrzones, -⟩ := recompute_frame w
    rw [recompute_settles]
    exact (hs.of_frame (hrconfig.trans hc) (hrzones.trans hz)).computed
  unfold announceZone
  dsimp only
  generalize hv : (if z.state = .alarm ∧ (report (.zoneChanged m z.area prev z.state cause) u).phase = .listen then
    enterActive .ownAlarm ((report (.zoneChanged m z.area prev z.state cause) u).setListenCount 0)
    else report (.zoneChanged m z.area prev z.state cause) u) = v
  have hsame : v.config = u.config ∧ v.zones = u.zones := by
    rw [← hv]
    split <;> simp
  obtain ⟨-, -, hoconfig, -, -, -, -, -, -, -, hozones, -⟩ := offer_frame v (.zone m z.area z.state)
  have hal := hsettled (hoconfig.trans hsame.1) (hozones.trans hsame.2)
  split
  · obtain ⟨-, -, -, -, -, -, -, -, hcond, -⟩ := countedAlarm_frame (recompute (offer (.zone m z.area z.state) v))
    exact hcond.trans hal
  · exact hal

/-- R13: a zone that is escalated brings ALARM. -/
theorem escalateZone_sounds {z : ZoneRecord} (hz : u.zones[n]? = some z) (he : escalates u z = true) :
    (escalateZone n u).condition = .alarm ∧ Sounding u n (escalateZone n u) := by
  obtain ⟨hpart, hst⟩ := Bool.and_eq_true_iff.1 he
  have hne : z.state ≠ .alarm := by rintro h; rw [h] at hst; cases hst
  have hset : Sounding u n (setZone n (z.to .alarm none) u) :=
    ⟨rfl, _, setZone_getElem? hz _, rfl, (Bool.and_eq_true_iff.1 hpart).2⟩
  have hstep : escalateZone n u = announceZone n z.state (z.to .alarm none) .coincidence (setZone n (z.to .alarm none) u) := by
    rw [escalateZone, hz]
    dsimp only
    rw [if_pos he, changeZone, hz]
    exact if_neg hne
  obtain ⟨-, hconfig, -⟩ := announceZone_frame (setZone n (z.to .alarm none) u) n z.state (z.to .alarm none) .coincidence
  refine ⟨by rw [hstep]; exact announceZone_sounds hset, (escalateZone_frame u n).2.1, z.to .alarm none, ?_, rfl, (Bool.and_eq_true_iff.1 hpart).2⟩
  rw [escalateZone_zones, if_pos rfl, hz, Option.map_some, escalated, if_pos he]

/-- R13: an escalation keeps ALARM. -/
theorem escalateZone_alarm (h : u.condition = .alarm) (m : Nat) : (escalateZone m u).condition = .alarm := by
  cases hz : u.zones[m]? with
  | none => rw [escalateZone, hz]; exact h
  | some z =>
    by_cases he : escalates u z = true
    · exact (escalateZone_sounds hz he).1
    · rw [escalateZone, hz]
      dsimp only
      rwa [if_neg he]

/-- R13: where the condition stays below ALARM no own zone has been escalated. -/
theorem escalate_calm (h : (escalate none u).condition ≠ .alarm) : escalate none u = u := by
  have hkeeps (ms : List Nat) : ∀ u : State, u.condition = .alarm →
      (ms.foldl (fun s n => if (none : Option Nat) = some n then s else escalateZone n s) u).condition = .alarm := by
    induction ms with
    | nil => exact fun u h => h
    | cons m ms ih =>
      intro u hu
      rw [List.foldl_cons, if_neg (by simp)]
      exact ih _ (escalateZone_alarm hu m)
  unfold escalate at h ⊢
  generalize List.range u.zones.length = ms at h ⊢
  induction ms with
  | nil => rfl
  | cons m ms ih =>
    rw [List.foldl_cons, if_neg (by simp)] at h ⊢
    have hnone : escalateZone m u = u := by
      cases hz : u.zones[m]? with
      | none => rw [escalateZone, hz]
      | some z =>
        have hnot : ¬escalates u z = true := fun he => h (hkeeps ms _ (escalateZone_sounds hz he).1)
        rw [escalateZone, hz]
        exact if_neg hnot
    rw [hnone] at h ⊢
    exact ih h

/-- R49: where the condition stays below ALARM a changed zone list brings a recomputation alone. -/
theorem zoneListChanged_calm {old new : List PeerZone} (hnew : ∀ p ∈ new, p ∈ u.peerZones)
    (h : (zoneListChanged old new u).condition ≠ .alarm) : zoneListChanged old new u = if new = old then u else recompute u := by
  unfold zoneListChanged at h ⊢
  split
  · rfl
  · next hne =>
    rw [if_neg hne] at h
    dsimp only at h ⊢
    generalize hv : (if (new.any fun z => u.concerns z.area && entersActivity old z) = true then escalate none (recompute u)
      else recompute u) = v at h ⊢
    have hcond : v.condition ≠ .alarm := by
      split at h
      · obtain ⟨-, -, -, -, -, -, -, -, hc, -⟩ := countedAlarm_frame v
        rwa [hc] at h
      · exact h
    have hrecompute : v = recompute u := by
      rw [← hv] at hcond ⊢
      split
      · next hact =>
        rw [if_pos hact] at hcond
        exact escalate_calm hcond
      · rfl
    subst hrecompute
    refine if_neg fun hal => hcond ?_
    obtain ⟨p, hp, hpal⟩ := List.any_eq_true.1 hal
    simp only [entersAlarm, Bool.and_eq_true, beq_iff_eq] at hpal
    obtain ⟨hc, hst, -⟩ := hpal
    obtain ⟨-, -, hconfig, -, -, -, hpeers, -⟩ := recompute_frame u
    rw [recompute_settles, computedCondition_alarm, List.mem_append]
    refine .inr (List.mem_map.2 ⟨p, List.mem_filter.2 ⟨?_, ?_⟩, by rw [hst]; rfl⟩)
    · rw [State.peerZones, hpeers]
      exact hnew p hp
    · rw [State.concerns, State.cfg, hconfig]
      exact hc

/-! ## What a recomputation delivers below ALARM (R111, R140, R156, R159) -/

/-- R59: a change of the condition is delivered to the curtain, the lights and the calls in turn. -/
theorem recompute_delivers (h : u.computedCondition ≠ u.condition) : recompute u = callCondition u.condition (lightCondition u.condition
    (curtainCondition (report (.conditionChanged u.condition u.computedCondition u.faults) (u.setCondition u.computedCondition)))) :=
  if_neg h

theorem recompute_condition (u : State) : (recompute u).condition = u.computedCondition := by
  by_cases h : u.computedCondition = u.condition
  · rw [recompute, if_pos h, h]
  · rw [recompute_delivers h]
    simp

theorem report_length (r : Report) (v : State) : (report r v).panel.reports.length ≤ v.panel.reports.length + 1 := by
  simp only [report, PanelState.push, State.setPanel]
  split <;> simp

/-- R111: below ALARM the curtain at most stops, with two reports at most, and reaches neither the lights nor the calls. -/
theorem curtainCondition_below (h : u.condition ≠ .alarm) : (curtainCondition u).lights = u.lights ∧ (curtainCondition u).calls = u.calls
    ∧ (curtainCondition u).panel.reports.length ≤ u.panel.reports.length + 2 := by
  unfold curtainCondition
  split
  · next hal => exact absurd hal h
  · split
    · refine ⟨by simp [curtainMove, entryActions], by simp [curtainMove, entryActions], ?_⟩
      generalize hv : report (.curtainChanged u.curtain.state .stopped .preAlarm u.curtain.pos u.curtain.known)
        (u.setCurtain (curtainRecordAfter .stopped u.curtain)) = v
      have hlen : v.panel.reports.length ≤ u.panel.reports.length + 1 := by
        rw [← hv]
        exact report_length _ (u.setCurtain _)
      have hmove : curtainMove .stopped .preAlarm u = offer (stateFrame u.cfg .stopped u.curtain.pos) v := by
        rw [curtainMove, ← hv]
        rfl
      rw [hmove]
      have hoffer : (offer (stateFrame u.cfg .stopped u.curtain.pos) v).panel.reports.length ≤ v.panel.reports.length + 1 := by
        unfold offer
        split
        · omega
        split
        · exact Nat.le_succ _
        split
        · exact Nat.le_succ _
        split
        · next hzone => cases hzone
        · exact report_length _ v
      omega
    · exact ⟨rfl, rfl, Nat.le_add_right _ 2⟩
  · exact ⟨rfl, rfl, Nat.le_add_right _ 2⟩

/-- R159: the calls after the end of an ALARM. -/
theorem leaveAlarmCalls_calls (v : State) : (leaveAlarmCalls v).calls.evacuation = false ∧ (leaveAlarmCalls v).calls.evacPos = none
    ∧ (leaveAlarmCalls v).calls.silence = false ∧ (leaveAlarmCalls v).calls.pause = (v.condition == .preAlarm)
    ∧ (leaveAlarmCalls v).calls.queue = v.calls.queue := by
  unfold leaveAlarmCalls clearSilence
  dsimp only
  split
  · exact ⟨rfl, rfl, rfl, rfl, rfl⟩
  · next h => exact ⟨rfl, rfl, Bool.eq_false_iff.2 h, rfl, rfl⟩

/-- R140, R159: what the end of an ALARM leaves of the lights and the calls. -/
theorem recompute_leaves (hal : u.condition = .alarm) (h : u.computedCondition ≠ .alarm) :
    (recompute u).lights = (u.lights.cancelled).refresh false true
      ∧ (recompute u).calls.evacuation = false ∧ (recompute u).calls.evacPos = none ∧ (recompute u).calls.silence = false
      ∧ (recompute u).calls.pause = (u.computedCondition == .preAlarm) ∧ (recompute u).calls.queue = u.calls.queue
      ∧ (u.lights.cues ≠ [] → u.panel.reports.length ≤ 24 →
          ⟨u.beat.number, .cuesCancelled u.lights.cues.length⟩ ∈ (recompute u).panel.reports) := by
  rw [recompute_delivers (by rw [hal]; exact h), hal]
  generalize hv : report (.conditionChanged .alarm u.computedCondition u.faults) (u.setCondition u.computedCondition) = v
  have hvc : v.condition = u.computedCondition := by rw [← hv]; rfl
  obtain ⟨hlights, hcalls, hlen⟩ := curtainCondition_below (u := v) (by rw [hvc]; exact h)
  obtain ⟨-, -, -, -, -, -, -, hcond, hbeat, -⟩ := curtainCondition_frame v
  generalize curtainCondition v = w at *
  have hw : w.condition ≠ .alarm := by rw [hcond, hvc]; exact h
  have hcancel : lightCondition .alarm w = cancelFades w := if_pos ⟨rfl, hw⟩
  obtain ⟨-, -, -, -, -, -, -, -, hlcond, -, -, -, -, -, hlcalls, -⟩ := lightCondition_frame w .alarm
  rw [hcancel] at hlcond hlcalls ⊢
  have hleave : callCondition .alarm (cancelFades w) = leaveAlarmCalls (cancelFades w) := by
    rw [callCondition, if_neg (by rw [hlcond]; exact hw), if_neg (by rw [hlcond]; exact hw), if_pos rfl]
  rw [hleave]
  obtain ⟨-, -, -, -, -, -, -, -, -, -, -, -, -, -, hlights', -⟩ := leaveAlarmCalls_frame (cancelFades w)
  obtain ⟨hevac, hpos, hsil, hpause, hqueue⟩ := leaveAlarmCalls_calls (cancelFades w)
  have hvlights : v.lights = u.lights := by rw [← hv]; rfl
  have hfalse : (w.condition == .alarm) = false := beq_false_of_ne hw
  refine ⟨?_, hevac, hpos, hsil, ?_, ?_, fun hcues hroom => ?_⟩
  · rw [hlights', cancelFades_lights, hfalse, hlights, hvlights]
  · rw [hpause, hlcond, hcond, hvc]
  · rw [hqueue, hlcalls, hcalls, ← hv]
    rfl
  · have hcount : w.lights.cues.length = u.lights.cues.length := by rw [hlights, hvlights]
    have hnumber : w.beat.number = u.beat.number := by rw [hbeat, ← hv]; rfl
    have hvlen : v.panel.reports.length ≤ u.panel.reports.length + 1 := by
      rw [← hv]
      exact report_length _ (u.setCondition _)
    have hreport : cancelFades w = report (.cuesCancelled w.lights.cues.length)
        (refreshLights true (setCues [] (setChannels (w.lights.channels.map Channel.afterAlarm) w))) := by
      refine if_neg ?_
      rw [hcount]
      simpa using hcues
    obtain ⟨more, hmore⟩ := FirstReport.of_grows (leaveAlarmCalls_grows (cancelFades w) _ (by rw [hreport]; exact PanelGrows.refl _))
      (s := refreshLights true (setCues [] (setChannels (w.lights.channels.map Channel.afterAlarm) w)))
      (by show w.panel.reports.length < 32; omega)
    rw [hmore, ← hcount, ← hnumber]
    exact List.mem_append_right _ (by simp)

/-- R156: a choice leaves the pause flag. -/
theorem choose_pause (b : Bool) (u : State) : (choose b u).calls.pause = u.calls.pause := by
  have hstart (e : CallEntry) (v : State) : (startEntry e v).calls.pause = v.calls.pause := by
    unfold startEntry
    dsimp only
    split
    · rfl
    · split <;> simp
  have hawait (e : CallEntry) (w : Wait) (v : State) : (awaitEntry e w v).calls.pause = v.calls.pause := rfl
  unfold choose judgeChosen
  dsimp only
  (repeat' split) <;> simp [hstart, hawait]

/-- R156: what PRE_ALARM brings to the calls. -/
theorem recompute_pauses (hc : u.condition = .quiet ∨ u.condition = .fault) (h : u.computedCondition = .preAlarm) :
    (recompute u).calls.pause = true
      ∧ (u.calls.cadence = .playing ∨ u.calls.cadence = .resting → (recompute u).calls = { u.calls with pause := true })
      ∧ (u.calls.cadence = .idle ∨ u.calls.cadence = .waitingStart → (∀ e ∈ u.calls.queue, e.key.cls ≠ .safety) →
          (recompute u).calls = { u.calls with pause := true, cadence := .idle, chosen := none, wait := none }) := by
  have hne : u.computedCondition ≠ u.condition := by
    rw [h]
    rcases hc with hc | hc <;> rw [hc] <;> decide
  rw [recompute_delivers hne, h]
  generalize hv : report (.conditionChanged u.condition .preAlarm u.faults) (u.setCondition .preAlarm) = v
  have hvc : v.condition = .preAlarm := by rw [← hv]; rfl
  obtain ⟨-, hcalls, -⟩ := curtainCondition_below (u := v) (by rw [hvc]; decide)
  obtain ⟨-, -, -, -, -, -, -, hcond, -⟩ := curtainCondition_frame v
  obtain ⟨-, -, -, -, -, -, -, -, hlcond, -, -, -, -, -, hlcalls, -⟩ := lightCondition_frame (curtainCondition v) u.condition
  generalize lightCondition u.condition (curtainCondition v) = w at *
  have hwc : w.condition = .preAlarm := by rw [hlcond, hcond, hvc]
  have hwcalls : w.calls = u.calls := by rw [hlcalls, hcalls, ← hv]; rfl
  have hpause : callCondition u.condition w = pauseCalls w := by
    rw [callCondition, hwc]
    rw [if_neg (by rcases hc with hc | hc <;> rw [hc] <;> decide), if_neg (by decide),
      if_neg (by rcases hc with hc | hc <;> rw [hc] <;> decide), if_pos rfl]
  rw [hpause, pauseCalls]
  refine ⟨choose_pause _ _, fun hplay => ?_, fun hidle hnone => ?_⟩
  · have hnot : ¬((w.setCalls { w.calls with pause := true }).calls.cadence = .idle
        ∨ (w.setCalls { w.calls with pause := true }).calls.cadence = .waitingStart) := by
      show ¬(w.calls.cadence = .idle ∨ w.calls.cadence = .waitingStart)
      rw [hwcalls]
      rcases hplay with hp | hp <;> rw [hp] <;> simp
    rw [choose, if_neg hnot, setCalls_calls, hwcalls]
  · have hfind : (w.setCalls { w.calls with pause := true }).calls.queue.find? (mayPlay true) = none := by
      show w.calls.queue.find? _ = none
      rw [hwcalls, List.find?_eq_none]
      intro e he
      simpa [mayPlay] using hnone e he
    rw [choose, if_pos (by show w.calls.cadence = _ ∨ w.calls.cadence = _; rwa [hwcalls]), show (w.setCalls { w.calls with pause := true }).calls.pause
      = true from rfl, hfind]
    dsimp only
    rw [setCalls_calls, setCalls_calls, hwcalls]

/-- R156: what the end of PRE_ALARM brings to the calls. -/
theorem recompute_resumes (hc : u.condition = .preAlarm) (h : u.computedCondition = .quiet ∨ u.computedCondition = .fault) :
    (recompute u).calls.pause = false
      ∧ (u.calls.cadence = .idle → (recompute u).calls = { u.calls with pause := false, cadence := .resting })
      ∧ (u.calls.cadence = .playing ∨ u.calls.cadence = .resting → (recompute u).calls = { u.calls with pause := false }) := by
  have hcalm : u.computedCondition ≠ .alarm ∧ u.computedCondition ≠ .preAlarm := by
    rcases h with h | h <;> rw [h] <;> decide
  rw [recompute_delivers (by rw [hc]; exact hcalm.2), hc]
  generalize hv : report (.conditionChanged .preAlarm u.computedCondition u.faults) (u.setCondition u.computedCondition) = v
  have hvc : v.condition = u.computedCondition := by rw [← hv]; rfl
  obtain ⟨-, hcalls, -⟩ := curtainCondition_below (u := v) (by rw [hvc]; exact hcalm.1)
  obtain ⟨-, -, -, -, -, -, -, hcond, -⟩ := curtainCondition_frame v
  obtain ⟨-, -, -, -, -, -, -, -, hlcond, -, -, -, -, -, hlcalls, -⟩ := lightCondition_frame (curtainCondition v) .preAlarm
  generalize lightCondition .preAlarm (curtainCondition v) = w at *
  have hwc : w.condition = u.computedCondition := by rw [hlcond, hcond, hvc]
  have hwcalls : w.calls = u.calls := by rw [hlcalls, hcalls, ← hv]; rfl
  have hresume : callCondition .preAlarm w = resumeCalls w := by
    rw [callCondition, hwc, if_neg hcalm.2, if_neg hcalm.1, if_neg (by decide), if_neg hcalm.2, if_pos rfl]
  rw [hresume, resumeCalls, hwcalls]
  refine ⟨?_, fun hidle => ?_, fun hplay => ?_⟩
  · split
    · rfl
    · exact choose_pause _ _
  · rw [if_pos hidle]
    rfl
  · have hnot : ¬(u.calls.cadence = .idle ∨ u.calls.cadence = .waitingStart) := by
      rcases hplay with hp | hp <;> rw [hp] <;> simp
    rw [if_neg (fun hidle => hnot (.inl hidle)), choose]
    exact congrArg State.calls (if_neg hnot)

/-! ## The obligation (O49) -/

/-- Settles O49: an own ALARM by the announcement that takes the house, a peer's ZONE frame by the recomputation it brings. -/
theorem alarmTakesTheHouse : Obligations.AlarmTakesTheHouse := by
  refine ⟨fun s n z hw hcond hz he hst ht hr hc => ?own, fun s x i a z hx hlaw hcl hi ha => ?peer⟩
  case own =>
    have hrow : exec (.t1Expiry n) s = .next (moveZone n (z.to .alarm none) .t1Expiry s) := by
      rw [exec_t1Expiry, whileWorking, if_pos hw, expireFrom_expires hz he hst ht hr]
      rfl
    obtain ⟨hhoused, hphase, hsil⟩ := moveZone_houses .t1Expiry hw hcond hz (by rw [hst]; decide) hc
    exact ⟨_, hrow, hhoused.condition, hhoused.codes, hhoused.evacuation, hsil, hhoused.pause,
      fun _ => ⟨hhoused.queue, hhoused.cadence, hhoused.chosen⟩, hhoused.curtain, fun _ => hphase⟩
  case peer =>
    obtain ⟨e, he, -⟩ := isPresent_entry hx.present
    have hrow : exec (.zoneFrame x i a z) s = .next (takeZoneFrame x ⟨i, a, z⟩ (heard x s)) := by
      rw [exec_zoneFrame, receive_heard s x _ hx (formOk_zone z hx.station.1 hx.station.2 hi ha)]
      exact congrArg Host.Outcome.next (if_neg hx.peer)
    generalize hu : setTable (updateEntry x (fun e => { e with zones := updateZoneList ⟨i, a, z⟩ e.zones }) (heard x s).peers.table)
      (heard x s) = u
    have htake : takeZoneFrame x ⟨i, a, z⟩ (heard x s) = zoneListChanged (zoneListOf x (heard x s)) (zoneListOf x u) u := by
      rw [takeZoneFrame, hu]
    have hlisted (p : PeerZone) (hp : p ∈ zoneListOf x u) : p ∈ u.peerZones := by
      unfold zoneListOf at hp
      split at hp
      · next y hy => exact List.mem_flatMap.2 ⟨y, (findPeer_some hy).1, hp⟩
      · cases hp
    have hsame : u.condition = s.condition ∧ u.lights = s.lights ∧ u.calls = s.calls ∧ u.panel = s.panel ∧ u.beat = s.beat := by
      rw [← hu]
      exact ⟨rfl, rfl, rfl, rfl, rfl⟩
    obtain ⟨hcond, hlights, hcalls, hpanel, hbeat⟩ := hsame
    refine ⟨_, hrow, ?_⟩
    rw [htake]
    have hcalm (h : (zoneListChanged (zoneListOf x (heard x s)) (zoneListOf x u) u).condition ≠ .alarm)
        (hne : (zoneListChanged (zoneListOf x (heard x s)) (zoneListOf x u) u).condition ≠ s.condition) :
        zoneListChanged (zoneListOf x (heard x s)) (zoneListOf x u) u = recompute u := by
      have heq := zoneListChanged_calm hlisted h
      split at heq
      · rw [heq] at hne
        exact absurd hcond hne
      · exact heq
    refine ⟨fun hal h => ?leaves, fun hquiet h => ?pauses, fun hpre h => ?resumes⟩
    case leaves =>
      have heq := hcalm h (by rw [hal]; exact h)
      rw [heq, recompute_condition] at h
      obtain ⟨hl, hevac, hpos, hsil, hpause, hqueue, hreport⟩ := recompute_leaves (hcond.trans hal) h
      obtain ⟨hcues, hmaster, -⟩ := refresh_others false true s.lights.cancelled
      rw [heq, hl, hlights, recompute_condition]
      refine ⟨?_, by rw [hcues]; rfl, by rw [hmaster]; rfl, ?_, ?_, hevac, hpos, hsil, hpause, by rw [hqueue, hcalls]⟩
      · rw [refresh_channels]
        show (s.lights.channels.map Channel.afterAlarm).map _ = _
        rw [List.map_map]
        refine List.map_congr_left fun c _ => ?_
        rw [Function.comp_apply]
        refine congrArg (fun k => { c.afterAlarm with code := k }) ?_
        show (if c.enabled then outputCode false s.lights.master c.afterAlarm.level else 255) = _
        by_cases hen : c.enabled = true
        · rw [if_pos hen, if_pos hen, show c.afterAlarm.level = 1000 from if_pos hen]
        · rw [if_neg hen, if_neg hen]
      · have hrefresh : (s.lights.cancelled).refresh false true = ({ s.lights.cancelled with
            channels := s.lights.cancelled.channels.map (Channel.recode false s.lights.cancelled.master) } : LightState).requestTransfer := by
          rw [LightState.refresh]
          rfl
        rw [hrefresh, LightState.requestTransfer, show ({ s.lights.cancelled with
            channels := s.lights.cancelled.channels.map (Channel.recode false s.lights.cancelled.master) } : LightState).sending
          = s.lights.sending from rfl]
        cases s.lights.sending with
        | none => rfl
        | some codes => exact ⟨rfl, rfl⟩
      · rw [hlights, hpanel, hbeat] at hreport
        exact hreport
    case pauses =>
      have hne : (zoneListChanged (zoneListOf x (heard x s)) (zoneListOf x u) u).condition ≠ s.condition := by
        rw [h]
        rcases hquiet with hq | hq <;> rw [hq] <;> decide
      have heq := hcalm (by rw [h]; decide) hne
      rw [heq, recompute_condition] at h
      have hpauses := recompute_pauses (by rw [hcond]; exact hquiet) h
      rw [hcalls] at hpauses
      rw [heq]
      exact hpauses
    case resumes =>
      have hne : (zoneListChanged (zoneListOf x (heard x s)) (zoneListOf x u) u).condition ≠ .alarm
          ∧ (zoneListChanged (zoneListOf x (heard x s)) (zoneListOf x u) u).condition ≠ s.condition := by
        rw [hpre]
        rcases h with h | h <;> rw [h] <;> decide
      have heq := hcalm hne.1 hne.2
      rw [heq, recompute_condition] at h
      have hresumes := recompute_resumes (hcond.trans hpre) h
      rw [hcalls] at hresumes
      rw [heq]
      exact hresumes

end Sys2Proof.Machine
end

section
/-! PROOFS. What a boundary leaves of the lights, the calls and the curtain where it only judges station faults (R55 to R59). -/

namespace Sys2Proof.Machine

variable {s t r : State} {e : CallEntry} {u b : Bool} {A B : Prop}

/-! ## A change between QUIET and FAULT (R59, R137) -/

/-- R136, R137: codes that stand are the codes computed afresh. -/
theorem LightsFit.refresh_eq {alarm : Bool} {l : LightState} (h : LightsFit alarm l) : l.refresh alarm false = l := by
  have hsame : l.channels.map (Channel.recode alarm l.master) = l.channels := by
    refine (List.map_congr_left fun c hc => ?_).trans (List.map_id _)
    have hcode : (if c.enabled then outputCode alarm l.master c.level else 255) = c.code := by
      split
      · next he => exact (h.codes c hc he).symm
      · next he => exact ((h.channels c hc).disabled (Bool.eq_false_iff.2 he)).2.1.symm
    exact congrArg (fun k => { c with code := k }) hcode
  rw [LightState.refresh, hsame]
  exact if_neg (by simp)

/-- R59: where only station faults have changed and the codes stand, a recomputation reaches the condition and the reports. -/
theorem recompute_calm (hs : s.condition = s.computedCondition) (hcond : t.condition = s.condition) (hc : t.config = s.config)
    (hz : t.zones = s.zones) (hp : t.peers.table = s.peers.table) (hl : Lit t) :
    recompute t = { t with condition := (recompute t).condition, panel := (recompute t).panel }
      ∧ ((recompute t).condition == .alarm) = (t.condition == .alarm) := by
  rw [recompute_condition]
  by_cases hne : t.computedCondition = t.condition
  · refine ⟨?_, by rw [hne]⟩
    rw [recompute, if_pos hne, hne]
  have hmoves := computedCondition_moves (zoneCondition_congr hc hz hp) (by rw [← hs, ← hcond]; exact hne)
  rw [← hs, ← hcond] at hmoves
  obtain ⟨hold, hnew⟩ := hmoves
  have hcalm {c : Condition} (h : c = .quiet ∨ c = .fault) : (c == .alarm) = false := by rcases h with rfl | rfl <;> rfl
  have halarm : (t.computedCondition == .alarm) = (t.condition == .alarm) := by rw [hcalm hold, hcalm hnew]
  refine ⟨?_, halarm⟩
  rw [recompute_delivers hne]
  generalize hv : report (.conditionChanged t.condition t.computedCondition t.faults) (t.setCondition t.computedCondition) = v
  have hvc : v.condition = t.computedCondition := by rw [← hv]; rfl
  have hlit : Lit v := by
    rw [Lit, hvc, halarm, ← hv]
    exact hl
  have hlight : lightCondition t.condition v = v := by
    rw [lightCondition, if_neg (fun h => by rcases hold with hq | hq <;> rw [hq] at h <;> cases h.1), refreshLights, hlit.refresh_eq]
    rfl
  have hdeliver : deliverCondition t.condition v = v := (deliverCondition_calm (by rw [hvc]; exact hnew) hold).trans hlight
  unfold deliverCondition at hdeliver
  rw [hdeliver, ← hv]
  rfl

/-! ## Calls without a linked cue (R141, R154) -/

/-- No waiting call carries a linked cue. -/
def Unlinked (s : State) : Prop := ∀ e ∈ s.calls.queue, e.linked = none

/-- What leaves the lights, and the condition in or out of ALARM, while no call carries a linked cue. -/
def SparesLights (s t : State) : Prop :=
  Unlinked s → Unlinked t ∧ t.lights = s.lights ∧ (t.condition == .alarm) = (s.condition == .alarm)

theorem SparesLights.refl (s : State) : SparesLights s s := fun h => ⟨h, rfl, rfl⟩

theorem SparesLights.trans (hst : SparesLights s t) (htr : SparesLights t r) : SparesLights s r := by
  intro h
  obtain ⟨ht, hl, hc⟩ := hst h
  obtain ⟨hr, hl', hc'⟩ := htr ht
  exact ⟨hr, hl'.trans hl, hc'.trans hc⟩

theorem SparesLights.of_calls (hq : ∀ e ∈ t.calls.queue, e ∈ s.calls.queue ∨ e.linked = none) (hl : t.lights = s.lights)
    (hc : t.condition = s.condition) : SparesLights s t :=
  fun h => ⟨fun e he => (hq e he).elim (h e) id, hl, by rw [hc]⟩

theorem SparesLights.of_same (hq : t.calls = s.calls) (hl : t.lights = s.lights) (hc : t.condition = s.condition) :
    SparesLights s t := .of_calls (fun e he => .inl (by rw [← hq]; exact he)) hl hc

/-- R154: a call without a linked cue hands nothing to the Light Fader. -/
theorem startEntry_spares (he : e.linked = none) : SparesLights s (startEntry e s) := by
  intro h
  have hqueue : ∀ x ∈ s.calls.queue.map (fun x => if x.key = e.key then { x with started := true, playing := true } else x),
      x.linked = none := by
    intro x hx
    obtain ⟨y, hy, rfl⟩ := List.mem_map.1 hx
    split <;> exact h y hy
  unfold startEntry
  rw [he]
  dsimp only
  split <;> exact ⟨hqueue, rfl, rfl⟩

theorem report_spares (x : Report) (s : State) : SparesLights s (report x s) := .of_same rfl rfl rfl

theorem awaitEntry_spares (e : CallEntry) (w : Wait) (s : State) : SparesLights s (awaitEntry e w s) :=
  .of_calls (fun _ he => .inl he) rfl rfl

theorem judgeChosen_spares (x : Bool) (he : e.linked = none) : SparesLights s (judgeChosen x e s) := by
  unfold judgeChosen
  split
  · exact startEntry_spares he
  split
  · exact startEntry_spares he
  · split <;> [exact startEntry_spares he; exact awaitEntry_spares _ _ _]
  · split
    · exact (report_spares _ _).trans (awaitEntry_spares _ _ _)
    · dsimp only
      split
      · exact awaitEntry_spares _ _ _
      split
      · exact startEntry_spares he
      · exact (report_spares _ _).trans (startEntry_spares he)

/-- R152: whatever a choice starts is an entry of the queue. -/
theorem choose_spares (x : Bool) (s : State) : SparesLights s (choose x s) := by
  intro h
  unfold choose
  split
  · split
    · exact ⟨h, rfl, rfl⟩
    · next e he =>
      split
      · exact ⟨h, rfl, rfl⟩
      · exact judgeChosen_spares x (h e (List.mem_of_find?_eq_some he)) h
  · exact ⟨h, rfl, rfl⟩

theorem removeCall_spares (k : CallKey) (s : State) : SparesLights s (removeCall k s) := by
  have hsub : ∀ e ∈ dropCall k s.calls.queue, e ∈ s.calls.queue ∨ e.linked = none := fun e he => .inl (List.mem_filter.1 he).1
  unfold removeCall
  dsimp only
  split <;> exact .of_calls hsub rfl rfl

theorem setQueue_spares {q : List CallEntry} (hq : ∀ e ∈ q, e ∈ s.calls.queue ∨ e.linked = none) : SparesLights s (setQueue q s) :=
  .of_calls hq rfl rfl

theorem joinCalls_perm (e : CallEntry) (q : List CallEntry) : (joinCalls e q).Perm (e :: q) := by
  induction q with
  | nil => exact .refl _
  | cons x xs ih =>
    unfold joinCalls
    split
    · exact (ih.cons x).trans (.swap e x xs)
    · exact .refl _

theorem joinCalls_spares (he : e.linked = none) : SparesLights s (setQueue (joinCalls e s.calls.queue) s) := by
  refine setQueue_spares fun x hx => ?_
  rcases List.mem_cons.1 ((joinCalls_perm e s.calls.queue).mem_iff.1 hx) with rfl | hx
  · exact .inr he
  · exact .inl hx

/-- R147, R150, R151: a call without a linked cue that joins, merges, evicts or is dropped. -/
theorem enqueueCall_spares (he : e.linked = none) : SparesLights s (enqueueCall e s) := by
  unfold enqueueCall
  split
  · next x hx =>
    have hmerge : SparesLights s (setQueue (s.calls.queue.map (fun y =>
        if y.key = e.key then { y with repeats := min 16 (x.repeats + e.repeats) } else y)) s) := by
      intro h
      refine ⟨fun y hy => ?_, rfl, rfl⟩
      obtain ⟨z, hz, rfl⟩ := List.mem_map.1 hy
      split <;> exact h z hz
    exact (hmerge.trans (report_spares _ _)).trans (choose_spares _ _)
  split
  · exact (joinCalls_spares he).trans (choose_spares _ _)
  split
  · dsimp only
    split
    · exact (((removeCall_spares _ s).trans (report_spares _ _)).trans (joinCalls_spares he)).trans (choose_spares _ _)
    · exact report_spares _ _
  · exact report_spares _ _

/-- R149: the warning call carries no linked cue. -/
theorem placeWarning_spares (s : State) : SparesLights s (placeWarning s) := by
  unfold placeWarning
  split
  · exact .of_same rfl rfl rfl
  · exact enqueueCall_spares rfl

/-- R152, R153: the Call Unit's part of a boundary. -/
theorem callBoundary_spares (s : State) : SparesLights s (callBoundary s) := by
  have hidle (c : Cadence) : SparesLights s (s.setCalls { s.calls with cadence := c }) := .of_calls (fun _ he => .inl he) rfl rfl
  unfold callBoundary
  split
  · exact .refl s
  · exact choose_spares _ _
  · exact (hidle .idle).trans (choose_spares _ _)
  · split
    · next e w hfound _ =>
      intro h
      obtain ⟨k, -, he⟩ := Option.bind_eq_some_iff.1 hfound
      have hlinked : e.linked = none := h e (List.mem_of_find?_eq_some he)
      split
      · exact startEntry_spares hlinked h
      · exact (report_spares _ _).trans (startEntry_spares hlinked) h
      · exact SparesLights.refl s h
    · exact (SparesLights.of_calls (t := s.setCalls { s.calls with cadence := .idle, chosen := none, wait := none })
        (fun _ he => .inl he) rfl rfl).trans (choose_spares _ _)

theorem releasePlacement_spares (s : State) : SparesLights s (releasePlacement s) := by
  unfold releasePlacement
  dsimp only
  split
  · exact (SparesLights.of_same (t := (s.setBoundaryUnderway false).setPlacementHeld false) rfl rfl rfl).trans (placeWarning_spares _)
  · exact .of_same rfl rfl rfl

end Sys2Proof.Machine
end

section
/-! PROOFS. What the station faults that a boundary judges leave of the lights, and of a station without a curtain (R45, R53 to
R57, R112). -/

namespace Sys2Proof.Machine

variable {s t r : State} {u b : Bool} {A B : Prop}

/-! ## The lights under the curtain's moves (R99, R113) -/

theorem SparesLights.lit (h : SparesLights s t) (hu : Unlinked s) (hl : Lit s) : Lit t := by
  obtain ⟨-, hlights, hcond⟩ := h hu
  rw [Lit, hlights, hcond]
  exact hl

theorem putCurtainFault_spares (v : Bool) (s : State) : SparesLights s (putCurtainFault v s) := by
  unfold putCurtainFault
  split
  · exact .refl s
  · exact .of_same rfl rfl rfl

theorem offer_spares (f : Payload) (s : State) : SparesLights s (offer f s) := by
  obtain ⟨-, -, -, -, -, -, -, hcond, -, -, -, -, -, hlights, hcalls, -⟩ := offer_frame s f
  exact .of_same hcalls hlights hcond

theorem entryActions_spares (prev : Option CurtainState) (new : CurtainState) (s : State) : SparesLights s (entryActions prev new s) := by
  unfold entryActions
  split
  · exact placeWarning_spares s
  · split
    · exact (placeWarning_spares s).trans (putCurtainFault_spares _ _)
    · exact placeWarning_spares s
  · exact putCurtainFault_spares _ _
  · exact putCurtainFault_spares _ _
  · exact .refl s

theorem curtainMove_spares (new : CurtainState) (cause : CurtainCause) (s : State) : SparesLights s (curtainMove new cause s) := by
  have hreport : SparesLights s (report (.curtainChanged s.curtain.state new cause s.curtain.pos s.curtain.known)
      (s.setCurtain (curtainRecordAfter new s.curtain))) := .of_same rfl rfl rfl
  exact (hreport.trans (offer_spares _ _)).trans (entryActions_spares _ _ _)

theorem curtainGo_spares (target : CurtainState) (cause : CurtainCause) (s : State) : SparesLights s (curtainGo target cause s) := by
  unfold curtainGo
  split
  · exact (SparesLights.of_same (t := s.setCurtain { s.curtain with pos := 0, known := true }) rfl rfl rfl).trans
      (curtainMove_spares _ _ _)
  · exact curtainMove_spares _ _ _

theorem curtainLowerTo_spares (cause : CurtainCause) (s : State) : SparesLights s (curtainLowerTo cause s) := by
  unfold curtainLowerTo
  split <;> exact curtainGo_spares _ _ _

/-- R59: a recomputation that station faults alone call for. -/
theorem recompute_spares (hs : s.condition = s.computedCondition) (hcond : t.condition = s.condition) (hc : t.config = s.config)
    (hz : t.zones = s.zones) (hp : t.peers.table = s.peers.table) (hl : Unlinked t → Lit t) : SparesLights t (recompute t) := by
  intro h
  obtain ⟨heq, halarm⟩ := recompute_calm hs hcond hc hz hp (hl h)
  refine ⟨?_, ?_, halarm⟩
  · rw [Unlinked, heq]
    exact h
  · rw [heq]

/-- R113: a move of the curtain with the recomputation it calls for. -/
theorem afterCurtain_spares (hs : s.condition = s.computedCondition) (hl : Lit s) (ht : SparesLights s t)
    (hcond : t.condition = s.condition) (hc : t.config = s.config) (hz : t.zones = s.zones) (hp : t.peers.table = s.peers.table) :
    SparesLights s (afterCurtain s t) := by
  unfold afterCurtain
  split
  · exact ht
  · intro h
    exact (ht.trans (recompute_spares hs hcond hc hz hp fun _ => ht.lit h hl)) h

theorem curtainChange_spares (hs : s.condition = s.computedCondition) (hl : Lit s) (target : CurtainState) (cause : CurtainCause) :
    SparesLights s (curtainChange target cause s) := by
  obtain ⟨-, -, hconfig, -, -, -, hpeers, hcond, -, hzones, -⟩ := curtainGo_frame s target cause
  exact afterCurtain_spares hs hl (curtainGo_spares _ _ _) hcond hconfig hzones (by rw [hpeers])

theorem failSafe_spares (hs : s.condition = s.computedCondition) (hl : Lit s) : SparesLights s (failSafe s) := by
  have hlower : SparesLights s (curtainLowering .failSafe s) := by
    obtain ⟨-, -, hconfig, -, -, -, hpeers, hcond, -, hzones, -⟩ := curtainLowerTo_frame s .failSafe
    exact afterCurtain_spares hs hl (curtainLowerTo_spares _ _) hcond hconfig hzones (by rw [hpeers])
  unfold failSafe
  split
  · exact hlower
  · exact hlower
  · exact hlower
  · exact hlower
  · exact hlower
  · exact .refl s

/-! ## A station fault that is judged (R55) -/

/-- What a judgement spares: the lights, and, at a station without a curtain, the calls. -/
structure Spares (s t : State) : Prop where
  lights : SparesLights s t
  absent : s.curtain.state = none → t.calls = s.calls ∧ t.curtain = s.curtain ∧ t.placementHeld = s.placementHeld

theorem Spares.refl (s : State) : Spares s s := ⟨.refl s, fun _ => ⟨rfl, rfl, rfl⟩⟩

theorem Spares.trans (hst : Spares s t) (htr : Spares t r) : Spares s r := by
  refine ⟨hst.lights.trans htr.lights, fun h => ?_⟩
  obtain ⟨hcalls, hcurtain, hheld⟩ := hst.absent h
  obtain ⟨hcalls', hcurtain', hheld'⟩ := htr.absent (by rw [hcurtain]; exact h)
  exact ⟨hcalls'.trans hcalls, hcurtain'.trans hcurtain, hheld'.trans hheld⟩

theorem Spares.of_same (hq : t.calls = s.calls) (hl : t.lights = s.lights) (hc : t.condition = s.condition)
    (hcur : t.curtain = s.curtain) (hp : t.placementHeld = s.placementHeld) : Spares s t :=
  ⟨.of_same hq hl hc, fun _ => ⟨hq, hcur, hp⟩⟩

theorem offer_spares_all (f : Payload) (s : State) : Spares s (offer f s) := by
  obtain ⟨-, -, -, -, -, -, -, hcond, -, -, -, hcurtain, -, hlights, hcalls, -, hheld, -⟩ := offer_frame s f
  exact .of_same hcalls hlights hcond hcurtain hheld

/-- R112: no curtain, no lowering. -/
theorem failSafe_absent (h : s.curtain.state = none) : failSafe s = s := by rw [failSafe, h]

theorem peerFaultTaken_spares (x : StationFault) (v : Bool) (h : Inv u A B true s) :
    Spares s (peerFaultTaken x v s) ∧ Lit (peerFaultTaken x v s) := by
  obtain ⟨heq, halarm⟩ := recompute_calm (t := report (.stationFaultChanged x v) (s.setFaults (s.faults.put x v)))
    (h.settled rfl) rfl rfl rfl rfl h.lights
  have hlights : (peerFaultTaken x v s).lights = s.lights := (congrArg State.lights heq :)
  have hcalls : (peerFaultTaken x v s).calls = s.calls := (congrArg State.calls heq :)
  have hcurtain : (peerFaultTaken x v s).curtain = s.curtain := (congrArg State.curtain heq :)
  have hheld : (peerFaultTaken x v s).placementHeld = s.placementHeld := (congrArg State.placementHeld heq :)
  refine ⟨⟨fun hu => ⟨?_, hlights, halarm⟩, fun _ => ⟨hcalls, hcurtain, hheld⟩⟩, ?_⟩
  · rw [Unlinked, hcalls]
    exact hu
  · rw [Lit, hlights, show ((peerFaultTaken x v s).condition == .alarm) = (s.condition == .alarm) from halarm]
    exact h.lights

theorem putPeerFault_spares (h : Inv u A B true s) (x : StationFault) (v : Bool) : Spares s (putPeerFault x v s) := by
  obtain ⟨hspares, hlit⟩ := peerFaultTaken_spares x v h
  by_cases hsame : s.faults.get x = v
  · rw [putPeerFault_same hsame]
    exact .refl s
  rw [putPeerFault_taken hsame]
  split
  · refine hspares.trans ⟨failSafe_spares (peerFaultTaken_settled _ _ _) hlit, fun hnone => ?_⟩
    rw [failSafe_absent hnone]
    exact ⟨rfl, rfl, rfl⟩
  · exact hspares

theorem judgeRequired_spares (h : Inv u A B true s) : Spares s (judgeRequired s) := by
  unfold judgeRequired
  split
  · exact putPeerFault_spares h _ _
  · exact .refl s

/-! ## The parts of a boundary (R45, R53, R56, R105, R174) -/

theorem reports_spares (rs : List Report) (s : State) : Spares s (reports rs s) :=
  .of_same (by simp) (by simp) (by simp) (by simp) (by simp)

/-- R45: the peers of s one beat older, with their reports. -/
def aged (s : State) : State :=
  reports (agingReports s.cfg.statusInterval s.peers.table) (setTable (s.peers.table.map (PeerEntry.age s.cfg.statusInterval)) s)

theorem agePeers_eq (s : State) : agePeers s =
    if s.peers.table.any (fun e => (e.age s.cfg.statusInterval).liveness != e.liveness && isRequired s e.station) then
      judgeRequired (aged s) else aged s := rfl

theorem Inv.aged (h : Inv u A B b s) : Inv u A B b (aged s) := by
  refine (h.setTable (es := s.peers.table.map (PeerEntry.age s.cfg.statusInterval)) ?_ ?_ ?_).reports _
  · exact List.pairwise_map.2 (h.peers.rising.imp fun hxy => hxy)
  · intro e he
    obtain ⟨x, hx, rfl⟩ := List.mem_map.1 he
    exact (h.peers.entries x hx).age
  · rw [List.flatMap_map]
    rfl

theorem aged_spares (s : State) : Spares s (aged s) := by
  have hset : Spares s (setTable (s.peers.table.map (PeerEntry.age s.cfg.statusInterval)) s) := .of_same rfl rfl rfl rfl rfl
  exact hset.trans (reports_spares _ _)

theorem agePeers_spares (h : Inv u A B true s) : Spares s (agePeers s) := by
  rw [agePeers_eq]
  split
  · exact (aged_spares s).trans (judgeRequired_spares h.aged)
  · exact aged_spares s

theorem advanceSchedule_spares (s : State) : Spares s (advanceSchedule s) := by
  obtain ⟨-, -, -, -, -, -, hcond, -, -, -, hcurtain, -, hlights, hcalls, -, hheld, -⟩ := advanceSchedule_frame s
  exact .of_same hcalls hlights hcond hcurtain hheld

theorem advanceAnyPeer_spares (h : Inv u A B true s) : Spares s (advanceAnyPeer s) := by
  have hset : Inv u A B true (s.setPeers { s.peers with anyPeer := bump 255 s.peers.anyPeer }) :=
    h.setPeers (h.peers.counts bump_le h.peers.schedule) (computedCondition_congr rfl rfl rfl rfl)
  have hsame : Spares s (s.setPeers { s.peers with anyPeer := bump 255 s.peers.anyPeer }) := .of_same rfl rfl rfl rfl rfl
  unfold advanceAnyPeer judgeAlone
  split
  · exact hsame.trans (putPeerFault_spares hset _ _)
  · exact hsame

theorem peerBoundary_spares (h : Inv u A B true s) : Spares s (peerBoundary s) :=
  ((agePeers_spares h).trans (advanceSchedule_spares _)).trans (advanceAnyPeer_spares h.agePeers.advanceSchedule)

theorem lapseHold_spares (hs : s.condition = s.computedCondition) (hl : Lit s) : SparesLights s (lapseHold s) := by
  unfold lapseHold
  split
  · exact curtainChange_spares hs hl _ _
  · exact curtainChange_spares hs hl _ _
  · exact .refl s

theorem curtainBoundary_spares (h : Inv u A B true s) : Spares s (curtainBoundary s) := by
  unfold curtainBoundary
  split
  · exact .refl s
  · next x hx =>
    have hraise : isRaise s.curtain.state = true := by rw [← h.curtain.hold, hx]; rfl
    refine ⟨?_, fun hnone => by rw [hnone] at hraise; cases hraise⟩
    have hset : SparesLights s (s.setCurtain { s.curtain with hold := some { x with remaining := x.remaining - 1 } }) :=
      .of_same rfl rfl rfl
    dsimp only
    split
    · exact hset.trans (lapseHold_spares (h.settled rfl) h.lights)
    · exact hset

/-- R176: the state in which the entry into ACTIVE judges the required stations. -/
def entered (cause : ListenCause) (s : State) : State :=
  let s1 := report (.phaseActive cause) (s.setPhase .active)
  let s2 := offer (ownStatus s1) (s1.setPeers { s1.peers with anyPeer := 0 })
  s2.setPeers { s2.peers with schedule := 0 }

theorem enterActive_eq (cause : ListenCause) (s : State) : enterActive cause s = judgeRequired (entered cause s) := rfl

theorem Inv.entered (h : Inv u A B b s) (cause : ListenCause) : Inv u A B b (entered cause s) := by
  have hbounds := h.cfg_bounds
  have hphase := h.activate.report (.phaseActive cause)
  have hany := hphase.setPeers (p := { s.peers with anyPeer := 0 }) (h.peers.counts (by omega) h.peers.schedule)
    (computedCondition_congr rfl rfl rfl rfl)
  have hoffer := hany.offer (ownStatus (Machine.report (.phaseActive cause) (s.setPhase .active)))
  refine hoffer.setPeers ?_ (computedCondition_congr rfl rfl rfl rfl)
  exact hoffer.peers.counts hoffer.peers.anyPeer (by have := hoffer.cfg_bounds; omega)

theorem entered_spares (cause : ListenCause) (s : State) : Spares s (entered cause s) := by
  have hphase : Spares s ((report (.phaseActive cause) (s.setPhase .active)).setPeers
      { (report (.phaseActive cause) (s.setPhase .active)).peers with anyPeer := 0 }) := .of_same rfl rfl rfl rfl rfl
  exact (hphase.trans (offer_spares_all _ _)).trans (.of_same rfl rfl rfl rfl rfl)

theorem loaderBoundary_spares (h : Inv u A B true s) : Spares s (loaderBoundary s) := by
  have hcount (n : Nat) : Spares s (s.setListenCount n) := .of_same rfl rfl rfl rfl rfl
  unfold loaderBoundary
  split
  · exact .refl s
  dsimp only
  split
  · rw [enterActive_eq]
    exact ((hcount _).trans (entered_spares _ _)).trans (judgeRequired_spares ((h.setListenCount _).entered _))
  · exact hcount _

end Sys2Proof.Machine
end

section
/-! PROOFS. The Light Fader's part of a boundary, channel by channel (08 section 8.3). -/

namespace Sys2Proof.Machine

variable {s : State} {number : BitVec 8} {key : Nat} {c : Channel} {f : StagedFade} {cs : List Channel}

/-! ## One cue (R132, R133) -/

/-- R76: a start is due, on time or late, when it no longer waits. -/
theorem dueAt_iff {w : Wait} : dueAt number w ↔ judgeDue number w ≠ .waits := by
  cases w with
  | next => simp [dueAt, judgeDue]
  | beat n =>
    unfold dueAt judgeDue beatsAhead
    dsimp only
    split
    · next h => simp [h]
    · next h => split <;> simp_all

/-- R132, R135: the channel once its staged fade has started, one without duration at its target. -/
def Channel.startsFade (c : Channel) (f : StagedFade) : Channel :=
  if f.duration = 0 then { c with level := f.target, staged := none, active := none }
  else
    { c with staged := none
             active := some { cue := f.cue, start := c.level, target := f.target, duration := f.duration, elapsed := 0 } }

theorem startsFade_staged (c : Channel) (f : StagedFade) : (c.startsFade f).staged = none := by
  unfold Channel.startsFade
  split <;> rfl

theorem startStaged_finish (hf : c.staged = some f) (hkey : f.cue = key) : (startStaged key c).finish = c.startsFade f := by
  unfold startStaged Channel.startsFade
  rw [hf]
  dsimp only
  rw [if_pos hkey]
  unfold Channel.finish
  dsimp only
  by_cases hd : f.duration = 0
  · rw [if_pos (by omega), if_pos hd]
  · rw [if_neg (by omega), if_neg hd, hkey]

/-- R133: the channel at a boundary, as far as one cue goes. -/
def Channel.takesCue (number : BitVec 8) (key : Nat) (c : Channel) : Channel :=
  match c.staged with
  | some f => if f.cue = key ∧ judgeDue number f.wait ≠ .waits then c.startsFade f else c
  | none => c

theorem takesCue_due (hf : c.staged = some f) (hkey : f.cue = key) (hd : judgeDue number f.wait ≠ .waits) :
    c.takesCue number key = c.startsFade f := by
  rw [Channel.takesCue, hf]
  exact if_pos ⟨hkey, hd⟩

theorem takesCue_stays (h : ∀ f, c.staged = some f → f.cue = key → judgeDue number f.wait = .waits) : c.takesCue number key = c := by
  unfold Channel.takesCue
  split
  · next f hf => exact if_neg fun ⟨hkey, hd⟩ => hd (h f hf hkey)
  · rfl

/-- R133: the staged fades of one cue wait alike, so each of them gives the outcome of all. -/
theorem stagedOutcome_eq (halike : StagedAlike cs) (hc : c ∈ cs) (hf : c.staged = some f) :
    stagedOutcome number cs f.cue = some (judgeDue number f.wait) := by
  have hmem : f ∈ cs.filterMap (fun c => c.staged) := List.mem_filterMap.2 ⟨c, hc, hf⟩
  unfold stagedOutcome
  cases hfind : (cs.filterMap (fun c => c.staged)).find? (fun g => g.cue == f.cue) with
  | none => exact absurd (List.find?_eq_none.1 hfind f hmem) (by simp)
  | some g =>
    obtain ⟨d, hd, hg⟩ := List.mem_filterMap.1 (List.mem_of_find?_eq_some hfind)
    have hcue : g.cue = f.cue := by simpa using List.find?_some hfind
    rw [Option.map_some, halike c hc d hd f g hf hg hcue]

theorem cueIsDue_iff {l : LightState} (halike : StagedAlike l.channels) (hc : c ∈ l.channels) (hf : c.staged = some f)
    (hkey : f.cue = key) : cueIsDue number key l = true ↔ judgeDue number f.wait ≠ .waits := by
  subst hkey
  rw [cueIsDue, stagedOutcome_eq halike hc hf]
  cases judgeDue number f.wait <;> simp

/-- R133: the due staged fades of one cue start, on every channel. -/
theorem startDueCue_channels (h : LightsWork s.lights) (hr : ∀ c ∈ s.lights.channels, c.running) (e : CueEntry) :
    (startDueCue e s).lights.channels = s.lights.channels.map (Channel.takesCue s.beat.number e.key) := by
  rw [startDueCue_lights]
  split
  · next hdue =>
    show (s.lights.channels.map (startStaged e.key)).map Channel.finish = _
    rw [List.map_map]
    refine List.map_congr_left fun c hc => ?_
    rw [Function.comp_apply]
    by_cases hstaged : ∃ f, c.staged = some f ∧ f.cue = e.key
    · obtain ⟨f, hf, hkey⟩ := hstaged
      rw [startStaged_finish hf hkey, takesCue_due hf hkey ((cueIsDue_iff h.cues.alike hc hf hkey).1 hdue)]
    · have hsame : startStaged e.key c = c := by
        unfold startStaged
        split
        · next f hf => exact if_neg fun hkey => hstaged ⟨f, hf, hkey⟩
        · rfl
      rw [hsame, finish_running (hr c hc), takesCue_stays fun f hf hkey => absurd ⟨f, hf, hkey⟩ hstaged]
  · next hnot =>
    refine ((List.map_congr_left fun c hc => ?_).trans (List.map_id _)).symm
    refine takesCue_stays fun f hf hkey => ?_
    by_contra hd
    exact hnot ((cueIsDue_iff h.cues.alike hc hf hkey).2 hd)

/-! ## All cues (R133) -/

/-- R133: the channel at a boundary, the cues in their order. -/
def Channel.takesCues (number : BitVec 8) (es : List CueEntry) (c : Channel) : Channel :=
  es.foldl (fun c e => c.takesCue number e.key) c

theorem takesCues_rests (h : c.staged = none) (es : List CueEntry) : c.takesCues number es = c := by
  unfold Channel.takesCues
  induction es with
  | nil => rfl
  | cons e es ih =>
    rw [List.foldl_cons, takesCue_stays (by rw [h]; exact nofun)]
    exact ih

theorem takesCues_waits (hf : c.staged = some f) (hw : judgeDue number f.wait = .waits) (es : List CueEntry) :
    c.takesCues number es = c := by
  unfold Channel.takesCues
  induction es with
  | nil => rfl
  | cons e es ih =>
    rw [List.foldl_cons, takesCue_stays (fun g hg _ => by rw [hf] at hg; cases hg; exact hw)]
    exact ih

theorem takesCues_starts (hf : c.staged = some f) (hd : judgeDue number f.wait ≠ .waits) {es : List CueEntry}
    (he : ∃ e ∈ es, e.key = f.cue) : c.takesCues number es = c.startsFade f := by
  induction es with
  | nil => obtain ⟨e, he, -⟩ := he; cases he
  | cons e es ih =>
    by_cases hkey : e.key = f.cue
    · rw [Channel.takesCues, List.foldl_cons, takesCue_due hf hkey.symm hd]
      exact takesCues_rests (startsFade_staged c f) es
    · obtain ⟨x, hx, hxkey⟩ := he
      have hrest : ∃ x ∈ es, x.key = f.cue := ⟨x, (List.mem_cons.1 hx).resolve_left fun h => hkey (h ▸ hxkey), hxkey⟩
      rw [Channel.takesCues, List.foldl_cons, takesCue_stays fun g hg hgkey => by rw [hf] at hg; cases hg; exact absurd hgkey.symm hkey]
      exact ih hrest

/-- R132, R133: a channel whose staged cue is among them takes its staged fade when it is due. -/
theorem takesCues_takesStaged {es : List CueEntry} (he : ∀ f, c.staged = some f → ∃ e ∈ es, e.key = f.cue) :
    TakesStaged number c (c.takesCues number es) := by
  refine ⟨fun f hf hd => ?_, fun hnone => ?_⟩
  · rw [takesCues_starts hf (dueAt_iff.1 hd) (he f hf)]
    rfl
  · cases hf : c.staged with
    | none => exact takesCues_rests hf es
    | some f => exact takesCues_waits hf (by simpa [dueAt_iff] using hnone f hf) es

theorem startDueCues_channels (es : List CueEntry) : ∀ s : State, LightsWork s.lights → (∀ c ∈ s.lights.channels, c.running) →
    (es.foldl (fun s e => startDueCue e s) s).lights.channels = s.lights.channels.map (Channel.takesCues s.beat.number es) := by
  induction es with
  | nil => intro s _ _; exact (List.map_id _).symm
  | cons e es ih =>
    intro s h hr
    obtain ⟨hwork, hrun⟩ := startDueCues_lightsWork [e] s h hr
    obtain ⟨-, -, -, -, -, -, -, -, -, -, hbeat, -⟩ := startDueCue_frame s e
    rw [List.foldl_cons, ih (startDueCue e s) hwork hrun, startDueCue_channels h hr, hbeat, List.map_map]
    rfl

theorem startDueCue_master (e : CueEntry) (s : State) : (startDueCue e s).lights.master = s.lights.master := by
  rw [startDueCue_lights]
  split <;> rfl

/-! ## The whole part (R133 to R137) -/

/-- R133, R134: a channel makes its step and then takes its staged fade. -/
theorem lightBoundary_channel (h : Lit s) {n : Nat} (hc : s.lights.channels[n]? = some c) :
    ∃ after, TakesStaged s.beat.number c.advanced after ∧ (lightBoundary s).lights.channels[n]? = some (after.atLevel s) := by
  obtain ⟨hwork, hrun⟩ := h.stepped.finish
  rw [← stepFades_lights] at hwork hrun
  have hmem := List.mem_of_getElem? hc
  have hstep : c.step.finish = c.advanced := step_finish ((channelOk_iff c).2 ⟨h.channels c hmem, h.running c hmem⟩)
  have hchannels : (stepFades s).lights.channels = s.lights.channels.map (fun c => c.step.finish) := by
    rw [stepFades_lights]
    exact List.map_map
  have hin : c.advanced ∈ (stepFades s).lights.channels := by
    rw [hchannels, ← hstep]
    exact List.mem_map.2 ⟨c, hmem, rfl⟩
  have hmaster : ((stepFades s).lights.cues.foldl (fun s e => startDueCue e s) (stepFades s)).lights.master = s.lights.master := by
    rw [foldl_keeps (fun s => s.lights.master) _ (fun s e => startDueCue_master e s), stepFades_lights]
    rfl
  obtain ⟨-, -, -, -, -, -, -, -, hcond, -, hbeat, -⟩ := stepFades_frame s
  refine ⟨c.advanced.takesCues s.beat.number (stepFades s).lights.cues, takesCues_takesStaged fun f hf =>
    hwork.cues.entry _ hin f.cue (.inl (by rw [Channel.stagedKey, hf]; rfl)), ?_⟩
  rw [lightBoundary, refreshLights, setLights_lights, refresh_channels, startDueCues_channels _ _ hwork hrun, startDueCues_condition,
    hmaster, hcond, hbeat, hchannels, List.map_map, List.map_map, List.getElem?_map, hc, Option.map_some, Function.comp_apply,
    Function.comp_apply, hstep, recode_eq]

end Sys2Proof.Machine
end

section
/-! PROOFS. A boundary at the peer table, the transmit queue, the Call Unit and the curtain (R45, R53, R105, R152, R153). -/

namespace Sys2Proof.Machine

variable {s : State} {e : CallEntry} {u b : Bool} {A B : Prop}

/-! ## The peer table and the listen count (R45, R174) -/

theorem agePeers_table (s : State) : (agePeers s).peers.table = s.peers.table.map (PeerEntry.age s.cfg.statusInterval) := by
  rw [agePeers_eq]
  split <;> simp [aged]

theorem advanceSchedule_table (s : State) : (advanceSchedule s).peers.table = s.peers.table := by
  unfold advanceSchedule offerStatus
  (repeat' split) <;> simp

theorem advanceAnyPeer_table (s : State) : (advanceAnyPeer s).peers.table = s.peers.table := by
  simp [advanceAnyPeer]

theorem loaderBoundary_table (s : State) : (loaderBoundary s).peers.table = s.peers.table := by
  unfold loaderBoundary
  dsimp only
  (repeat' split) <;> simp [enterActive_table]

/-- R45: at a boundary every entry ages, and no block changes the table further. -/
theorem deliverBoundary_table (s : State) :
    (deliverBoundary s).peers.table = s.peers.table.map (PeerEntry.age s.cfg.statusInterval) := by
  rw [deliverBoundary, loaderBoundary_table]
  simp [peerBoundary, advanceAnyPeer_table, advanceSchedule_table, agePeers_table, State.cfg]

theorem loaderBoundary_listenCount (h : s.phase = .listen) : (loaderBoundary s).listenCount = s.listenCount + 1 := by
  rw [loaderBoundary, if_neg (not_not.2 h)]
  dsimp only
  split <;> simp

theorem deliverBoundary_listenCount (h : s.phase = .listen) : (deliverBoundary s).listenCount = s.listenCount + 1 := by
  rw [deliverBoundary, loaderBoundary_listenCount (by simpa using h)]
  simp

theorem releasePlacement_underway (s : State) : (releasePlacement s).boundaryUnderway = false := by
  unfold releasePlacement
  dsimp only
  split <;> simp

theorem deliverBoundary_underway (s : State) : (deliverBoundary s).boundaryUnderway = false := by
  simp [deliverBoundary, releasePlacement_underway]

/-! ## The transmit queue of a station without a curtain (R53) -/

theorem joinQueue_length (f : Payload) (q : List Payload) : (joinQueue f q).length = q.length + 1 := (joinQueue_perm f q).length_eq

/-- R37 to R39: an offer lengthens the queue by one frame at most. -/
theorem offer_length (f : Payload) (s : State) : (offer f s).line.tx.length ≤ s.line.tx.length + 1 := by
  unfold offer
  split
  · omega
  split
  · show (replaceIn f s.line.tx).length ≤ _
    rw [replaceIn, List.length_map]
    omega
  split
  · exact (joinQueue_length _ _).le
  split
  · split
    · show (joinQueue f s.line.tx.dropLast).length ≤ _
      rw [joinQueue_length, List.length_dropLast]
      omega
    · omega
  · exact Nat.le_succ _

/-- R38: a frame offered where there is room waits in the queue, in its own place or in that of the one it replaces. -/
theorem offer_waits {f : Payload} (hp : s.phase = .active) (hl : s.line.tx.length < 8) : f ∈ (offer f s).line.tx := by
  cases hw : waits f s.line.tx with
  | true =>
    obtain ⟨g, hg, hsort⟩ := waits_iff.1 hw
    rw [offer_replaces hp hw]
    exact List.mem_map.2 ⟨g, hg, if_pos hsort⟩
  | false =>
    rw [offer_joins hp hw hl]
    exact joinQueue_mem f _

/-- R111: without a curtain no condition reaches the transmit queue. -/
theorem recompute_absent (h : s.curtain.state = none) : (recompute s).line = s.line ∧ (recompute s).curtain = s.curtain := by
  unfold recompute
  dsimp only
  split
  · exact ⟨rfl, rfl⟩
  · generalize hv : report (.conditionChanged s.condition s.computedCondition s.faults) (s.setCondition s.computedCondition) = v
    have hcurtain : v.curtain = s.curtain := by rw [← hv]; rfl
    have hline : v.line = s.line := by rw [← hv]; rfl
    have hstays : curtainCondition v = v := by
      rw [curtainCondition, hcurtain, h]
      split <;> rfl
    rw [deliverCondition, hstays, ← hcurtain, ← hline]
    simp

theorem putPeerFault_absent (h : s.curtain.state = none) (x : StationFault) (v : Bool) :
    (putPeerFault x v s).line = s.line ∧ (putPeerFault x v s).curtain = s.curtain := by
  obtain ⟨hline, hcurtain⟩ := recompute_absent (s := report (.stationFaultChanged x v) (s.setFaults (s.faults.put x v))) h
  have hnone := failSafe_absent (s := peerFaultTaken x v s) ((congrArg CurtainRecord.state hcurtain).trans h)
  by_cases hsame : s.faults.get x = v
  · rw [putPeerFault_same hsame]
    exact ⟨rfl, rfl⟩
  · rw [putPeerFault_taken hsame, hnone, ite_self]
    exact ⟨hline, hcurtain⟩

theorem judgeRequired_absent (h : s.curtain.state = none) :
    (judgeRequired s).line = s.line ∧ (judgeRequired s).curtain = s.curtain := by
  unfold judgeRequired
  split
  · exact putPeerFault_absent h _ _
  · exact ⟨rfl, rfl⟩

theorem agePeers_absent (h : s.curtain.state = none) : (agePeers s).line = s.line ∧ (agePeers s).curtain = s.curtain := by
  have haged : (aged s).line = s.line ∧ (aged s).curtain = s.curtain := by simp [aged]
  obtain ⟨hline, hcurtain⟩ := haged
  rw [agePeers_eq]
  split
  · obtain ⟨hline', hcurtain'⟩ := judgeRequired_absent (s := aged s) (by rw [hcurtain]; exact h)
    exact ⟨hline'.trans hline, hcurtain'.trans hcurtain⟩
  · exact ⟨hline, hcurtain⟩

theorem advanceSchedule_length (s : State) : (advanceSchedule s).line.tx.length ≤ s.line.tx.length + 1 := by
  unfold advanceSchedule
  split
  · omega
  split
  · exact offer_length _ s
  · exact Nat.le_succ _

theorem advanceAnyPeer_absent (h : s.curtain.state = none) :
    (advanceAnyPeer s).line = s.line ∧ (advanceAnyPeer s).curtain = s.curtain := by
  unfold advanceAnyPeer judgeAlone
  split
  · exact putPeerFault_absent (s := s.setPeers { s.peers with anyPeer := bump 255 s.peers.anyPeer }) h _ _
  · exact ⟨rfl, rfl⟩

/-- R53: of the Peer Monitor's part of a boundary the own STATUS alone joins the queue. -/
theorem peerBoundary_absent (h : s.curtain.state = none) :
    (peerBoundary s).line.tx.length ≤ s.line.tx.length + 1 ∧ (peerBoundary s).curtain = s.curtain := by
  obtain ⟨hline, hcurtain⟩ := agePeers_absent h
  have hlength := advanceSchedule_length (agePeers s)
  obtain ⟨-, -, -, -, -, -, -, -, -, -, hcurtain', -⟩ := advanceSchedule_frame (agePeers s)
  obtain ⟨hline', hcurtain''⟩ := advanceAnyPeer_absent (s := advanceSchedule (agePeers s)) (by rw [hcurtain', hcurtain]; exact h)
  rw [hline] at hlength
  rw [peerBoundary, hline', hcurtain'']
  exact ⟨hlength, hcurtain'.trans hcurtain⟩

theorem curtainBoundary_line_absent (h : s.curtain.state = none) : (curtainBoundary s).line = s.line := by
  unfold curtainBoundary lapseHold
  split
  · rfl
  · dsimp only
    rw [setCurtain_curtain, h]
    split <;> rfl

/-- R53, R105, R174: in ACTIVE a boundary at a station without a curtain queues one frame at most. -/
theorem deliverBoundary_length (hp : s.phase = .active) (h : s.curtain.state = none) :
    (deliverBoundary s).line.tx.length ≤ s.line.tx.length + 1 := by
  obtain ⟨hlength, hcurtain⟩ := peerBoundary_absent (s := s.setBoundaryUnderway true) h
  generalize hv : releasePlacement (callBoundary (lightBoundary (peerBoundary (s.setBoundaryUnderway true)))) = v
  have hvcurtain : v.curtain.state = none := by
    rw [← hv]
    simpa [hcurtain] using h
  have hvline : v.line = (peerBoundary (s.setBoundaryUnderway true)).line := by
    rw [← hv]
    simp
  have hphase : (curtainBoundary v).phase = .active := by
    rw [← hv]
    simpa using hp
  have hloader : loaderBoundary (curtainBoundary v) = curtainBoundary v := if_pos (by rw [hphase]; decide)
  rw [deliverBoundary, hv, hloader, curtainBoundary_line_absent hvcurtain, hvline]
  exact hlength

/-! ## The Call Unit's part (R152, R153) -/

/-- R154: the calls once an entry has started. -/
def CallState.starting (e : CallEntry) (c : CallState) : CallState :=
  { c with
    queue := c.queue.map (fun x => if x.key = e.key then { x with started := true, playing := true } else x)
    cadence := .playing, chosen := some e.key, wait := none
    position := some { cycle := 0, phase := .on, time := 0 } }

/-- R153: the calls while an entry waits. -/
def CallState.awaiting (e : CallEntry) (w : Wait) (c : CallState) : CallState :=
  { c with cadence := .waitingStart, chosen := some e.key, wait := some w }

theorem startEntry_calls (e : CallEntry) (s : State) : (startEntry e s).calls = s.calls.starting e := by
  unfold startEntry
  dsimp only
  split
  · rfl
  split
  · rfl
  · simp
    rfl

/-- R153: at a boundary an entry that has started, or asks no beat, starts. -/
theorem judgeChosen_plays (h : e.started = true ∨ e.start = .now ∨ e.start = .nextBoundary) :
    (judgeChosen true e s).calls = s.calls.starting e := by
  unfold judgeChosen
  split
  · exact startEntry_calls e s
  · next hnot =>
    rcases h.resolve_left hnot with h | h <;> rw [h]
    · exact startEntry_calls e s
    · exact startEntry_calls e s

theorem judgeChosen_seeking {m : BitVec 8} (hst : e.started = false) (hm : e.start = .atBeat m) (hl : s.beat.lock = .seeking) :
    (judgeChosen true e s).calls = s.calls.awaiting e .next := by
  rw [judgeChosen, hst, hm, hl]
  rfl

/-- R76, R153: at a boundary in LOCKED an entry for a beat starts when that beat is due, and waits for it otherwise. -/
theorem judgeChosen_locked {m : BitVec 8} (hst : e.started = false) (hm : e.start = .atBeat m) (hl : s.beat.lock = .locked) :
    (dueAt s.beat.number (.beat m) → (judgeChosen true e s).calls = s.calls.starting e)
      ∧ (¬dueAt s.beat.number (.beat m) → (judgeChosen true e s).calls = s.calls.awaiting e (.beat m)) := by
  have hlt := (m - s.beat.number).isLt
  unfold judgeChosen dueAt beatsAhead
  rw [hst, hm, hl]
  dsimp only
  refine ⟨fun h => ?_, fun h => ?_⟩
  · rw [if_neg Bool.false_ne_true, if_neg (by omega)]
    split
    · exact startEntry_calls e s
    · exact startEntry_calls e _
  · rw [if_neg Bool.false_ne_true, if_pos (by omega)]
    rfl

/-- R152: from rest the Call Unit makes a choice. -/
theorem callBoundary_rests (h : s.calls.cadence = .idle ∨ s.calls.cadence = .resting) :
    callBoundary s = choose true (s.setCalls { s.calls with cadence := .idle }) := by
  unfold callBoundary
  rcases h with h | h <;> rw [h]
  have hsame : s.setCalls { s.calls with cadence := .idle } = s := by rw [← h]; rfl
  rw [hsame]

theorem callBoundary_none (h : s.calls.cadence = .idle ∨ s.calls.cadence = .resting) (hch : s.calls.chosen = none)
    (hw : s.calls.wait = none) (hnone : s.calls.queue.find? (mayPlay s.calls.pause) = none) :
    (callBoundary s).calls = { s.calls with cadence := .idle } := by
  rw [callBoundary_rests h, choose, if_pos (.inl rfl), setCalls_calls]
  dsimp only
  rw [hnone, setCalls_calls, hch, hw]

theorem callBoundary_some (h : s.calls.cadence = .idle ∨ s.calls.cadence = .resting)
    (hsome : s.calls.queue.find? (mayPlay s.calls.pause) = some e) :
    callBoundary s = judgeChosen true e (s.setCalls { s.calls with cadence := .idle }) := by
  rw [callBoundary_rests h, choose, if_pos (.inl rfl), setCalls_calls]
  dsimp only
  rw [hsome]
  exact if_neg fun hwait => by cases hwait.1

/-- R153: a wait is judged at the boundary. -/
theorem callBoundary_waiting {k : CallKey} {w : Wait} (hcad : s.calls.cadence = .waitingStart) (hk : s.calls.chosen = some k)
    (hw : s.calls.wait = some w) (he : s.calls.queue.find? (fun x => x.key == k) = some e) :
    (dueAt s.beat.number w → (callBoundary s).calls = s.calls.starting e)
      ∧ (¬dueAt s.beat.number w → callBoundary s = s) := by
  have hfound : s.calls.chosen.bind (fun k => findCall k s.calls.queue) = some e := by rw [hk]; exact he
  unfold callBoundary
  rw [hcad, hfound, hw, dueAt_iff]
  dsimp only
  cases judgeDue s.beat.number w with
  | onTime => exact ⟨fun _ => startEntry_calls e s, fun h => absurd nofun h⟩
  | late n => exact ⟨fun _ => startEntry_calls e _, fun h => absurd nofun h⟩
  | waits => exact ⟨fun h => absurd rfl h, fun _ => rfl⟩

theorem callBoundary_playing (h : s.calls.cadence = .playing) : callBoundary s = s := by rw [callBoundary, h]

/-! ## The delivery as a whole (R65) -/

theorem Inv.underway_set (h : Inv false A B b s) : Inv true A B b (s.setBoundaryUnderway true) :=
  { h with underway := rfl, held := fun _ => rfl }

/-- R65, R133: with no linked cue waiting, the lights after a boundary are those of the Light Fader's part. -/
theorem deliverBoundary_channel (h : Inv false A B true s) (hu : Unlinked s) {n : Nat} {c : Channel}
    (hc : s.lights.channels[n]? = some c) :
    ∃ after, TakesStaged s.beat.number c.advanced after ∧ (deliverBoundary s).lights.channels[n]? = some (after.atLevel s) := by
  have hpeer := h.underway_set.peerBoundary
  obtain ⟨hunlinked, hlights, hcond⟩ := (peerBoundary_spares h.underway_set).lights hu
  obtain ⟨-, -, -, -, -, -, hbeat, -⟩ := peerBoundary_frame (s.setBoundaryUnderway true)
  unfold deliverBoundary
  generalize peerBoundary (s.setBoundaryUnderway true) = v at *
  obtain ⟨after, htakes, hafter⟩ := lightBoundary_channel hpeer.lights (show v.lights.channels[n]? = some c by rw [hlights]; exact hc)
  have hcalls := ((callBoundary_spares (lightBoundary v)).trans (releasePlacement_spares _)).trans
    (curtainBoundary_spares hpeer.lightBoundary.callBoundary.releasePlacement).lights
  have hloader := hcalls.trans (loaderBoundary_spares hpeer.lightBoundary.callBoundary.releasePlacement.curtainBoundary).lights
  obtain ⟨-, hsame, -⟩ := hloader (by rw [Unlinked, show (lightBoundary v).calls = v.calls by simp]; exact hunlinked)
  have hlevel : after.atLevel v = after.atLevel s := by
    unfold Channel.atLevel
    rw [hcond, hlights]
    rfl
  refine ⟨after, by rw [hbeat] at htakes; exact htakes, ?_⟩
  rw [hsame, ← hlevel]
  exact hafter

/-- R65: at a station without a curtain the calls after a boundary are those of the Call Unit's part. -/
theorem deliverBoundary_calls (h : Inv false A B true s) (hheld : s.placementHeld = false) (hnone : s.curtain.state = none) :
    ∃ v, v.calls = s.calls ∧ v.beat = s.beat ∧ (deliverBoundary s).calls = (callBoundary v).calls := by
  have hpeer := h.underway_set.peerBoundary
  obtain ⟨hcalls, hcurtain, hheld'⟩ := (peerBoundary_spares h.underway_set).absent hnone
  obtain ⟨-, -, -, -, -, -, hbeat, -⟩ := peerBoundary_frame (s.setBoundaryUnderway true)
  unfold deliverBoundary
  generalize peerBoundary (s.setBoundaryUnderway true) = v at *
  have hrelease : releasePlacement (callBoundary (lightBoundary v)) = (callBoundary (lightBoundary v)).setBoundaryUnderway false := by
    have hfalse : (callBoundary (lightBoundary v)).placementHeld = false := by
      simpa [hheld'] using hheld
    rw [releasePlacement]
    exact if_neg (by rw [setBoundaryUnderway_placementHeld, hfalse]; decide)
  have hrest := hpeer.lightBoundary.callBoundary.releasePlacement
  obtain ⟨hsame, -, -⟩ := ((curtainBoundary_spares hrest).trans (loaderBoundary_spares hrest.curtainBoundary)).absent
    (by simpa [hcurtain] using hnone)
  refine ⟨lightBoundary v, ?_, ?_, ?_⟩
  · simpa using hcalls
  · simpa using hbeat
  · rw [hsame, hrelease]
    rfl

/-! ## The curtain's part (R105) -/

/-- R45, R56: without required stations, and with the solo flag, a boundary moves the curtain by its hold alone. -/
theorem peerBoundary_solo (hsolo : s.cfg.solo = true) (hreq : s.cfg.required = []) : (peerBoundary s).curtain = s.curtain := by
  have hage : agePeers s = aged s := by
    rw [agePeers_eq]
    refine if_neg ?_
    simp [isRequired, hreq]
  have hcfg : (advanceSchedule (aged s)).cfg = s.cfg := by simp [State.cfg, aged]
  unfold peerBoundary advanceAnyPeer judgeAlone
  rw [hage, if_neg (fun h => by
    have hfalse : (advanceSchedule (aged s)).cfg.solo = false := h.2.1
    rw [hcfg, hsolo] at hfalse
    cases hfalse)]
  simp [aged]

theorem judgeRequired_solo (h : Inv u A B true s) (hreq : s.cfg.required = []) : (judgeRequired s).curtain = s.curtain := by
  have hmissing : requiredMissing s = false := by rw [requiredMissing, hreq]; rfl
  unfold judgeRequired
  split
  · rw [hmissing]
    by_cases hsame : s.faults.get .requiredLost = false
    · rw [putPeerFault_same hsame]
    · rw [putPeerFault_taken hsame, if_neg Bool.false_ne_true, peerFaultTaken_eq _ _ (h.settled rfl)]
  · rfl

theorem loaderBoundary_solo (h : Inv u A B true s) (hreq : s.cfg.required = []) : (loaderBoundary s).curtain = s.curtain := by
  unfold loaderBoundary
  split
  · rfl
  dsimp only
  split
  · have hentered : (entered .listenEnd (s.setListenCount (s.listenCount + 1))).cfg = s.cfg
        ∧ (entered .listenEnd (s.setListenCount (s.listenCount + 1))).curtain = s.curtain := by
      simp [entered, State.cfg]
    obtain ⟨hcfg, hcurtain⟩ := hentered
    rw [enterActive_eq, judgeRequired_solo ((h.setListenCount _).entered _) (by rw [hcfg]; exact hreq), hcurtain]
  · rfl

theorem deliverBoundary_curtain (h : Inv false A B true s) (hsolo : s.cfg.solo = true) (hreq : s.cfg.required = []) :
    ∃ v, v.curtain = s.curtain ∧ v.condition = v.computedCondition ∧ (deliverBoundary s).curtain = (curtainBoundary v).curtain := by
  have hinv := h.underway_set.peerBoundary.lightBoundary.callBoundary.releasePlacement
  have hcurtain := peerBoundary_solo (s := s.setBoundaryUnderway true) hsolo hreq
  refine ⟨releasePlacement (callBoundary (lightBoundary (peerBoundary (s.setBoundaryUnderway true)))), ?_, hinv.settled rfl, ?_⟩
  · simpa using hcurtain
  · rw [deliverBoundary, loaderBoundary_solo hinv.curtainBoundary (by simpa [State.cfg] using hreq)]

/-- R105: the hold loses a beat, and lapses at its last. -/
theorem curtainBoundary_hold {x : Hold} (hs : s.condition = s.computedCondition) (hx : s.curtain.hold = some x) :
    (2 ≤ x.remaining → (curtainBoundary s).curtain = { s.curtain with hold := some { x with remaining := x.remaining - 1 } })
      ∧ (x.remaining = 1 → (x.back = .down ∨ x.back = .stopped) → s.curtain.state = some .warnRaise →
          (curtainBoundary s).curtain = curtainRecordAfter x.back s.curtain)
      ∧ (x.remaining = 1 → s.curtain.state = some .raising → (curtainBoundary s).curtain = curtainRecordAfter .stopped s.curtain) := by
  generalize hv : s.setCurtain { s.curtain with hold := some { x with remaining := x.remaining - 1 } } = v
  have hvc : v.condition = v.computedCondition := by rw [← hv]; exact hs
  have hvcurtain : v.curtain = { s.curtain with hold := some { x with remaining := x.remaining - 1 } } := by rw [← hv]; rfl
  have hlapse (h1 : x.remaining = 1) : curtainBoundary s = lapseHold v := by
    rw [curtainBoundary, hx]
    dsimp only
    rw [if_pos (by omega), hv]
  refine ⟨fun h2 => ?_, fun h1 hback hst => ?_, fun h1 hst => ?_⟩
  · rw [curtainBoundary, hx]
    dsimp only
    rw [if_neg (by omega), setCurtain_curtain]
  · obtain ⟨hgo, hraise⟩ := goesDown_back hback
    have hstate : v.curtain.state = some .warnRaise := by rw [hvcurtain]; exact hst
    have hhold : v.curtain.hold = some { x with remaining := x.remaining - 1 } := by rw [hvcurtain]
    rw [hlapse h1, lapseHold, hstate, hhold]
    dsimp only
    rw [(curtainTook_change hvc hgo .holdLapse).curtain, hvcurtain]
    exact recordAfter_endsHold _ _ (by rw [hst]; rfl) hraise
  · have hstate : v.curtain.state = some .raising := by rw [hvcurtain]; exact hst
    have hhold : v.curtain.hold = some { x with remaining := x.remaining - 1 } := by rw [hvcurtain]
    rw [hlapse h1, lapseHold, hstate, hhold]
    dsimp only
    rw [(curtainTook_change hvc (new := .stopped) rfl .holdLapse).curtain, hvcurtain]
    exact recordAfter_endsHold _ _ (by rw [hst]; rfl) rfl

end Sys2Proof.Machine
end

section
/-! PROOFS. The expiry of the beat timer (04 section 4.2). -/

namespace Sys2Proof.Machine

variable {s : State}

/-! ## The state whose boundary an expiry delivers (R64) -/

/-- R64: the beat number one higher, and the timer at its start. -/
def nextBeat (s : State) : State := s.setBeat { s.beat with number := s.beat.number + 1, position := 0, stepIndex := 0 }

theorem expireBeat_eq (s : State) : expireBeat s =
    if offersBeat s then offer (.beat (s.beat.number + 1)) (deliverBoundary (nextBeat s)) else deliverBoundary (nextBeat s) := rfl

theorem deliverBoundary_nextBeat (s : State) : deliverBoundary (nextBeat s) = takeBoundary (s.beat.number + 1) s := rfl

/-- R64: the offer of the BEAT leaves what the boundary has made of the blocks, the line apart. -/
theorem expireBeat_delivers (s : State) :
    (expireBeat s).phase = (deliverBoundary (nextBeat s)).phase
      ∧ (expireBeat s).listenCount = (deliverBoundary (nextBeat s)).listenCount
      ∧ (expireBeat s).peers = (deliverBoundary (nextBeat s)).peers
      ∧ (expireBeat s).beat = (deliverBoundary (nextBeat s)).beat
      ∧ (expireBeat s).curtain = (deliverBoundary (nextBeat s)).curtain
      ∧ (expireBeat s).lights = (deliverBoundary (nextBeat s)).lights
      ∧ (expireBeat s).calls = (deliverBoundary (nextBeat s)).calls
      ∧ (expireBeat s).boundaryUnderway = (deliverBoundary (nextBeat s)).boundaryUnderway := by
  rw [expireBeat_eq]
  generalize deliverBoundary (nextBeat s) = d
  split <;> simp

theorem nextBeat_inv (h : DeviceLaws s) (hw : s.working = true) : Inv false (MayRaise s) (MayLower s) true (nextBeat s) := by
  have hinv := inv_of_laws h hw
  exact hinv.setBeat (hinv.beat.restart rfl (by dsimp only; omega))

/-- R144: at rest no entry is chosen and none waits. -/
theorem cadence_rests (h : CadenceLaw s) (hr : s.calls.cadence = .idle ∨ s.calls.cadence = .resting) :
    s.calls.chosen = none ∧ s.calls.wait = none := by
  obtain ⟨hchosen, hwait, -⟩ := h
  rcases hr with hr | hr <;> rw [hr] at hchosen hwait <;>
    exact ⟨Option.not_isSome_iff_eq_none.1 (by rw [hchosen]; decide), Option.not_isSome_iff_eq_none.1 (by rw [hwait]; decide)⟩

/-- R64, R65: what an expiry makes of the calls of a station without a curtain. -/
theorem expireBeat_calls (h : DeviceLaws s) (hw : s.working = true) (hnone : s.curtain.state = none) :
    ∃ v, v.calls = s.calls ∧ v.beat = (nextBeat s).beat ∧ (expireBeat s).calls = (callBoundary v).calls := by
  have hrest : RestLaw s := by
    obtain ⟨-, -, hrest, -⟩ := h
    exact hrest
  obtain ⟨-, hheld⟩ := hrest
  obtain ⟨v, hcalls, hbeat, hsame⟩ := deliverBoundary_calls (nextBeat_inv h hw) hheld hnone
  obtain ⟨-, -, -, -, -, -, hdelivers, -⟩ := expireBeat_delivers s
  exact ⟨v, hcalls, hbeat, hdelivers.trans hsame⟩

/-- R64: where there is room, the BEAT of the new number waits in the queue. -/
theorem expireBeat_tx (hp : s.phase = .active) (hsync : s.beat.sync ≠ .monitor) (hnone : s.curtain.state = none)
    (hl : s.line.tx.length ≤ 6) : .beat (s.beat.number + 1) ∈ (expireBeat s).line.tx := by
  have hlength := deliverBoundary_length (s := nextBeat s) hp hnone
  have hphase : (deliverBoundary (nextBeat s)).phase = .active := by
    rw [deliverBoundary_nextBeat, takeBoundary_phase, if_neg (fun h => by rw [hp] at h; cases h.1), hp]
  have hoffers : offersBeat s = true := by simp [offersBeat, hp, hsync]
  rw [expireBeat_eq, if_pos hoffers]
  refine offer_waits hphase ?_
  have hsame : (nextBeat s).line.tx.length = s.line.tx.length := rfl
  omega

/-- Settles O28: the boundary is delivered block by block, and the BEAT is offered after it. -/
theorem beatExpiryAdvancesTheBeat : Obligations.BeatExpiryAdvancesTheBeat := by
  intro s hw hrun hover number
  have hrow : exec .beatExpiry s = .next (expireBeat s) := by
    rw [exec_beatExpiry, whileWorking, if_pos hw, beatDue, hover, if_neg Bool.false_ne_true, if_pos hrun]
  obtain ⟨hphase, hlisten, hpeers, hbeat, hcurtain, hlights, -, hunderway⟩ := expireBeat_delivers s
  obtain ⟨hmode, hconfig, -, -, hzones, hpins, -⟩ := expireBeat_frame s
  rw [deliverBoundary_nextBeat, takeBoundary_phase] at hphase
  rw [deliverBoundary_nextBeat, takeBoundary_beat] at hbeat
  refine ⟨_, hrow, hbeat, ?_, fun hl => ⟨hlisten.trans (deliverBoundary_listenCount (s := nextBeat s) hl), ?_⟩, fun hact => ?_,
    expireBeat_tx, hzones, hmode, hconfig, hpins, hunderway.trans (deliverBoundary_underway _),
    fun hlaws hlinked n c hc => ?lights, fun hlaws hnone => ?calls, fun hlaws hsolo hreq x hx => ?curtain⟩
  · rw [hpeers, deliverBoundary_table]
    rfl
  · rw [hphase, hl]
    simp
  · rw [hphase, hact]
    simp
  case lights =>
    rw [hlights]
    exact deliverBoundary_channel (nextBeat_inv hlaws hw) hlinked hc
  case calls =>
    intro first rests plays awaits
    have hcadence : CadenceLaw s := by
      obtain ⟨-, -, -, -, -, -, -, -, -, -, -, -, -, -, -, -, -, -, -, -, -, hcadence, -⟩ := hlaws
      exact hcadence
    obtain ⟨v, hv, hvbeat, hcalls⟩ := expireBeat_calls hlaws hw hnone
    have hnumber : v.beat.number = number := by rw [hvbeat]; rfl
    have hlock : v.beat.lock = s.beat.lock := by rw [hvbeat]; rfl
    have hplays {y : CallEntry} (h : (callBoundary v).calls = s.calls.starting y) : plays y := hcalls.trans h
    refine ⟨fun hplay => ?_, fun hrest hfirst => ?_, fun y hrest hfirst => ?_, fun k w y hcad hk hwait hy => ?_⟩
    · rw [hcalls, callBoundary_playing (by rw [hv]; exact hplay), hv]
    · obtain ⟨hchosen, hwait⟩ := cadence_rests hcadence hrest
      rw [hcalls, callBoundary_none (by rw [hv]; exact hrest) (by rw [hv]; exact hchosen) (by rw [hv]; exact hwait)
        (by rw [hv]; exact hfirst), hv]
    · have hchoice := callBoundary_some (s := v) (e := y) (by rw [hv]; exact hrest) (by rw [hv]; exact hfirst)
      generalize hr : v.setCalls { v.calls with cadence := .idle } = r at hchoice
      have hrbeat : r.beat = v.beat := by rw [← hr]; rfl
      have hstarts : r.calls.starting y = s.calls.starting y := by rw [← hr, ← hv]; rfl
      have hwaits (w : Wait) : r.calls.awaiting y w = s.calls.awaiting y w := by rw [← hr, ← hv]; rfl
      refine ⟨fun hnow => hplays ?_, fun m hst hm => ⟨fun hl => ?_, fun hl hd => hplays ?_, fun hl hd => ?_⟩⟩
      · rw [hchoice, judgeChosen_plays hnow, hstarts]
      · exact hcalls.trans (by rw [hchoice, judgeChosen_seeking hst hm (by rw [hrbeat, hlock, hl]), hwaits]; rfl)
      · obtain ⟨hdue, -⟩ := judgeChosen_locked (s := r) hst hm (by rw [hrbeat, hlock, hl])
        rw [hchoice, hdue (by rw [hrbeat, hnumber]; exact hd), hstarts]
      · obtain ⟨-, hlater⟩ := judgeChosen_locked (s := r) hst hm (by rw [hrbeat, hlock, hl])
        exact hcalls.trans (by rw [hchoice, hlater (by rw [hrbeat, hnumber]; exact hd), hwaits]; rfl)
    · obtain ⟨hdue, hlater⟩ := callBoundary_waiting (s := v) (by rw [hv]; exact hcad) (by rw [hv]; exact hk) (by rw [hv]; exact hwait)
        (by rw [hv]; exact hy)
      rw [hnumber] at hdue hlater
      refine ⟨fun hd => hplays (by rw [hdue hd, hv]), fun hd => ?_⟩
      rw [hcalls, hlater hd, hv]
  case curtain =>
    have hinv := inv_of_laws hlaws hw
    obtain ⟨-, -, hback⟩ := hinv.curtain.holdFits x hx
    obtain ⟨v, hv, hcond, hsame⟩ := deliverBoundary_curtain (nextBeat_inv hlaws hw) hsolo hreq
    have hv : v.curtain = s.curtain := hv
    obtain ⟨hlonger, hwarn, hraise⟩ := curtainBoundary_hold hcond (by rw [hv]; exact hx)
    rw [hv] at hlonger hwarn hraise
    rw [hcurtain, hsame]
    exact ⟨hlonger, fun h1 => hwarn h1 hback, hraise⟩

end Sys2Proof.Machine
end
